-- ==== Sys2Proof/Word.lean ====
section
/-! DEFINITION. The byte and check words of the two lines, and the tables numbered from 1. -/

namespace Sys2Proof

/-- A byte of the Control Link (R181). -/
abbrev Byte := BitVec 8

/-- The 16-bit check word of a frame (R181, R171). -/
abbrev CheckWord := BitVec 16

/-- The member numbered `n` of a table whose numbers run from 1 (transmitters, antennas, columns, addresses,
counters); `none` for 0 and past the end. -/
def nth {α : Type} (l : List α) (n : Nat) : Option α :=
  if n = 0 then none else l[n - 1]?

/-- Change the member numbered `n` of a table numbered from 1; a number outside the table changes nothing. -/
def updNth {α : Type} (l : List α) (n : Nat) (f : α → α) : List α :=
  if n = 0 then l else l.modify (n - 1) f

/-- The numbers 1 to `n`, ascending. -/
def upTo (n : Nat) : List Nat := (List.range n).map (· + 1)

end Sys2Proof
end

