-- ==== Sys2Proof/Config.lean ====
section
/-! DEFINITION. What the manual fixes for every part: sizes, limits and constants. The manual leaves no result of a
command as an undefined value, so there is no free value here. -/

namespace Sys2Proof.Config

/-- Transmitters, rows of the matrix (00, Numbering of equipment). -/
def transmitters : Nat := 16
/-- Antennas (00, Numbering of equipment). -/
def antennas : Nat := 32
/-- Columns of the matrix: the antennas and the two dummy loads (00, R13). -/
def columns : Nat := 34
/-- Columns of DL1 and DL2 (R13). -/
def dl1 : Nat := 33
def dl2 : Nat := 34
/-- Field Line addresses 1 to 63 (R170). -/
def addresses : Nat := 63
/-- Order Table records (R59, R68). -/
def maxOrders : Nat := 32
/-- Deferred occurrences (R61). -/
def maxDeferred : Nat := 16
/-- Reports the report queue holds (R184). -/
def maxReports : Nat := 64
/-- Replies that may stand unsent before a frame waits (R182). -/
def maxReplies : Nat := 4
/-- Frames the receive buffer holds (R181). -/
def maxReceived : Nat := 4
/-- Largest body of a frame (R181, R187). -/
def maxBody : Nat := 1024
/-- Fault records the ring holds (R191). -/
def maxFaults : Nat := 32
/-- Commands the line command queue holds (R175). -/
def maxCommands : Nat := 32
/-- Entries of one Tuning Memory (R132). -/
def tuningEntries : Nat := 64
/-- Sync byte of a frame (R181). -/
def sync : Byte := 0xA5
/-- Part code and revision number (R187). -/
def partCode : Nat := 0x7420
def revision : Nat := 3
/-- One hall day in seconds (00, Hall time). -/
def daySeconds : Nat := 86400
/-- Minutes of a week (R28). -/
def weekMinutes : Nat := 10080
/-- A hall second is a 32-bit unsigned number (00, Hall time). -/
def hallModulus : Nat := 4294967296
/-- Hall days of 2000-01-01 and 2099-12-31 (R26, R53). -/
def firstDay : Nat := 0
def lastDay : Nat := 36524
/-- Fixed thresholds of a dummy load (R13). -/
def loadWarn : Nat := 40
def loadTrip : Nat := 110
/-- How many messages one command may pass between the blocks, far above what any hall needs (log 4). -/
def agendaFuel : Nat := 4096

end Sys2Proof.Config
end

