-- ==== Sys2Proof/Syntax.lean ====
section
/-! DEFINITION. The commands the block takes: one constructor of `Instr` for each row of spec/opcode_table.json, with
the fields the row's request, event or answer carries. A request carries its fields as its frame does: numbers that may
be out of range, choices by their code (R189), optional values that may be absent. -/

namespace Sys2Proof

/-- Modes of an entry or order (00, Priorities and modes; R16). -/
inductive Mode where
  | am | rcam | dig
  deriving DecidableEq, Repr

/-- Filament as a TLU reports it (R127, R174). -/
inductive Filament where
  | off | heating | ready
  deriving DecidableEq, Repr

/-- Tune status as a TLU reports it (R127, R174). -/
inductive TuneStatus where
  | idle | busy | done | failed
  deriving DecidableEq, Repr

/-- REMOTE or LOCAL: the Hall Key (00, Connections) and a transmitter's own control (R127). -/
inductive Control where
  | remote | local
  deriving DecidableEq, Repr

/-- Position of one switch in an MDU's poll reply (R115, R174). -/
inductive SwitchPos where
  | opened | closed | between
  deriving DecidableEq, Repr

/-- Cause of a miss (R171). -/
inductive MissCause where
  | noAnswer | badCheck | badReply
  deriving DecidableEq, Repr

/-- The command functions of R178. -/
inductive FnCode where
  | filament | mode | tunePreset | tuneSearch | tuneResult | carrier | setpoint | move | slew | stop
  deriving DecidableEq, Repr

/-- A date as a message carries it: year, month, day (R53, R189). -/
structure Date where
  year : Nat
  month : Nat
  day : Nat
  deriving DecidableEq, Repr

/-- Fields 2 to 13 of a TX-DEFINE (1.1, R2); an absent field is `none`; the mode set is a mask, bit 0 AM. -/
structure TxFields where
  tlu : Option Nat := none
  mdu : Option Nat := none
  low : Option Nat := none
  high : Option Nat := none
  rated : Option Nat := none
  modes : Option Nat := none
  standby : Option Nat := none
  warmUp : Option Nat := none
  presetEst : Option Nat := none
  searchEst : Option Nat := none
  ramp : Option Nat := none
  searchPower : Option Nat := none
  deriving DecidableEq, Repr

/-- One segment as an ANT-DEFINE carries it (1.2). -/
structure Segment where
  low : Nat
  high : Nat
  rating : Nat
  deriving DecidableEq, Repr

/-- The rotator part as an ANT-DEFINE carries it (1.2, R9); `continuous` 1 yes, 2 no. -/
structure RotatorFields where
  aru : Nat
  continuous : Option Nat := none
  stopLow : Option Nat := none
  stopHigh : Option Nat := none
  rate : Nat
  deriving DecidableEq, Repr

/-- Fields of an ANT-DEFINE (R10), and the rating alone for a load (R13). -/
structure AntFields where
  kind : Option Nat := none
  segments : List Segment := []
  warn : Option Nat := none
  trip : Option Nat := none
  rotator : Option RotatorFields := none
  rating : Option Nat := none
  deriving DecidableEq, Repr

/-- The thirteen hall parameters of a HALL-SET, each optional (R14). -/
structure HallFields where
  lookAhead : Option Nat := none
  leadMargin : Option Nat := none
  moveEst : Option Nat := none
  credits : Option Nat := none
  proveTime : Option Nat := none
  offConfirm : Option Nat := none
  recovery : Option Nat := none
  tripWindow : Option Nat := none
  tripLimit : Option Nat := none
  coolHold : Option Nat := none
  blindHold : Option Nat := none
  cutoff : Option Nat := none
  opLife : Option Nat := none
  deriving DecidableEq, Repr

/-- Fields of an ENTRY-PUT (R21, R22); `bank` 1 A, 2 B; `days` bit 0 Monday; `suspended` bit 0. -/
structure EntryFields where
  bank : Nat
  number : Nat
  service : Nat
  days : Nat
  start : Nat
  duration : Nat
  tx : Nat
  freq : Nat
  primary : Nat
  alternate : Option Nat := none
  azimuth : Option Nat := none
  power : Nat
  mode : Nat
  priority : Nat
  validFrom : Option Date := none
  validTo : Option Date := none
  suspended : Nat := 0
  deriving DecidableEq, Repr

/-- Fields of an ORDER-MANUAL (R90); start `none` is the word NOW (log 15). -/
structure ManualFields where
  service : Nat
  tx : Nat
  freq : Nat
  primary : Nat
  alternate : Option Nat := none
  azimuth : Option Nat := none
  power : Nat
  mode : Nat
  priority : Nat
  start : Option Nat := none
  ends : Nat
  deriving DecidableEq, Repr

/-- Content of a TLU's poll reply (R174). -/
structure TluReply where
  carrierOn : Bool
  pf : Nat
  pr : Nat
  tuned : Option Nat
  tuneStatus : TuneStatus
  filament : Filament
  fault : Nat
  control : Control
  deriving DecidableEq, Repr

/-- Content of an ARU's poll reply (R174). -/
structure AruReply where
  azimuth : Nat
  moving : Bool
  fault : Bool
  deriving DecidableEq, Repr

/-- A unit's answer to a command (R171, R178): an acknowledgment, with the servo positions a TUNE-RESULT returns, or a
NAK with its refusal code. -/
inductive UnitAnswer where
  | ack (positions : List Nat)
  | nak (code : Nat)
  deriving DecidableEq, Repr

/-- The commands of the block: the rows of spec/opcode_table.json. `tag` is the request's tag (R182). -/
inductive Instr where
  /-- TX_DEFINE (R2): `defined` 1 yes, 2 no. -/
  | txDefine (tag : Nat) (n : Nat) (defined : Nat) (f : TxFields)
  /-- TX_READ (R17). -/
  | txRead (tag : Nat) (n : Nat)
  /-- ANT_DEFINE (R10). -/
  | antDefine (tag : Nat) (n : Nat) (defined : Nat) (f : AntFields)
  /-- ANT_READ (R17). -/
  | antRead (tag : Nat) (n : Nat)
  /-- HALL_SET (R14). -/
  | hallSet (tag : Nat) (f : HallFields)
  /-- HALL_READ (R17). -/
  | hallRead (tag : Nat)
  /-- LINE_SET (R169). -/
  | lineSet (tag : Nat) (rate : Option Nat) (window : Option Nat)
  /-- LINE_READ (R179). -/
  | lineRead (tag : Nat)
  /-- BANK_HEADER (R20). -/
  | bankHeader (tag : Nat) (bank : Nat) (season : Option Nat) (validFrom : Option Date) (validTo : Option Date)
  /-- ENTRY_PUT (R22). -/
  | entryPut (tag : Nat) (f : EntryFields)
  /-- ENTRY_DELETE (R30). -/
  | entryDelete (tag : Nat) (bank : Nat) (number : Nat)
  /-- ENTRY_READ (R32): `selector` 1 EXACT, 2 NEXT. -/
  | entryRead (tag : Nat) (bank : Nat) (number : Nat) (selector : Nat)
  /-- ENTRY_SUSPEND (R34): `action` 1 SET, 2 CLEAR, 3 TOGGLE. -/
  | entrySuspend (tag : Nat) (bank : Nat) (base : Nat) (mask : Nat) (action : Nat)
  /-- BANK_CLEAR (R31). -/
  | bankClear (tag : Nat) (bank : Nat)
  /-- BANK_ARM (R37). -/
  | bankArm (tag : Nat) (bank : Nat) (instant : Nat)
  /-- BANK_DISARM (R38). -/
  | bankDisarm (tag : Nat) (bank : Nat)
  /-- BANK_STATUS (R33). -/
  | bankStatus (tag : Nat)
  /-- TIME_SET (R47). -/
  | timeSet (tag : Nat) (date : Date) (hour : Nat) (minute : Nat) (second : Nat)
  /-- TIME_READ (R52). -/
  | timeRead (tag : Nat)
  /-- AUTOMATION (R55): `value` 1 ON, 2 OFF. -/
  | automation (tag : Nat) (value : Nat)
  /-- ORDER_MANUAL (R90). -/
  | orderManual (tag : Nat) (f : ManualFields)
  /-- ORDER_CANCEL (R89). -/
  | orderCancel (tag : Nat) (id : Nat)
  /-- ORDER_ADVANCE (R66). -/
  | orderAdvance (tag : Nat) (id : Nat)
  /-- ORDER_LIST (R91): transmitter 0 for all. -/
  | orderList (tag : Nat) (n : Nat)
  /-- ORDER_READ (R91). -/
  | orderRead (tag : Nat) (id : Nat)
  /-- ANT_FLAGS (R106): `flag` 1 INHIBITED, 2 SUSPECT, 3 FAULTED; bit k - 1 of the mask is position k. -/
  | antFlags (tag : Nat) (flag : Nat) (action : Nat) (mask : Nat)
  /-- XP_CLEAR (R118): `position` 1 OPEN, 2 CLOSED. -/
  | xpClear (tag : Nat) (row : Nat) (col : Nat) (position : Nat)
  /-- XP_SERVICE (R119): column 0 for the whole row. -/
  | xpService (tag : Nat) (row : Nat) (col : Nat)
  /-- MATRIX_READ (R124): `selector` 1 ROW, 2 COLUMN, 3 DRIVE. -/
  | matrixRead (tag : Nat) (selector : Nat) (n : Nat)
  /-- TX_INHIBIT (R146): bit k - 1 of the mask is transmitter k. -/
  | txInhibit (tag : Nat) (action : Nat) (mask : Nat)
  /-- TX_LOCK_CLEAR (R145). -/
  | txLockClear (tag : Nat) (n : Nat)
  /-- PRESET_PURGE (R147): a frequency or the word ALL. -/
  | presetPurge (tag : Nat) (n : Nat) (freq : Option Nat) (all : Bool)
  /-- PRESET_READ (R147): an index or a frequency. -/
  | presetRead (tag : Nat) (n : Nat) (index : Option Nat) (freq : Option Nat)
  /-- REPORT_SELECT (R185): bit k of the mask is position k. -/
  | reportSelect (tag : Nat) (action : Nat) (mask : Nat)
  /-- COUNTER_SET (R194): `cls` 1 NONE, 2 DIRECTORY and so on in the order of R193. -/
  | counterSet (tag : Nat) (n : Nat) (cls : Nat) (mask : Nat)
  /-- COUNTER_READ (R194): bit k - 1 of the mask is counter k; `zeroing` 1 YES, 2 NO. -/
  | counterRead (tag : Nat) (mask : Nat) (zeroing : Nat)
  /-- FAULT_READ (R192). -/
  | faultRead (tag : Nat) (skip : Nat)
  /-- FAULT_CLEAR (R192). -/
  | faultClear (tag : Nat)
  /-- STORE (R196). -/
  | store (tag : Nat)
  /-- RESTART_ORDERLY (R186). -/
  | restartOrderly (tag : Nat)
  /-- RESTART_IMMEDIATE (R186). -/
  | restartImmediate (tag : Nat)
  /-- IDENTIFY (R187). -/
  | identify (tag : Nat)
  /-- CONTROL_LINK_BYTE (R181). -/
  | controlLinkByte (b : Byte)
  /-- GAP_TIMEOUT (R181). -/
  | gapTimeout
  /-- FRAME_TAKEN (R182). -/
  | frameTaken
  /-- OUTGOING_FRAME_SENT (R184). -/
  | outgoingFrameSent
  /-- POWER_ON (R197). -/
  | powerOn
  /-- HALL_KEY_CHANGE (R54): the position the key turns to. -/
  | hallKeyChange (position : Control)
  /-- SAFETY_CHAIN_OPEN (R95). -/
  | safetyChainOpen
  /-- SAFETY_CHAIN_CLOSE (R96). -/
  | safetyChainClose
  /-- TIME_MARK (R45): `early`, less than half a second after the last second boundary; `windowClosed`, the set window
  of a pending setting has closed (log 7). -/
  | timeMark (early : Bool) (windowClosed : Bool)
  /-- INTERNAL_SECOND_BOUNDARY (R45). -/
  | internalSecondBoundary
  /-- MARK_WATCH_EXPIRY (R46). -/
  | markWatchExpiry
  /-- PREPARATION_BEGIN (R70). -/
  | preparationBegin (id : Nat)
  /-- MOVEMENT_START (R110). -/
  | movementStart
  /-- MOVE_TIMEOUT (R113). -/
  | moveTimeout (row : Nat) (col : Nat)
  /-- SLEW_START (R121). -/
  | slewStart (ant : Nat)
  /-- SLEW_TIMEOUT (R123). -/
  | slewTimeout (ant : Nat)
  /-- POLL_REPLY_TLU (R128). -/
  | pollReplyTlu (addr : Nat) (r : TluReply)
  /-- POLL_REPLY_MDU (R115). -/
  | pollReplyMdu (addr : Nat) (positions : List SwitchPos)
  /-- POLL_REPLY_ARU (R121). -/
  | pollReplyAru (addr : Nat) (r : AruReply)
  /-- TRANSACTION_MISS (R171). -/
  | transactionMiss (cause : MissCause)
  /-- COMMAND_REPLY (R176). -/
  | commandReply (addr : Nat) (fn : FnCode) (answer : UnitAnswer)
  /-- WARM_UP_TIMEOUT (R130). -/
  | warmUpTimeout (n : Nat)
  /-- IDLE_CLOCK_COOL_DOWN (R131). -/
  | idleClockCoolDown (n : Nat)
  /-- SEARCH_TUNE_TIMEOUT (R134). -/
  | searchTuneTimeout (n : Nat)
  /-- PRESET_TUNE_TIMEOUT (R136). -/
  | presetTuneTimeout (n : Nat)
  /-- BLIND_HOLD_EXPIRY (R143). -/
  | blindHoldExpiry (n : Nat)
  /-- RECOVERY_DELAY_EXPIRY (R164). -/
  | recoveryDelayExpiry (n : Nat)
  /-- RAMP_END (R77). -/
  | rampEnd (id : Nat)
  /-- CARRIER_OFF_CONFIRM_TIMEOUT (R81). -/
  | carrierOffConfirmTimeout (id : Nat)
  /-- STORE_WRITE_COMPLETE (R196). -/
  | storeWriteComplete
  /-- POWER_LOSS (R196). -/
  | powerLoss
  deriving DecidableEq, Repr

end Sys2Proof
end

