-- ==== Sys2Proof/Machine/State.lean ====
section
/-! DEFINITION. Every piece of state the manual gives the controller, block by block as 00 lists the fourteen blocks, as
plain data; and its value right after reset. -/

namespace Sys2Proof.Machine

/-- No command stops the part: every fault of the manual is a record, a flag or a report in State, so this type has no
constructor, and no meaning raises one. -/
inductive Fault where
  deriving DecidableEq, Repr

/-- Why a command has no meaning. -/
inductive Refusal where
  /-- Raised by exec's arm for a row that has no meaning yet (safe); no arm raises it now. -/
  | notModelled (mnemonic : String)
  deriving DecidableEq, Repr

/-! ### Names -/

/-- Priorities, highest first (00, Priorities and modes). -/
inductive Priority where
  | essential | normal | fill
  deriving DecidableEq, Repr

/-- The two banks (R19). -/
inductive BankId where
  | a | b
  deriving DecidableEq, Repr

/-- Bank states (R19). -/
inductive BankState where
  | empty | loaded | armed | active
  deriving DecidableEq, Repr

/-- Clock states (R46). -/
inductive ClockState where
  | unset | valid | holdover
  deriving DecidableEq, Repr

/-- Kinds of antenna (1.2). -/
inductive AntKind where
  | fixed | slewable
  deriving DecidableEq, Repr

/-- Stages of an order (section 4.2), numbered from 1 in this order (R189). -/
inductive Stage where
  | staged | warming | clearing | tuning | routing | poised | proving | ramping | onAir | recovering | closing
  deriving DecidableEq, Repr

/-- Outcomes of an order (section 4.2). -/
inductive OrderOutcome where
  | ended | failed | expired | cancelled | preempted | withdrawn
  deriving DecidableEq, Repr

/-- Failure causes (R86). -/
inductive FailCause where
  | noAntenna | warmUpFailed | tuneFailed | routeStuck | slewFailed | vswrLockout | txLockout | txLost
  deriving DecidableEq, Repr

/-- Tune kinds of an order (R68, R133). -/
inductive TuneKind where
  | none | preset | search
  deriving DecidableEq, Repr

/-- Recovery causes (R68). -/
inductive RecoveryCause where
  | trip | safety
  deriving DecidableEq, Repr

/-- States of a directory record (R98). -/
inductive DirState where
  | free | reserved | assigned | parked | unresolved
  deriving DecidableEq, Repr

/-- States of a crosspoint (R107). -/
inductive XpState where
  | opened | closing | closed | opening | unknown | stuck
  deriving DecidableEq, Repr

/-- Directions of a movement (R108). -/
inductive Direction where
  | close | opens
  deriving DecidableEq, Repr

/-- Slew states of a rotator (R121). -/
inductive SlewState where
  | idle | slewing | failed
  deriving DecidableEq, Repr

/-- Transmitter states (section 6.2). -/
inductive TxState where
  | offline | cold | warming | standby | tuning | on | tripped | lockedOut
  deriving DecidableEq, Repr

/-- Kinds of a tune in hand (R127). -/
inductive InHandKind where
  | mode | preset | search
  deriving DecidableEq, Repr

/-- Kinds of a trip (R151). -/
inductive TripKind where
  | vswr | txFault
  deriving DecidableEq, Repr

/-- Kinds of unit board (R170). -/
inductive UnitKind where
  | tlu | mdu | aru
  deriving DecidableEq, Repr

/-- States of a unit table entry (R170). -/
inductive UnitState where
  | unbound | alive | silent
  deriving DecidableEq, Repr

/-- Statuses of a reply, codes 0 to 16 in this order (R183). -/
inductive Status where
  | ok | badKind | badLength | badField | inconsistent | conflict | busy | locked | activeBank | armed | notReady
  | tooSoon | tooLate | full | notFound | unavailable | stateRefused
  deriving DecidableEq, Repr

/-- The four detail bytes of a reply by their meaning (R183). -/
inductive Detail where
  | none
  /-- Field, sub-field, position in a list (BAD-FIELD, INCONSISTENT). -/
  | field (number sub position : Nat)
  /-- Bank (1 A, 2 B) and entry number (INCONSISTENT). -/
  | entry (bank : BankId) (number : Nat)
  /-- Entry number or order id (CONFLICT). -/
  | number (n : Nat)
  /-- The position named (STATE). -/
  | position (n : Nat)
  deriving DecidableEq, Repr

/-- Report kinds, codes E0h to EBh in this order (R184). -/
inductive ReportKind where
  | order | trip | foldback | unit | crosspoint | antenna | season | clock | hall | staging | fault | store
  deriving DecidableEq, Repr

/-- Classes of counting events (R193). -/
inductive StatClass where
  | none | directory | outcome | trip | tune | drive | line | onAir
  deriving DecidableEq, Repr

/-- Kinds of fault record (R190). -/
inductive FaultKind where
  | tripVswr | tripTx | vswrLockout | txLockout | xpStuck | slewFail | tuneFail | unitSilent | carrierOffTimeout
  | safetyOpen | txLost
  deriving DecidableEq, Repr

/-! ### Hall Description (01) -/

/-- A set of modes (1.1, field 7). -/
structure ModeSet where
  am : Bool
  rcam : Bool
  dig : Bool
  deriving DecidableEq, Repr

/-- A defined transmitter record, fields 2 to 14 (1.1). -/
structure TxRec where
  tlu : Nat
  mdu : Nat
  low : Nat
  high : Nat
  rated : Nat
  modes : ModeSet
  standby : Option Nat
  warmUp : Nat
  presetEst : Nat
  searchEst : Nat
  ramp : Nat
  searchPower : Nat
  inhibited : Bool
  deriving DecidableEq, Repr

/-- The rotator part of a SLEWABLE antenna (1.2, R9). -/
structure RotatorPart where
  aru : Nat
  continuous : Bool
  stopLow : Option Nat
  stopHigh : Option Nat
  rate : Nat
  deriving DecidableEq, Repr

/-- A defined antenna record (1.2). -/
structure AntRec where
  kind : AntKind
  segments : List Segment
  warn : Nat
  trip : Nat
  rotator : Option RotatorPart
  deriving DecidableEq, Repr

/-- The thirteen hall parameters (R14). -/
structure HallParams where
  lookAhead : Nat := 20
  leadMargin : Nat := 20
  moveEst : Nat := 6
  credits : Nat := 4
  proveTime : Nat := 3
  offConfirm : Nat := 5
  recovery : Nat := 2
  tripWindow : Nat := 60
  tripLimit : Nat := 3
  coolHold : Nat := 60
  blindHold : Nat := 10
  cutoff : Nat := 2
  opLife : Nat := 200000
  deriving DecidableEq, Repr

/-- The Hall Description. -/
structure Hall where
  tx : List (Option TxRec)
  ant : List (Option AntRec)
  loads : List Nat
  par : HallParams
  deriving DecidableEq, Repr

/-! ### Schedule Banks (02) -/

/-- An entry (R21); dates as hall days. -/
structure Entry where
  number : Nat
  service : Nat
  days : BitVec 7
  start : Nat
  duration : Nat
  tx : Nat
  freq : Nat
  primary : Nat
  alternate : Option Nat
  azimuth : Option Nat
  power : Nat
  mode : Mode
  priority : Priority
  validFrom : Option Nat
  validTo : Option Nat
  suspended : Bool
  deriving DecidableEq, Repr

/-- A set bank header (R19); dates as hall days. -/
structure Header where
  season : Nat
  validFrom : Nat
  validTo : Nat
  deriving DecidableEq, Repr

/-- A bank (R19); entries ascending by number. -/
structure Bank where
  state : BankState := .empty
  header : Option Header := none
  activation : Option Nat := none
  entries : List Entry := []
  deriving DecidableEq, Repr

/-- The Schedule Banks. -/
structure Banks where
  a : Bank := {}
  b : Bank := {}
  deriving DecidableEq, Repr

/-! ### Hall Clock (03) -/

/-- A pending time setting (R47): the hall second it will give, the hall second at which its request was taken, and the
second boundaries its set window has seen (log 7). -/
structure PendingSetting where
  value : Nat
  takenAt : Option Nat
  boundaries : Nat
  deriving DecidableEq, Repr

/-- The Hall Clock (3.1); `watch` is the seconds the mark watch has left. -/
structure Clock where
  time : Option Nat := none
  state : ClockState := .unset
  setting : Option PendingSetting := none
  watch : Nat := 3
  lastInternal : Bool := false
  enable : Bool := false
  deriving DecidableEq, Repr

/-! ### Orders and staging (03, 04) -/

/-- The nine snapshot items (R68). -/
structure Snapshot where
  service : Nat
  tx : Nat
  freq : Nat
  primary : Nat
  alternate : Option Nat
  azimuth : Option Nat
  power : Nat
  mode : Mode
  priority : Priority
  deriving DecidableEq, Repr

/-- What gave rise to an order (R27, R68). -/
inductive Origin where
  | schedule (bank : BankId) (entry : Nat) (start : Nat)
  | manual
  deriving DecidableEq, Repr

/-- A deferred occurrence (R61). -/
structure Deferred where
  bank : BankId
  entry : Nat
  start : Nat
  ends : Nat
  snap : Snapshot
  deriving DecidableEq, Repr

/-- The Staging Engine (3.5). -/
structure Staging where
  through : Option Nat := none
  deferred : List Deferred := []
  deriving DecidableEq, Repr

/-- The work in hand (R68). -/
structure WorkSet where
  claim : Bool := false
  load : Bool := false
  move : Bool := false
  slew : Bool := false
  warmUp : Bool := false
  tune : Bool := false
  carrierOff : Bool := false
  deriving DecidableEq, Repr

/-- An order record (R68). The flag PREEMPT-PENDING is `preempting.isSome`. The fields after `outcomeDue` are what the
rules imply: `stageSecs` and `stageLen` time the prove and the ramp (R77, R160), `sampled` tells whether the first sample
of the prove has come (R160), `closeTimer` is the carrier-off confirm timeout (R81), `claimDue` a put-off or released claim
(R70, R74), `slewAsked` (R76), `tuneDone` (R75), `keepAntenna` (R88), `fixedPrepare` (R65), `localFailure` (R93),
`preemptedBy` the order whose rescue under LOCAL preempts this one at re-adoption (R88, R93), `noRescue` (R97),
`lastTrip` the kind of the latest trip and the stage at it (R166, R167). -/
structure Order where
  id : Nat
  origin : Origin
  snap : Snapshot
  start : Nat
  ends : Nat
  prepare : Nat
  stage : Stage := .staged
  antenna : Option Nat := none
  load : Option Nat := none
  tuneKind : Option TuneKind := none
  work : WorkSet := {}
  firstOnAir : Option Nat := none
  lateness : Option Nat := none
  tripTimes : List Nat := []
  recovery : Option RecoveryCause := none
  rescues : Nat := 0
  lateStart : Bool := false
  held : Bool := false
  blind : Bool := false
  alternateUsed : Bool := false
  rescued : Bool := false
  continued : Bool := false
  preempting : Option Nat := none
  failure : Option FailCause := none
  outcomeDue : Option OrderOutcome := none
  stageSecs : Nat := 0
  stageLen : Nat := 0
  sampled : Bool := false
  closeTimer : Option Nat := none
  claimDue : Bool := false
  slewAsked : Bool := false
  tuneDone : Bool := false
  keepAntenna : Bool := false
  fixedPrepare : Bool := false
  localFailure : Bool := false
  preemptedBy : Option Nat := none
  noRescue : Bool := false
  lastTrip : Option (TripKind × Stage) := none
  deriving DecidableEq, Repr

/-- The Changeover Unit: the Order Table and the last order id assigned (R68). -/
structure Changeover where
  orders : List Order := []
  lastId : Nat := 0
  deriving DecidableEq, Repr

/-! ### Antenna Directory and Matrix Control (05) -/

/-- A directory record (R98). -/
structure DirRec where
  state : DirState := .free
  owner : Option Nat := none
  claiming : Option Nat := none
  handover : Option Nat := none
  inhibited : Bool := false
  suspect : Bool := false
  faultStuck : Bool := false
  faultDouble : Bool := false
  faultRotator : Bool := false
  waiting : List Nat := []
  deriving DecidableEq, Repr

/-- The Antenna Directory: columns 1 to 34 and the load wait list (R98, R104). -/
structure Directory where
  cols : List DirRec
  loadWait : List Nat := []
  deriving DecidableEq, Repr

/-- A crosspoint record (R107). -/
structure Xp where
  state : XpState := .opened
  remaining : Nat := 200000
  serviceDue : Bool := false
  deriving DecidableEq, Repr

/-- Who is told of a movement's result (R108): an order, an order that releases a claim with opening (R102), the handover
order of the column (R100, R102), or Matrix Control itself for a parked load (R104). -/
inductive Requester where
  | order (id : Nat)
  | release (id : Nat)
  | handover (id : Nat)
  | parkedLoad
  deriving DecidableEq, Repr

/-- A request in the drive request queue (R108). -/
structure DriveReq where
  row : Nat
  col : Nat
  dir : Direction
  essential : Bool
  arrival : Nat
  who : List Requester
  deriving DecidableEq, Repr

/-- A movement that holds a drive credit (R109, R110): in flight while its crosspoint is CLOSING or OPENING, or left
UNKNOWN with its credit (R114, R126). `cmd` is the serial number of its MOVE command. -/
structure Movement where
  row : Nat
  col : Nat
  dir : Direction
  timer : Nat
  who : List Requester
  cmd : Nat
  deriving DecidableEq, Repr

/-- A rotator record (R121); `cmd` is the serial number of its latest SLEW command. -/
structure Rotator where
  azimuth : Option Nat := none
  moving : Bool := false
  fault : Bool := false
  slew : SlewState := .idle
  target : Option Nat := none
  order : Option Nat := none
  waiting : Option (Nat × Nat) := none
  timer : Option Nat := none
  cmd : Nat := 0
  deriving DecidableEq, Repr

/-- Matrix Control: 16 rows of 34 crosspoints, the drive request queue in order of arrival, the movements that hold
credits, and the rotator records of antennas 1 to 32. -/
structure Matrix where
  rows : List (List Xp)
  queue : List DriveReq := []
  movements : List Movement := []
  rotators : List (Option Rotator)
  arrivals : Nat := 0
  deriving DecidableEq, Repr

/-! ### Transmitter Control (06) -/

/-- Telemetry: a TLU's latest poll reply (R127). -/
structure Telemetry where
  reply : TluReply
  second : Option Nat
  deriving DecidableEq, Repr

/-- A warm-up record (R127, R130); `timer` is absent until FILAMENT ON is acknowledged; `cmd` is that command. -/
structure WarmUp where
  start : Option Nat
  timer : Option Nat
  waiting : List Nat
  cmd : Option Nat
  deriving DecidableEq, Repr

/-- A tune in hand (R127); `verified` is the preset basis; `acked` tells whether the tune command has been acknowledged
and `reading` whether TUNE-RESULT has been queued (R134); `cmd` is the command whose result is awaited. -/
structure TuneInHand where
  kind : InHandKind
  freq : Nat
  mode : Mode
  index : Nat
  verified : Bool
  order : Option Nat
  timer : Option Nat
  held : Bool
  acked : Bool
  reading : Bool
  cmd : Option Nat
  deriving DecidableEq, Repr

/-- A CARRIER command not yet acknowledged or failed (R127). -/
inductive CarrierCmd where
  | on (setpoint : Nat) (cmd : Nat)
  | off (cmd : Nat)
  deriving DecidableEq, Repr

/-- What a carrier-off request waits for (R140): its CARRIER OFF command, or the first reply with carrier off. -/
inductive OffRequest where
  | none | command | reply
  deriving DecidableEq, Repr

/-- The cool-down command (R131), by its serial number. -/
inductive CoolDown where
  | none | queued (cmd : Nat) | sent (cmd : Nat)
  deriving DecidableEq, Repr

/-- A valid Tuning Memory entry (R132). -/
structure Preset where
  freq : Nat
  positions : List Nat
  verified : Bool
  deriving DecidableEq, Repr

/-- A transmitter's record in Transmitter Control (R127), with its Tuning Memory of 64 entries (R132). `filOffAcked`: a
FILAMENT OFF has been acknowledged since the filament was last READY (R128); `pastBlind`: past its blind hold (R143);
`coolDue`: at the last second boundary the idle clock had reached the cool-down hold then in force (R15, R131). -/
structure TxCtl where
  state : TxState := .offline
  tuned : Option Nat := none
  mode : Option Mode := none
  telemetry : Option Telemetry := none
  warm : Option WarmUp := none
  tune : Option TuneInHand := none
  carrier : Option CarrierCmd := none
  offWaiters : List Nat := []
  offReq : OffRequest := .none
  idle : Nat := 0
  coolDue : Bool := false
  coolDown : CoolDown := .none
  blind : Option Nat := none
  filOffAcked : Bool := false
  pastBlind : Bool := false
  memory : List (Option Preset)
  deriving DecidableEq, Repr

/-! ### Protection Unit (07) -/

/-- A trip of the trip history (R151). -/
structure TripEntry where
  second : Nat
  kind : TripKind
  deriving DecidableEq, Repr

/-- A recovery delay (R151, R163), with the order's stage at the trip, which its reports carry (R166). -/
structure RecoveryDelay where
  order : Nat
  kind : TripKind
  stage : Stage
  timer : Nat
  deriving DecidableEq, Repr

/-- A rise of the setpoint (R151, R157); `secs` is the whole seconds since its start instant. -/
structure Rise where
  from_ : Nat
  start : Nat
  ramp : Nat
  secs : Nat
  deriving DecidableEq, Repr

/-- A protection record (R151). -/
structure ProtRec where
  factor : Nat := 1000
  reported : Nat := 1000
  base : Option Nat := none
  permit : Option Nat := none
  sent : Nat := 0
  acked : Nat := 0
  rise : Option Rise := none
  trips : List TripEntry := []
  recovery : Option RecoveryDelay := none
  unproven : Bool := false
  latch : Bool := false
  deriving DecidableEq, Repr

/-! ### Field Line (08) -/

/-- A command's function with its data (R178). -/
inductive CmdFn where
  | filament (on : Bool)
  | mode (m : Mode)
  | tunePreset (freq : Nat) (m : Mode) (positions : List Nat)
  | tuneSearch (freq : Nat) (m : Mode) (power : Nat)
  | tuneResult
  | carrierOn (setpoint : Nat)
  | carrierOff
  | setpoint (power : Nat)
  | move (col : Nat) (dir : Direction)
  | slew (target : Nat)
  | stop
  deriving DecidableEq, Repr

/-- A command (R175). `subject` is the transmitter, row or antenna of the block that offered it; `serial` numbers the
offers, so that it tells commands apart and gives the moment of the first offer. -/
structure Cmd where
  addr : Nat
  fn : CmdFn
  urgent : Bool
  subject : Nat
  serial : Nat
  deriving DecidableEq, Repr

/-- An entry of the unit table (R170). -/
structure UnitEntry where
  kind : Option UnitKind := none
  state : UnitState := .unbound
  misses : Nat := 0
  owner : Nat := 0
  lastGood : Option Nat := none
  deriving DecidableEq, Repr

/-- What a transaction sends (R171). -/
inductive TxnFn where
  | poll
  | command (c : Cmd)
  deriving DecidableEq, Repr

/-- The transaction in progress (R171, R176, R179). `live` is false once its address has become UNBOUND: it is finished,
and its answer is not delivered (R173, R177). `kind` is the kind bound at the address when the frame was sent, which gives a
poll's answer its form (R171, R174). `rate` and `window` are the line settings it began with, and finishes at, its
retry with it (R169). -/
structure Txn where
  addr : Nat
  fn : TxnFn
  kind : Option UnitKind := none
  retry : Bool
  live : Bool
  rate : Nat
  window : Nat
  deriving DecidableEq, Repr

/-- The Field Line Controller: settings, unit table of addresses 1 to 63, the address last polled, the transaction in
progress, the line command queue, the held-back commands in the order of their first offers, and the offers' serial. -/
structure Line where
  rate : Nat := 1
  window : Nat := 20
  units : List UnitEntry
  scanAt : Nat := 0
  txn : Option Txn := none
  queue : List Cmd := []
  heldBack : List Cmd := []
  serial : Nat := 0
  deriving DecidableEq, Repr

/-! ### Fault Log, Hall Statistics (10) -/

/-- Subject of a fault record (R190). -/
inductive Subject where
  | transmitter (n : Nat)
  | antenna (n : Nat)
  | crosspoint (row col : Nat)
  | unit (addr : Nat) (kind : Option UnitKind)
  | hall
  deriving DecidableEq, Repr

/-- The in-flight set of a fault record (R190). -/
structure InFlight where
  movements : List (Nat × Nat × Direction) := []
  slews : List (Nat × Nat) := []
  tunes : List (Nat × InHandKind × Nat) := []
  commands : List Cmd := []
  commandCount : Nat := 0
  deriving DecidableEq, Repr

/-- The telemetry snapshot of a fault record (R189, R190). -/
structure TeleSnap where
  sample : Telemetry
  rho : Option Nat
  factor : Nat
  deriving DecidableEq, Repr

/-- A fault record (R190). -/
structure FaultRecord where
  number : Nat
  second : Option Nat
  kind : FaultKind
  subject : Subject
  order : Option (Nat × Stage)
  inFlight : InFlight
  telemetry : Option TeleSnap
  trips : Nat
  deriving DecidableEq, Repr

/-- The Fault Log (R191). -/
structure FaultLog where
  ring : List FaultRecord := []
  next : Nat := 0
  deriving DecidableEq, Repr

/-- A statistics counter (R193); bit k of the mask is qualifier position k. -/
structure Counter where
  cls : StatClass := .none
  mask : Nat := 0
  value : Nat := 0
  deriving DecidableEq, Repr

/-! ### Reports and replies (09, and each chapter) -/

/-- Fields of an ORDER report (R69, R189). -/
structure OrderReport where
  id : Nat
  origin : Origin
  service : Nat
  tx : Nat
  previous : Option Stage
  new : Option Stage
  lateStart : Bool
  late : Bool
  held : Bool
  blind : Bool
  alternateUsed : Bool
  rescued : Bool
  continued : Bool
  preempting : Option Nat
  antenna : Option Nat
  load : Option Nat
  failure : Option FailCause
  outcome : Option OrderOutcome
  lateness : Option Nat
  second : Option Nat
  before : Option (Nat × Option Nat)
  deriving DecidableEq, Repr

/-- Result carried by a TRIP report (R166). -/
inductive TripResult where
  | taken | reProve | lockout | notTaken
  deriving DecidableEq, Repr

/-- Fields of a TRIP report (R166, R189); `stage` `none` is SEARCH; `sample` is the telemetry with Pf and Pr. -/
structure TripReport where
  tx : Nat
  order : Option Nat
  stage : Option Stage
  kind : TripKind
  code : Option Nat
  sample : Option Telemetry
  rho : Option Nat
  factor : Nat
  trips : Nat
  result : TripResult
  second : Option Nat
  deriving DecidableEq, Repr

/-- Causes of a FOLDBACK report (R159). -/
inductive FoldCause where
  | sample | trip | preparation | rescue | lockClear | reset
  deriving DecidableEq, Repr

/-- Fields of a FOLDBACK report (R159). -/
structure FoldReport where
  tx : Nat
  order : Option Nat
  factor : Nat
  before : Nat
  rho : Option Nat
  permit : Option Nat
  cause : FoldCause
  deriving DecidableEq, Repr

/-- Fields of a UNIT report (R172). -/
structure UnitReport where
  addr : Nat
  kind : Option UnitKind
  owner : Nat
  new : UnitState
  previous : UnitState
  misses : Nat
  cause : Option MissCause
  second : Option Nat
  deriving DecidableEq, Repr

/-- Causes of a CROSSPOINT report (R107). -/
inductive XpCause where
  | serviceDue | serviceRefused | timeout | noReply | poll | doubleClosed | claimedColumn | declared | serviced
  deriving DecidableEq, Repr

/-- Fields of a CROSSPOINT report (R107). -/
structure XpReport where
  row : Nat
  col : Nat
  old : XpState
  new : XpState
  reported : Option SwitchPos
  cause : XpCause
  deriving DecidableEq, Repr

/-- Causes of an ANTENNA report (R99). -/
inductive AntCause where
  | host | definition | lockout | fault | unresolved | resolved
  deriving DecidableEq, Repr

/-- Fields of an ANTENNA report (R99). -/
structure AntReport where
  col : Nat
  state : DirState
  owner : Option Nat
  inhibited : Bool
  suspect : Bool
  faultStuck : Bool
  faultDouble : Bool
  faultRotator : Bool
  cause : AntCause
  deriving DecidableEq, Repr

/-- Fields of a SEASON report (R41). -/
structure SeasonReport where
  active : BankId
  season : Nat
  loaded : Option (BankId × Nat)
  armed : Nat
  taken : Nat
  late : Bool
  deriving DecidableEq, Repr

/-- Causes of a CLOCK report (R46). -/
inductive ClockCause where
  | timeSet | markWatch | mark
  deriving DecidableEq, Repr

/-- Fields of a CLOCK report (R46, R48). -/
structure ClockReport where
  new : ClockState
  previous : ClockState
  time : Option Nat
  cause : ClockCause
  step : Option Int
  deriving DecidableEq, Repr

/-- Causes of a HALL report (R54). -/
inductive HallCause where
  | hallKey | safetyChain | automation | clock | restartOrderly | restartImmediate
  deriving DecidableEq, Repr

/-- Fields of a HALL report (R54). -/
structure HallReport where
  key : Control
  chainClosed : Bool
  enable : Bool
  auto : Bool
  cause : HallCause
  deriving DecidableEq, Repr

/-- What a STAGING report announces (R59, R61). -/
inductive StagingEvent where
  | skippedUnavailable (state : TxState)
  | skippedConflict (blocking : Nat)
  | deferred
  | droppedSetFull
  | droppedCutoff
  | droppedSuspended
  | droppedRestart
  deriving DecidableEq, Repr

/-- Fields of a STAGING report (R59, R61). -/
structure StagingReport where
  bank : BankId
  entry : Nat
  start : Nat
  event : StagingEvent
  deriving DecidableEq, Repr

/-- Fields of a STORE report (R196, R197). -/
inductive StoreReport where
  | written (generation : Nat)
  | singleImage (generation : Nat)
  | badImage
  deriving DecidableEq, Repr

/-- The body of a report (R184). -/
inductive ReportBody where
  | order (r : OrderReport)
  | trip (r : TripReport)
  | foldback (r : FoldReport)
  | unit (r : UnitReport)
  | crosspoint (r : XpReport)
  | antenna (r : AntReport)
  | season (r : SeasonReport)
  | clock (r : ClockReport)
  | hall (r : HallReport)
  | staging (r : StagingReport)
  | fault (r : FaultRecord)
  | store (r : StoreReport)
  deriving DecidableEq, Repr

/-- One bank in the reply of BANK-STATUS (R33). -/
structure BankSummary where
  state : BankState
  header : Option Header
  activation : Option Nat
  occupied : Nat
  suspended : Nat
  deriving DecidableEq, Repr

/-- Fields of the reply of TIME-READ (R52); date, time of day, hall day, weekday and minute follow from `time`. -/
structure TimeReply where
  time : Option Nat
  state : ClockState
  setting : Option Nat
  through : Option Nat
  enable : Bool
  key : Control
  auto : Bool
  deferred : Nat
  deriving DecidableEq, Repr

/-- The antenna flags of one position in the reply of ANT-FLAGS (R106). -/
structure FlagsReply where
  inhibited : Bool
  suspect : Bool
  faulted : Bool
  deriving DecidableEq, Repr

/-- The movement in flight on a row in a reply (R124), with the seconds left on its timer. -/
structure MovementReply where
  row : Nat
  col : Nat
  dir : Direction
  timer : Nat
  deriving DecidableEq, Repr

/-- Fields of the reply of PRESET-READ (R147); the index is carried where the request names a frequency. -/
structure PresetReply where
  index : Option Nat
  preset : Option Preset
  state : TxState
  tuned : Option Nat
  mode : Option Mode
  telemetry : Option Telemetry
  deriving DecidableEq, Repr

/-- Fields of the reply of IDENTIFY (R187). -/
structure IdentifyReply where
  part : Nat
  revision : Nat
  maxBody : Nat
  badCheck : Nat
  badLength : Nat
  gap : Nat
  overrun : Nat
  totalLoss : Nat
  reports : Nat
  sequence : Nat
  selected : BitVec 12
  deriving DecidableEq, Repr

/-- The data of an OK reply, as the owning chapters give them. -/
inductive ReplyData where
  | none
  | txRec (r : Option TxRec)
  | antRec (r : Option AntRec)
  | loadRating (rating : Nat)
  | hallParams (p : HallParams)
  | lineSettings (rate window : Nat)
  | lineState (rate window : Nat) (units : List (Nat × UnitEntry)) (txn : Option Txn) (queue heldBack : List Cmd)
  | entry (e : Entry)
  | suspensions (flags : List Bool)
  | bankStatus (a b : BankSummary) (inForce : Option BankId)
  | timeSet (state : ClockState) (time : Option Nat)
  | timeRead (r : TimeReply)
  | automation (enable auto : Bool)
  | orderMade (id prepare : Nat)
  | orderCancelled (stage : Option Stage) (outcome : Option OrderOutcome)
  | orderAdvanced (prepare : Nat) (stage : Option Stage)
  | orderList (orders : List Order)
  | orderRecord (o : Order)
  | antFlags (flags : List FlagsReply)
  | matrixRow (xps : List Xp) (permit : Bool) (movement : Option MovementReply) (queue : List DriveReq)
  | matrixColumn (rec : DirRec) (waiting : List Nat) (xps : List Xp) (rotator : Option Rotator)
  | matrixDrive (credits free : Nat) (movements : List (Nat × Nat × Direction)) (queue : List DriveReq)
  | txInhibit (states : List (Bool × TxState))
  | txState (state : TxState)
  | purged (count : Nat)
  | preset (r : PresetReply)
  | selection (selected : BitVec 12)
  | counters (named : List Counter)
  | faults (held : Nat) (oldest : Option Nat) (next : Nat) (records : List FaultRecord)
  | faultsCleared (count : Nat)
  | stored (generation : Nat)
  | restarted (count : Nat)
  | identify (r : IdentifyReply)
  deriving DecidableEq, Repr

/-! ### Control Link Port (09) -/

/-- A received frame (R181). -/
structure RxFrame where
  kind : Nat
  tag : Nat
  body : List Byte
  deriving DecidableEq, Repr

/-- Framing states (R181); READING holds the bytes read since the sync byte. -/
inductive Framing where
  | seeking
  | reading (got : List Byte)
  deriving DecidableEq, Repr

/-- A frame of the report queue (R184). -/
inductive OutFrame where
  | reply (kind tag : Nat) (status : Status) (detail : Detail) (data : ReplyData)
  | report (kind : ReportKind) (sequence lost : Nat) (body : ReportBody)
  deriving DecidableEq, Repr

/-- The Control Link Port: framing state, receive buffer, link counts (R181), report queue, selection set (R185),
sequence number, pending loss and total loss count (R184, R187), and the bytes that last left on the link. -/
structure Port where
  framing : Framing := .seeking
  rx : List RxFrame := []
  badCheck : Nat := 0
  badLength : Nat := 0
  gap : Nat := 0
  overrun : Nat := 0
  out : List OutFrame := []
  selected : BitVec 12 := 0xFFF
  sequence : Nat := 0
  pendingLoss : Nat := 0
  totalLoss : Nat := 0
  lineOut : List Byte := []
  deriving DecidableEq, Repr

/-! ### Table Store (10) -/

/-- An image of the stored tables (R196). -/
structure Image where
  tx : List (Option TxRec)
  ant : List (Option AntRec)
  loads : List Nat
  par : HallParams
  rate : Nat
  window : Nat
  banks : Banks
  memories : List (List (Option Preset))
  counts : List (List (Nat × Bool))
  inhibited : List Bool
  suspect : List Bool
  deriving DecidableEq, Repr

/-- An image slot (R195). -/
inductive Slot where
  | bad
  | good (generation : Nat) (image : Image)
  deriving DecidableEq, Repr

/-- A write in flight (R196): into the first slot or the second, with the tag of the deferred reply. -/
structure StoreWrite where
  first : Bool
  generation : Nat
  image : Image
  tag : Nat
  deriving DecidableEq, Repr

/-- The Table Store (R195). -/
structure Store where
  slot1 : Slot := .bad
  slot2 : Slot := .bad
  writing : Option StoreWrite := none
  deriving DecidableEq, Repr

/-! ### The whole -/

/-- The outside lines (00, Connections). -/
structure Pins where
  key : Control := .remote
  chainClosed : Bool := true
  powered : Bool := true
  permits : List Bool
  deriving DecidableEq, Repr

/-- How a command ended on the line (R176); a NAK carries its refusal code to the block that asked (R171). -/
inductive CmdResult where
  | ack (positions : List Nat)
  | nak (code : Nat)
  | noReply
  deriving DecidableEq, Repr

/-- A message from one block to another inside one command (log 4). -/
inductive Signal where
  /-- A completion has reached the order: it takes the step its stage and work in hand call for. -/
  | advance (id : Nat)
  /-- An operation of the order has failed (R86). -/
  | fail (id : Nat) (cause : FailCause)
  /-- The order's antenna claim has been granted (R103). -/
  | granted (id : Nat)
  /-- The order's antenna claim has failed (R100, R101). -/
  | claimFailed (id : Nat)
  /-- A movement has completed or failed (R108). -/
  | moved (who : Requester) (row col : Nat) (ok : Bool)
  /-- A column is offered to the head of its wait list (R103). -/
  | offerColumn (col : Nat)
  /-- The loads are offered to the head of the load wait list (R104). -/
  | offerLoads
  /-- A command of the line has its result (R176, R177). -/
  | command (c : Cmd) (r : CmdResult)
  /-- The commands of a unit that has become SILENT have failed, and their failures have been sent on: steps 2 to 5 follow.
  `fl` lists the commands as they stood just before (R172, R190). -/
  | unitLost (addr : Nat) (fl : InFlight) (cause : MissCause)
  /-- A unit has become SILENT (R172, step 2). -/
  | silent (kind : UnitKind) (owner : Nat)
  /-- The report, the record and the counting event of a unit that has become SILENT (R172, steps 3 to 5). -/
  | unitDown (addr : Nat) (fl : InFlight) (cause : MissCause)
  /-- A tune has its result (R134, R136). -/
  | tuned (id : Nat) (ok : Bool)
  /-- A crosspoint of the row has changed: its order may go on (R73). -/
  | rowChanged (row : Nat)
  deriving DecidableEq, Repr

/-- An order the present command has changed (R69: one ORDER report for all its changes): its stage before (`none` at
creation), its record and outcome if it has left the table, and what a rescue replaced. -/
structure OrderNote where
  id : Nat
  previous : Option Stage
  left : Option (Order × OrderOutcome)
  before : Option (Nat × Option Nat)
  deriving DecidableEq, Repr

/-- The whole state, and the queue of the commands that wait. -/
structure State where
  pins : Pins
  hall : Hall
  banks : Banks
  clock : Clock
  staging : Staging
  chg : Changeover
  dir : Directory
  mx : Matrix
  tx : List TxCtl
  prot : List ProtRec
  line : Line
  log : FaultLog
  stats : List Counter
  store : Store
  port : Port
  agenda : List Signal
  notes : List OrderNote
  pending : List Instr
  deriving DecidableEq, Repr

/-- The values the blocks take at power-on when no image is loaded (R18, R44, R67, R97, R125, R149, R168, R180, R188,
R191, R194), and blank image slots (R195). -/
def State.blank : State where
  pins := { permits := List.replicate 16 false }
  hall := { tx := List.replicate 16 none, ant := List.replicate 32 none, loads := [500, 500], par := {} }
  banks := {}
  clock := {}
  staging := {}
  chg := {}
  dir := { cols := List.replicate 34 {} }
  mx := { rows := List.replicate 16 (List.replicate 34 {}), rotators := List.replicate 32 none }
  tx := List.replicate 16 { memory := List.replicate 64 none }
  prot := List.replicate 16 {}
  line := { units := List.replicate 63 {} }
  log := {}
  stats := List.replicate 8 {}
  store := {}
  port := {}
  agenda := []
  notes := []
  pending := []

/-- The machine right after reset: power-on of a new part, whose two image slots are bad, so that the STORE report
(BAD-IMAGE) stands in the report queue with tag 0 (R188, R197; log 5). -/
def State.reset : State :=
  { State.blank with
    port := { State.blank.port with
      out := [.report .store 0 0 (.store .badImage)]
      sequence := 1 } }

end Sys2Proof.Machine
end

