-- ==== Sys2Proof/Machine/Tables.lean ====
section
/-! DEFINITION. Reading and changing the state block by block; hall time and calendar (R53); AUTO (R54); ranges. -/

namespace Sys2Proof.Machine

/-! ### One update for each block -/

def State.onPins (f : Pins → Pins) (s : State) : State := { s with pins := f s.pins }
def State.onHall (f : Hall → Hall) (s : State) : State := { s with hall := f s.hall }
def State.onBanks (f : Banks → Banks) (s : State) : State := { s with banks := f s.banks }
def State.onClock (f : Clock → Clock) (s : State) : State := { s with clock := f s.clock }
def State.onStaging (f : Staging → Staging) (s : State) : State := { s with staging := f s.staging }
def State.onChg (f : Changeover → Changeover) (s : State) : State := { s with chg := f s.chg }
def State.onDir (f : Directory → Directory) (s : State) : State := { s with dir := f s.dir }
def State.onMx (f : Matrix → Matrix) (s : State) : State := { s with mx := f s.mx }
def State.onTx (f : List TxCtl → List TxCtl) (s : State) : State := { s with tx := f s.tx }
def State.onProt (f : List ProtRec → List ProtRec) (s : State) : State := { s with prot := f s.prot }
def State.onLine (f : Line → Line) (s : State) : State := { s with line := f s.line }
def State.onLog (f : FaultLog → FaultLog) (s : State) : State := { s with log := f s.log }
def State.onStats (f : List Counter → List Counter) (s : State) : State := { s with stats := f s.stats }
def State.onStore (f : Store → Store) (s : State) : State := { s with store := f s.store }
def State.onPort (f : Port → Port) (s : State) : State := { s with port := f s.port }
def State.onAgenda (f : List Signal → List Signal) (s : State) : State := { s with agenda := f s.agenda }
def State.onNotes (f : List OrderNote → List OrderNote) (s : State) : State := { s with notes := f s.notes }

/-- Send a message to another block, to be taken after those already sent (log 4). -/
def emit (g : Signal) (s : State) : State := s.onAgenda (· ++ [g])

/-- Do `f` for each member of the list in turn. -/
def forEach {α : Type} (l : List α) (f : α → State → State) (s : State) : State :=
  l.foldl (fun t x => f x t) s

/-! ### Reading -/

/-- The transmitter record, absent when undefined (1.1). -/
def txRec? (s : State) (n : Nat) : Option TxRec := (nth s.hall.tx n).join

/-- The antenna record, absent when undefined (1.2). -/
def antRec? (s : State) (a : Nat) : Option AntRec := (nth s.hall.ant a).join

/-- The rotator part of an antenna, if it has one (R9). -/
def rotatorPart? (s : State) (a : Nat) : Option RotatorPart := (antRec? s a).bind (·.rotator)

/-- The rating of a load, by its column 33 or 34 (R13). -/
def loadRating (s : State) (col : Nat) : Nat := (nth s.hall.loads (col - 32)).getD 0

/-- A transmitter record of Transmitter Control with nothing in it (R149). -/
def TxCtl.initial : TxCtl := { memory := List.replicate 64 none }

/-- The record of Transmitter Control (R127). -/
def txCtl (s : State) (n : Nat) : TxCtl := (nth s.tx n).getD TxCtl.initial

/-- The protection record (R151). -/
def protRec (s : State) (n : Nat) : ProtRec := (nth s.prot n).getD {}

/-- The directory record of a column (R98). -/
def dirRec (s : State) (c : Nat) : DirRec := (nth s.dir.cols c).getD {}

/-- The crosspoint records of a row, column 1 first (R107). -/
def rowXps (s : State) (r : Nat) : List Xp := (nth s.mx.rows r).getD []

/-- One crosspoint record (R107). -/
def xpAt (s : State) (r c : Nat) : Xp := (nth (rowXps s r) c).getD {}

/-- The rotator record of an antenna (R121). -/
def rotator? (s : State) (a : Nat) : Option Rotator := (nth s.mx.rotators a).join

/-- The unit table entry of an address (R170). -/
def unitAt (s : State) (a : Nat) : UnitEntry := (nth s.line.units a).getD {}

/-- The live order with this id (R69). -/
def order? (s : State) (id : Nat) : Option Order := s.chg.orders.find? (fun o => o.id == id)

/-- One bank (R19). -/
def bankOf (s : State) : BankId → Bank
  | .a => s.banks.a
  | .b => s.banks.b

/-- The other bank. -/
def BankId.other : BankId → BankId
  | .a => .b
  | .b => .a

/-! ### Changing one member -/

def updTxRec (n : Nat) (f : Option TxRec → Option TxRec) : State → State :=
  State.onHall (fun h => { h with tx := updNth h.tx n f })
def updAntRec (a : Nat) (f : Option AntRec → Option AntRec) : State → State :=
  State.onHall (fun h => { h with ant := updNth h.ant a f })
def updTx (n : Nat) (f : TxCtl → TxCtl) : State → State := State.onTx (fun l => updNth l n f)
def updProt (n : Nat) (f : ProtRec → ProtRec) : State → State := State.onProt (fun l => updNth l n f)
def updDir (c : Nat) (f : DirRec → DirRec) : State → State :=
  State.onDir (fun d => { d with cols := updNth d.cols c f })
def updXp (r c : Nat) (f : Xp → Xp) : State → State :=
  State.onMx (fun m => { m with rows := updNth m.rows r (fun row => updNth row c f) })
def updRotator (a : Nat) (f : Rotator → Rotator) : State → State :=
  State.onMx (fun m => { m with rotators := updNth m.rotators a (Option.map f) })
def updUnit (a : Nat) (f : UnitEntry → UnitEntry) : State → State :=
  State.onLine (fun l => { l with units := updNth l.units a f })
def updOrder (id : Nat) (f : Order → Order) : State → State :=
  State.onChg (fun c => { c with orders := c.orders.map (fun o => if o.id = id then f o else o) })
def updBank (b : BankId) (f : Bank → Bank) : State → State :=
  State.onBanks (fun k =>
    match b with
    | .a => { k with a := f k.a }
    | .b => { k with b := f k.b })

/-! ### The idle clock and the state of a transmitter (R128, R131) -/

/-- The idle clock returns to 0 (R131). -/
def TxCtl.awake (x : TxCtl) : TxCtl := { x with idle := 0, coolDue := false }

/-- The transmitter takes a state; outside STANDBY it is not idle, and its idle clock stands at 0 (R131). -/
def TxCtl.to (st : TxState) (x : TxCtl) : TxCtl :=
  if st = .standby then { x with state := st } else { x.awake with state := st }

def setTxState (n : Nat) (st : TxState) : State → State := updTx n (TxCtl.to st)

/-! ### Hall time and calendar (00 Hall time, R53) -/

/-- The hall time; 0 while the clock is UNSET, when no order is live and nothing compares with it (R67). -/
def now (s : State) : Nat := s.clock.time.getD 0

/-- Hall day of an instant. -/
def hallDay (t : Nat) : Nat := t / Config.daySeconds

/-- Minute of day of an instant. -/
def minuteOfDay (t : Nat) : Nat := (t % Config.daySeconds) / 60

/-- Weekday index of a hall day, Monday 0 (R53). -/
def weekday (day : Nat) : Nat := (day + 5) % 7

/-- A leap year of 2000 to 2099 (R53). -/
def isLeap (year : Nat) : Bool := year % 4 == 0

/-- Days of each month of a year. -/
def monthDays (year : Nat) : List Nat :=
  [31, if isLeap year then 29 else 28, 31, 30, 31, 30, 31, 31, 30, 31, 30, 31]

/-- A calendar date from 2000-01-01 to 2099-12-31 (R53). -/
def Date.valid (d : Date) : Bool :=
  decide (2000 ≤ d.year) && decide (d.year ≤ 2099) && decide (1 ≤ d.month) && decide (d.month ≤ 12) &&
    decide (1 ≤ d.day) && decide (d.day ≤ (nth (monthDays d.year) d.month).getD 0)

/-- The hall day that starts at 00:00:00 UTC on a date (R53). -/
def Date.toDay (d : Date) : Nat :=
  let y := d.year - 2000
  365 * y + (y + 3) / 4 + ((monthDays d.year).take (d.month - 1)).sum + (d.day - 1)

/-- Month and day of the `rest`th day (from 0) of a run of months, the first of which is `month`. -/
def monthOf : List Nat → Nat → Nat → Nat × Nat
  | [], month, rest => (month, rest + 1)
  | len :: more, month, rest => if rest < len then (month, rest + 1) else monthOf more (month + 1) (rest - len)

/-- The date of a hall day (R53), the inverse of `Date.toDay`. Past 2099-12-31 every fourth year stays a leap year, 2100
included (log 71). -/
def dateOfDay (day : Nat) : Date :=
  let r := day % 1461
  let y := if r < 366 then 0 else 1 + (r - 366) / 365
  let year := 2000 + 4 * (day / 1461) + y
  let rest := if r < 366 then r else (r - 366) % 365
  let md := monthOf (monthDays year) 1 rest
  { year := year, month := md.1, day := md.2 }

/-- AUTO: key REMOTE, automation enable ON, clock VALID or HOLDOVER (R54). -/
def isAuto (s : State) : Bool :=
  s.pins.key == .remote && s.clock.enable && s.clock.state != .unset

/-- The Hall Key is LOCAL. -/
def isLocal (s : State) : Bool := s.pins.key == .local

/-! ### Names and masks -/

/-- Position `k` (from 0) of a mask is set. -/
def maskBit (mask k : Nat) : Bool := mask.testBit k

/-- Priorities by rank, ESSENTIAL 0 (00, Priorities and modes). -/
def Priority.rank : Priority → Nat
  | .essential => 0
  | .normal => 1
  | .fill => 2

/-- `p` is of strictly lower priority than `q`. -/
def Priority.below (p q : Priority) : Bool := decide (q.rank < p.rank)

def Mode.ofCode : Nat → Option Mode
  | 1 => some .am
  | 2 => some .rcam
  | 3 => some .dig
  | _ => none

def Priority.ofCode : Nat → Option Priority
  | 1 => some .essential
  | 2 => some .normal
  | 3 => some .fill
  | _ => none

def BankId.ofCode : Nat → Option BankId
  | 1 => some .a
  | 2 => some .b
  | _ => none

/-- SET, CLEAR and TOGGLE of one flag, by code 1, 2, 3. -/
def applyAction (action : Nat) (flag : Bool) : Bool :=
  match action with
  | 1 => true
  | 2 => false
  | _ => !flag

def ModeSet.has (m : ModeSet) : Mode → Bool
  | .am => m.am
  | .rcam => m.rcam
  | .dig => m.dig

/-- A mode set from its mask: bit 0 AM, bit 1 RCAM, bit 2 DIG (R189). -/
def ModeSet.ofMask (k : Nat) : ModeSet := { am := maskBit k 0, rcam := maskBit k 1, dig := maskBit k 2 }

/-- Mode factors in per mille (R16). -/
def Mode.factor : Mode → Nat
  | .am => 1000
  | .rcam => 1000
  | .dig => 640

/-- A frequency in range: 2,300 to 26,100 kHz, a multiple of 5 (00, Numbers and units). -/
def freqOk (f : Nat) : Bool := decide (2300 ≤ f) && decide (f ≤ 26100) && f % 5 == 0

/-- `lo ≤ x ≤ hi`. -/
def within (lo hi x : Nat) : Bool := decide (lo ≤ x) && decide (x ≤ hi)

/-- An optional number, if present, lies in a range. -/
def optWithin (lo hi : Nat) : Option Nat → Bool
  | none => true
  | some x => within lo hi x

/-- A required number is present and lies in a range. -/
def reqWithin (lo hi : Nat) : Option Nat → Bool
  | none => false
  | some x => within lo hi x

/-- Division rounded up. -/
def ceilDiv (a b : Nat) : Nat := (a + b - 1) / b

/-- Stages in which an order may hold carrier (R77, R120, R152). -/
def Stage.carrier : Stage → Bool
  | .proving => true
  | .ramping => true
  | .onAir => true
  | _ => false

/-- Position of a stage in the order of section 4.2, STAGED 1. -/
def Stage.number : Stage → Nat
  | .staged => 1
  | .warming => 2
  | .clearing => 3
  | .tuning => 4
  | .routing => 5
  | .poised => 6
  | .proving => 7
  | .ramping => 8
  | .onAir => 9
  | .recovering => 10
  | .closing => 11

/-- The stage lies between two stages, both included. -/
def Stage.between (lo hi st : Stage) : Bool := decide (lo.number ≤ st.number) && decide (st.number ≤ hi.number)

/-- A crosspoint state that makes its column active (R107). -/
def XpState.active : XpState → Bool
  | .closing => true
  | .closed => true
  | .opening => true
  | .stuck => true
  | _ => false

/-- CLOSING, CLOSED or OPENING (R107). -/
def XpState.moving : XpState → Bool
  | .closing => true
  | .closed => true
  | .opening => true
  | _ => false

/-- CLOSING or OPENING: a movement is in flight on the crosspoint (R107). -/
def XpState.inFlight : XpState → Bool
  | .closing => true
  | .opening => true
  | _ => false

/-- Columns of a row in which a test holds, ascending. -/
def rowWhere (s : State) (r : Nat) (p : XpState → Bool) : List Nat :=
  ((rowXps s r).zip (upTo 34)).filterMap (fun x => if p x.1.state then some x.2 else none)

/-- Rows of a column in which a test holds, ascending. -/
def colWhere (s : State) (c : Nat) (p : XpState → Bool) : List Nat :=
  (upTo 16).filter (fun r => p (xpAt s r c).state)

/-- The live orders of a transmitter. -/
def ordersOf (s : State) (n : Nat) : List Order := s.chg.orders.filter (fun o => o.snap.tx == n)

/-- The order of a transmitter in a carrier stage, if there is one (R152). -/
def carrierOrder? (s : State) (n : Nat) : Option Order :=
  s.chg.orders.find? (fun o => o.snap.tx == n && o.stage.carrier)

/-- The order of a transmitter in a stage from WARMING to CLOSING, if there is one (R69). -/
def workingOrder? (s : State) (n : Nat) : Option Order :=
  s.chg.orders.find? (fun o => o.snap.tx == n && o.stage != .staged)

/-- A search tune is in progress on a transmitter (R134). -/
def searching (s : State) (n : Nat) : Bool :=
  match (txCtl s n).tune with
  | some t => t.kind == .search
  | none => false

/-- The TLU of a transmitter reports carrier on, in its latest poll reply (R73, R81). -/
def reportsOn (s : State) (n : Nat) : Bool :=
  match (txCtl s n).telemetry with
  | some t => t.reply.carrierOn
  | none => false

/-- The TLU of a transmitter reports carrier off, in its latest poll reply (R73, R109). -/
def reportsOff (s : State) (n : Nat) : Bool :=
  match (txCtl s n).telemetry with
  | some t => !t.reply.carrierOn
  | none => false

/-- The unit of a transmitter's TLU is ALIVE (R109, R131). -/
def tluAlive (s : State) (n : Nat) : Bool :=
  match txRec? s n with
  | some r => (unitAt s r.tlu).state == .alive
  | none => false

/-- The segment rating of an antenna record at a frequency (R8). -/
def AntRec.ratingAt (a : AntRec) (f : Nat) : Nat :=
  match a.segments.find? (fun g => decide (g.low ≤ f) && decide (f ≤ g.high)) with
  | some g => g.rating
  | none => 0

/-- The segment rating of an antenna at a frequency, 0 when undefined (R8). -/
def segmentRating (s : State) (a f : Nat) : Nat :=
  match antRec? s a with
  | some r => r.ratingAt f
  | none => 0

/-- Distance in degrees between two azimuths on a rotator (R9, R121). -/
def RotatorPart.distance (p : RotatorPart) (x y : Nat) : Nat :=
  let d := (x - y) + (y - x)
  if p.continuous then min d (360 - d) else d

/-- The largest distance a rotator can be asked to turn (R9). -/
def RotatorPart.largest (p : RotatorPart) : Nat :=
  if p.continuous then 180 else p.stopHigh.getD 359 - p.stopLow.getD 0

/-- An azimuth is within the reach of a rotator (R9). -/
def RotatorPart.reaches (p : RotatorPart) (az : Nat) : Bool :=
  p.continuous || (decide (p.stopLow.getD 0 ≤ az) && decide (az ≤ p.stopHigh.getD 359))

/-- The estimate of a slew in seconds, from the last reported azimuth (R64, R121). -/
def slewEstimate (p : RotatorPart) (last : Option Nat) (target : Nat) : Nat :=
  let d := match last with
    | some az => p.distance az target
    | none => p.largest
  ceilDiv (d * 10) p.rate

/-- The index of a frequency in the Tuning Memory (R132). -/
def presetIndex (f : Nat) : Nat := ((f / 5) ^^^ (f / 320)) % 64

/-- The Tuning Memory entry at an index (R132). -/
def presetAt (s : State) (n i : Nat) : Option Preset := ((txCtl s n).memory[i]?).join

/-- The Tuning Memory is a hit for the frequency (R132). -/
def presetHit (s : State) (n f : Nat) : Option Preset :=
  (presetAt s n (presetIndex f)).filter (fun p => p.freq == f)

/-- Write the Tuning Memory entry at an index (R132). -/
def setPreset (n i : Nat) (p : Option Preset) : State → State :=
  updTx n (fun t => { t with memory := t.memory.set i p })

/-- Two intervals, from start up to but not including end, hold a common second (R59). -/
def intersects (s1 e1 s2 e2 : Nat) : Bool := decide (max s1 s2 < min e1 e2)

/-- STORE in flight (R196). -/
def storeBusy (s : State) : Bool := s.store.writing.isSome

end Sys2Proof.Machine
end

