-- ==== Sys2Proof/Machine/Reports.lean ====
section
/-! DEFINITION. What the blocks offer to the outside: reports and replies (R182, R184), counting events (R193), fault
records (R190, R191), and the one ORDER report a command makes for each order it changes (R69). -/

namespace Sys2Proof.Machine

/-! ### The report queue (R184) -/

/-- Position of a report kind in the selection set; its code is E0h plus this (R185). -/
def ReportKind.position : ReportKind → Nat
  | .order => 0
  | .trip => 1
  | .foldback => 2
  | .unit => 3
  | .crosspoint => 4
  | .antenna => 5
  | .season => 6
  | .clock => 7
  | .hall => 8
  | .staging => 9
  | .fault => 10
  | .store => 11

/-- The kind of a report's body. -/
def ReportBody.kind : ReportBody → ReportKind
  | .order _ => .order
  | .trip _ => .trip
  | .foldback _ => .foldback
  | .unit _ => .unit
  | .crosspoint _ => .crosspoint
  | .antenna _ => .antenna
  | .season _ => .season
  | .clock _ => .clock
  | .hall _ => .hall
  | .staging _ => .staging
  | .fault _ => .fault
  | .store _ => .store

/-- The frame is a report; replies are not counted against the 64 (R184). -/
def OutFrame.isReport : OutFrame → Bool
  | .report _ _ _ _ => true
  | .reply _ _ _ _ _ => false

/-- Reports in the report queue. -/
def Port.reports (p : Port) : Nat := (p.out.filter OutFrame.isReport).length

/-- Replies that stand unsent in the report queue (R182). -/
def Port.replies (p : Port) : Nat := (p.out.filter (fun f => !f.isReport)).length

/-- A block offers a report (R184): ignored when its kind is not selected, admitted with the sequence number and the
pending loss, or dropped into the losses. -/
def Port.offer (body : ReportBody) (p : Port) : Port :=
  let kind := ReportBody.kind body
  if !p.selected.getLsbD kind.position then p
  else if p.reports < Config.maxReports then
    { p with
      out := p.out ++ [.report kind p.sequence p.pendingLoss body]
      sequence := (p.sequence + 1) % 256
      pendingLoss := 0 }
  else { p with pendingLoss := min 255 (p.pendingLoss + 1), totalLoss := (p.totalLoss + 1) % 65536 }

/-- Offer a report to the Control Link Port. -/
def offerReport (body : ReportBody) : State → State := State.onPort (Port.offer body)

/-- Queue the reply of a request (R182); `kind` is the request's kind. -/
def queueReply (kind tag : Nat) (st : Status) (d : Detail) (data : ReplyData) : State → State :=
  State.onPort (fun p => { p with out := p.out ++ [.reply ((kind + 0x80) % 256) tag st d data] })

/-! ### Counting events (R193) -/

/-- A counter takes an event of a class with a qualifier. -/
def Counter.take (cls : StatClass) (q : Nat) (c : Counter) : Counter :=
  if c.cls = cls && maskBit c.mask q then { c with value := (c.value + 1) % 4294967296 } else c

/-- Offer a counting event with its qualifier position. -/
def count (cls : StatClass) (q : Nat) : State → State := State.onStats (List.map (Counter.take cls q))

/-- Named transitions of the directory (R99), by qualifier position. -/
inductive DirTransition where
  | f2r | r2a | p2a | p2r | a2p | a2r | a2f | p2f | r2f
  deriving DecidableEq, Repr

def DirTransition.position : DirTransition → Nat
  | .f2r => 0
  | .r2a => 1
  | .p2a => 2
  | .p2r => 3
  | .a2p => 4
  | .a2r => 5
  | .a2f => 6
  | .p2f => 7
  | .r2f => 8

/-- Offer a DIRECTORY event (R99). -/
def countDir (t : DirTransition) : State → State := count .directory t.position

/-- Offer the OUTCOME event of an outcome; CANCELLED and WITHDRAWN have no qualifier (R69). -/
def countOutcome : OrderOutcome → State → State
  | .ended => count .outcome 2
  | .failed => count .outcome 3
  | .expired => count .outcome 4
  | .preempted => count .outcome 5
  | .cancelled => id
  | .withdrawn => id

/-! ### Reflection and trips in the window (R153, R164) -/

/-- The reflection ratio of a sample; absent when unmeasured (R153). -/
def reflection (pf pr : Nat) : Option Nat :=
  if pf < 10 then none
  else if pf ≤ pr then some 1000
  else some (1000 * pr / pf)

/-- A trip time lies within the trip window (R164). -/
def inWindow (s : State) (t : Nat) : Bool := decide (now s ≤ t + s.hall.par.tripWindow)

/-- Trips of the transmitter's history within the window, of the kinds named (R164, R190). -/
def historyCount (s : State) (n : Nat) (p : TripKind → Bool) : Nat :=
  ((protRec s n).trips.filter (fun t => p t.kind && inWindow s t.second)).length

/-- The count R164 gives for a kind of trip: the order's trip times for VSWR, the transmitter's history for TX-FAULT. -/
def tripCount (s : State) (n : Nat) (order : Option Nat) (kind : TripKind) : Nat :=
  match kind with
  | .txFault => historyCount s n (· == .txFault)
  | .vswr =>
    match order.bind (order? s) with
    | some o => (o.tripTimes.filter (inWindow s)).length
    | none => 0

/-! ### Fault records (R190, R191) -/

/-- The home row of a fault record (R190). -/
def homeRow (s : State) : Subject → Option Nat
  | .transmitter n => some n
  | .crosspoint r _ => some r
  | .antenna a => (dirRec s a).owner
  | .unit a kind =>
    match kind with
    | some .tlu => some (unitAt s a).owner
    | some .mdu => some (unitAt s a).owner
    | _ => none
  | .hall => none

/-- The slew in progress of an antenna, with its target. -/
def slewOf (s : State) (a : Nat) : List (Nat × Nat) :=
  match rotator? s a with
  | some r => if r.slew = .slewing then [(a, r.target.getD 0)] else []
  | none => []

/-- The tune in hand of a transmitter, with its kind and frequency. -/
def tuneOf (s : State) (n : Nat) : List (Nat × InHandKind × Nat) :=
  match (txCtl s n).tune with
  | some t => [(n, t.kind, t.freq)]
  | none => []

/-- The addresses whose commands a fault record lists: TLU and MDU of the home row, and ARUs of the slew list. -/
def recordAddrs (s : State) (home : Option Nat) (slews : List (Nat × Nat)) : List Nat :=
  (match home.bind (txRec? s) with
   | some r => [r.tlu, r.mdu]
   | none => []) ++
  slews.filterMap (fun x => (rotatorPart? s x.1).map (·.aru))

/-- The in-flight set around a subject, as the state stands (R190). -/
def inFlightSet (s : State) (sub : Subject) (order : Option Nat) : InFlight :=
  let home := homeRow s sub
  let whole := decide (sub = .hall)
  let moves := s.mx.movements.filter (fun m => whole || home == some m.row)
  let claimed := match order.bind (order? s) with
    | some o => (match o.antenna with
      | some a => if (dirRec s a).claiming = some o.id then [a] else []
      | none => [])
    | none => []
  let ants := if whole then upTo 32 else (match sub with
    | .antenna a => [a]
    | _ => claimed)
  let slews := ants.flatMap (slewOf s)
  let tunes := if whole then ((upTo 16).flatMap (tuneOf s)).filter (fun t => t.2.1 == .search)
    else (match home with
      | some n => tuneOf s n
      | none => [])
  let addrs := recordAddrs s home slews
  let cmds := (s.line.queue ++ s.line.heldBack).filter (fun c => addrs.contains c.addr)
  { movements := (moves.take 6).map (fun m => (m.row, m.col, m.dir))
    slews := slews.take 32
    tunes := tunes.take 16
    commands := cmds.take 8
    commandCount := min 64 cmds.length }

/-- The transmitter's latest telemetry and its foldback factor, as a snapshot (R190). -/
def latestSnap (s : State) (n : Nat) : Option TeleSnap :=
  (txCtl s n).telemetry.map (fun t =>
    { sample := t, rho := reflection t.reply.pf t.reply.pr, factor := (protRec s n).factor })

/-- Put a record in the ring and offer its FAULT report (R191). -/
def logFault (r : FaultRecord) (s : State) : State :=
  s.onLog (fun l =>
    { ring := (if l.ring.length < Config.maxFaults then l.ring else l.ring.drop 1) ++ [r]
      next := (l.next + 1) % 65536 })
  |> offerReport (.fault r)

/-- Make a fault record with a given in-flight set, telemetry snapshot and trip count (R190). -/
def makeFaultWith (kind : FaultKind) (sub : Subject) (order : Option (Nat × Stage)) (fl : InFlight)
    (tele : Option TeleSnap) (trips : Nat) (s : State) : State :=
  logFault { number := s.log.next, second := s.clock.time, kind := kind, subject := sub, order := order
             inFlight := fl, telemetry := tele, trips := trips } s

/-- Order id and stage for a record about a row: its order beyond STAGED, if there is one (log 33). -/
def rowOrder (s : State) (n : Nat) : Option (Nat × Stage) := (workingOrder? s n).map (fun o => (o.id, o.stage))

/-- A record whose subject is a transmitter and which no sample made (R190). -/
def makeTxFault (kind : FaultKind) (n : Nat) (order : Option (Nat × Stage)) (s : State) : State :=
  makeFaultWith kind (.transmitter n) order (inFlightSet s (.transmitter n) (order.map (·.1))) (latestSnap s n)
    (historyCount s n (fun _ => true)) s

/-- A record whose subject is not a transmitter (R190). -/
def makeFault (kind : FaultKind) (sub : Subject) (order : Option (Nat × Stage)) (s : State) : State :=
  makeFaultWith kind sub order (inFlightSet s sub (order.map (·.1))) none 0 s

/-! ### HALL reports (R54) -/

/-- Offer a HALL report with the state as it stands (R54). -/
def hallReport (cause : HallCause) (s : State) : State :=
  offerReport (.hall { key := s.pins.key, chainClosed := s.pins.chainClosed, enable := s.clock.enable
                       auto := isAuto s, cause := cause }) s

/-! ### One ORDER report for each order a command changes (R69, log 4) -/

/-- Note that the command changes this order, with its stage before the command. -/
def noteOrder (id : Nat) (s : State) : State :=
  if s.notes.any (fun k => k.id == id) then s
  else match order? s id with
    | some o => s.onNotes (· ++ [{ id := id, previous := some o.stage, left := none, before := none }])
    | none => s

/-- Note an order just created: it has no stage before. -/
def noteCreated (id : Nat) : State → State :=
  State.onNotes (· ++ [{ id := id, previous := none, left := none, before := none }])

/-- Change the note of an order. -/
def updNote (id : Nat) (f : OrderNote → OrderNote) : State → State :=
  State.onNotes (List.map (fun k => if k.id = id then f k else k))

/-- The ORDER report of a noted order (R69). -/
def orderReport (s : State) (k : OrderNote) (o : Order) (outcome : Option OrderOutcome) : OrderReport :=
  { id := o.id, origin := o.origin, service := o.snap.service, tx := o.snap.tx
    previous := k.previous
    new := if outcome.isSome then none else some o.stage
    lateStart := o.lateStart, late := o.lateness.isSome, held := o.held, blind := o.blind
    alternateUsed := o.alternateUsed, rescued := o.rescued, continued := o.continued
    preempting := o.preempting, antenna := o.antenna, load := o.load, failure := o.failure
    outcome := outcome, lateness := o.lateness, second := s.clock.time, before := k.before }

/-- Offer the ORDER report of one noted order, from its record in the table or the record that has left it. -/
def flushNote (k : OrderNote) (s : State) : State :=
  match k.left with
  | some (o, out) => offerReport (.order (orderReport s k o (some out))) s
  | none =>
    match order? s k.id with
    | some o => offerReport (.order (orderReport s k o none)) s
    | none => s

/-- Offer the ORDER reports of the orders the command has changed, in the order of their first changes. -/
def flushOrders (s : State) : State := (forEach s.notes flushNote s).onNotes (fun _ => [])

end Sys2Proof.Machine
end

