-- ==== Sys2Proof/Machine/LineOps.lean ====
section
/-! DEFINITION. The Field Line Controller's operations (08): offering, holding back, removing and sending commands, the
unit table, and the polling scan. -/

namespace Sys2Proof.Machine

/-- The serial number the next offered command will carry. -/
def nextSerial (s : State) : Nat := s.line.serial + 1

/-- Put a command among the held-back ones, in the order of first offers (R175). -/
def insertHeld (c : Cmd) : List Cmd → List Cmd
  | [] => [c]
  | d :: l => if c.serial < d.serial then c :: d :: l else d :: insertHeld c l

/-- The NORMAL command that joined the queue last (R175). -/
def lastNormal (q : List Cmd) : Option Cmd := (q.filter (fun c => !c.urgent)).getLast?

/-- Answer the offer of a command to a bound, answering address (R175). -/
def Line.place (c : Cmd) (l : Line) : Line :=
  if l.queue.length < Config.maxCommands then { l with queue := l.queue ++ [c] }
  else if c.urgent then
    match lastNormal l.queue with
    | some d => { l with queue := l.queue.filter (fun x => x.serial != d.serial) ++ [c]
                         heldBack := insertHeld d l.heldBack }
    | none => { l with heldBack := insertHeld c l.heldBack }
  else { l with heldBack := insertHeld c l.heldBack }

/-- Offer a command: it fails at once when its address is UNBOUND or SILENT (R175). -/
def placeCmd (c : Cmd) (s : State) : State :=
  if (unitAt s c.addr).state = .alive then s.onLine (Line.place c)
  else emit (.command c .noReply) s

/-- A block offers a new command (R175). -/
def offerCmd (addr : Nat) (fn : CmdFn) (urgent : Bool) (subject : Nat) (s : State) : State :=
  let c : Cmd := { addr := addr, fn := fn, urgent := urgent, subject := subject, serial := nextSerial s }
  placeCmd c (s.onLine (fun l => { l with serial := l.serial + 1 }))

/-- Some queued or held-back command meets a test (R175: held back counts as queued). -/
def cmdWaits (s : State) (p : Cmd → Bool) : Bool := (s.line.queue ++ s.line.heldBack).any p

/-- The command of the transaction in progress, if it is one. -/
def cmdSent? (s : State) : Option Cmd :=
  match s.line.txn with
  | some t => (match t.fn with
    | .command c => some c
    | .poll => none)
  | none => none

/-- Some command that meets a test is queued, held back, or sent and awaiting its reply. -/
def cmdOutstanding (s : State) (p : Cmd → Bool) : Bool := cmdWaits s p || (cmdSent? s).any p

/-- A block removes its own commands unsent; it has already dropped them (R177). -/
def removeCmds (p : Cmd → Bool) : State → State :=
  State.onLine (fun l => { l with queue := l.queue.filter (fun c => !p c), heldBack := l.heldBack.filter (fun c => !p c) })

/-- Commands removed unsent fail as with no reply (R177). -/
def failCmds (p : Cmd → Bool) (s : State) : State :=
  let gone := (s.line.queue ++ s.line.heldBack).filter p
  forEach gone (fun c => emit (.command c .noReply)) (removeCmds p s)

/-- The bound addresses, ascending (R170). -/
def boundAddrs (s : State) : List Nat := (upTo 63).filter (fun a => (unitAt s a).state != .unbound)

/-- A transaction begins with the unit bound at its address, at the line settings in force (R169, R171). -/
def Line.begin_ (l : Line) (addr : Nat) (fn : TxnFn) : Txn where
  addr := addr
  fn := fn
  kind := (nth l.units addr).bind (·.kind)
  retry := false
  live := true
  rate := l.rate
  window := l.window

/-- The polling scan sends a POLL to the next bound address; with none bound the line is silent (R173). -/
def startPoll (s : State) : State :=
  let l := boundAddrs s
  match (l.find? (fun a => decide (s.line.scanAt < a))).or l.head? with
  | some a => s.onLine (fun k => { k with scanAt := a, txn := some (k.begin_ a .poll) })
  | none => s.onLine (fun k => { k with txn := none })

/-- The command a command slot sends: the oldest URGENT one, else the oldest (R176). -/
def pickCmd (q : List Cmd) : Option Cmd := (q.find? (·.urgent)).or q.head?

/-- The held-back commands are offered again: URGENT first, then NORMAL, each in order of first offer (R175). -/
def reofferHeld (s : State) : State :=
  forEach (s.line.heldBack.filter (·.urgent) ++ s.line.heldBack.filter (fun c => !c.urgent))
    (fun c t => placeCmd c (t.onLine (fun l => { l with heldBack := l.heldBack.filter (fun d => d.serial != c.serial) }))) s

/-- A cool-down command becomes SENT when it leaves the queue (R131, R176). -/
def markSent (c : Cmd) : State → State :=
  updTx c.subject (fun t => if t.coolDown = .queued c.serial then { t with coolDown := .sent c.serial } else t)

/-- One command slot, after each poll (R173, R176). -/
def commandSlot (s : State) : State :=
  let s := reofferHeld s
  match pickCmd s.line.queue with
  | some c =>
    s.onLine (fun l => { l with
      queue := l.queue.filter (fun d => d.serial != c.serial)
      txn := some (l.begin_ c.addr (.command c)) })
    |> markSent c
  | none => startPoll s

/-- A line that has been silent begins its scan at a binding (R173): at the first one, where one request makes two (log 98). -/
def wakeScan (s : State) : State := if s.line.txn.isNone then startPoll s else s

/-- Bind an address to a unit board of a kind (R170). -/
def bindUnit (addr : Nat) (kind : UnitKind) (owner : Nat) (s : State) : State :=
  updUnit addr (fun _ => { kind := some kind, state := .alive, misses := 0, owner := owner, lastGood := none }) s
  |> wakeScan

/-- Unbind an address: its entry is cleared, its commands fail unsent, and an answer to a transaction in progress with it
is not delivered (R170, R173, R177). -/
def unbindUnit (addr : Nat) (s : State) : State :=
  failCmds (fun c => c.addr == addr) s
  |> updUnit addr (fun _ => {})
  |> State.onLine (fun l => { l with txn := l.txn.map (fun t => if t.addr = addr then { t with live := false } else t) })

/-- Offer a UNIT report (R172). -/
def unitReport (s : State) (addr : Nat) (new previous : UnitState) (cause : Option MissCause) : State :=
  let u := unitAt s addr
  offerReport (.unit { addr := addr, kind := u.kind, owner := u.owner, new := new, previous := previous
                       misses := u.misses, cause := cause, second := s.clock.time }) s

/-- A good reply: the misses return to 0, and a SILENT address becomes ALIVE (R172). -/
def goodReply (addr : Nat) (s : State) : State :=
  let was := (unitAt s addr).state
  let s := updUnit addr (fun u => { u with misses := 0, lastGood := s.clock.time, state := .alive }) s
  if was = .silent then unitReport s addr .alive .silent none else s

/-- A third consecutive miss makes an address SILENT: its commands fail (R172, step 1), and what follows comes after what
those failures bring to their orders. -/
def becomeSilent (addr : Nat) (cause : MissCause) (s : State) : State :=
  let u := unitAt s addr
  let sub : Subject := .unit addr u.kind
  let fl := inFlightSet s sub ((homeRow s sub).bind (fun n => (rowOrder s n).map (·.1)))
  updUnit addr (fun v => { v with misses := 3, state := .silent }) s
  |> failCmds (fun c => c.addr == addr)
  |> emit (.unitLost addr fl cause)

/-- The owner of a unit that has become SILENT is told, and then the report, the record and the counting event are made
(R172, steps 2 to 5). -/
def unitLost (addr : Nat) (fl : InFlight) (cause : MissCause) (s : State) : State :=
  let u := unitAt s addr
  (match u.kind with
    | some k => emit (.silent k u.owner) s
    | none => s)
  |> emit (.unitDown addr fl cause)

/-- The report, record and counting event of a unit that has become SILENT (R172, steps 3 to 5). The record takes the
in-flight set as the state stands, but for the commands, which are those that stood just before (R190). The record of an ARU, which
has no home row, names no order, and its four lists are empty (log 101). -/
def unitDown (addr : Nat) (fl : InFlight) (cause : MissCause) (s : State) : State :=
  let u := unitAt s addr
  let sub : Subject := .unit addr u.kind
  let order := (homeRow s sub).bind (rowOrder s)
  let tele := if u.kind = some .tlu then latestSnap s u.owner else none
  let set_ := { inFlightSet s sub (order.map (·.1)) with commands := fl.commands, commandCount := fl.commandCount }
  unitReport s addr .silent .alive (some cause)
  |> makeFaultWith .unitSilent sub order set_ tele 0
  |> count .line 1

/-- A miss counts under R172: polls and commands alike. -/
def countMiss (addr : Nat) (cause : MissCause) (s : State) : State :=
  let s := count .line 0 s
  let u := unitAt s addr
  match u.state with
  | .unbound => s
  | .silent => s
  | .alive =>
    if u.misses < 2 then updUnit addr (fun v => { v with misses := v.misses + 1 }) s
    else becomeSilent addr cause s

/-- The transaction in progress has ended; what follows on the line comes after its content has been delivered. -/
def endTxn : State → State := State.onLine (fun l => { l with txn := none })

end Sys2Proof.Machine
end

