-- ==== Sys2Proof/Machine/TxOps.lean ====
section
/-! DEFINITION. Transmitter Control's operations (06): states, warm-up and cool-down, Tuning Memory, tunes, carrier and
setpoint commands, blindness. They tell orders their results by signals and change no order's stage. -/

namespace Sys2Proof.Machine

/-! ### Orders' work in hand (R68) -/

def setWork (id : Nat) (f : WorkSet → WorkSet) : State → State := updOrder id (fun o => { o with work := f o.work })

/-! ### Commands to the TLU -/

/-- Offer a command to the TLU of a transmitter; an undefined transmitter has none. -/
def offerTlu (n : Nat) (fn : CmdFn) (urgent : Bool) (s : State) : State :=
  match txRec? s n with
  | some r => offerCmd r.tlu fn urgent n s
  | none => s

def CmdFn.isCarrierOn : CmdFn → Bool
  | .carrierOn _ => true
  | _ => false

def CmdFn.isSetpoint : CmdFn → Bool
  | .setpoint _ => true
  | _ => false

def CmdFn.isTuneSearch : CmdFn → Bool
  | .tuneSearch _ _ _ => true
  | _ => false

/-- A command to a TLU (as against one to an MDU or an ARU, whose subject numbers rows or antennas). -/
def CmdFn.toTlu : CmdFn → Bool
  | .move _ _ => false
  | .slew _ => false
  | .stop => false
  | _ => true

/-- A command of transmitter `n` with a given function. -/
def tluCmd (n : Nat) (p : CmdFn → Bool) (c : Cmd) : Bool := c.subject == n && c.fn.toTlu && p c.fn

/-! ### State of a transmitter (R128, R129) -/

/-- The state that the latest reply gives, or OFFLINE where R129 holds. -/
def derivedState (s : State) (n : Nat) : TxState :=
  match txRec? s n, (txCtl s n).telemetry with
  | some r, some t =>
    if (unitAt s r.tlu).state != .alive || t.reply.control == .local then .offline
    else match t.reply.filament with
      | .off => .cold
      | .heating => .warming
      | .ready => if t.reply.carrierOn then .on else .standby
  | _, _ => .offline

/-- The tune in hand ends: it is discarded, and TUNE leaves its order's work in hand. -/
def dropTune (n : Nat) (s : State) : State :=
  match (txCtl s n).tune with
  | none => s
  | some t =>
    let s := updTx n (fun x => { x with tune := none }) s
    match t.order with
    | some id => setWork id (fun w => { w with tune := false }) s
    | none => s

/-- Orders of a transmitter whose stage lies in a range fail with a cause. -/
def failOrdersOn (n : Nat) (lo hi : Stage) (cause : FailCause) (s : State) : State :=
  forEach ((ordersOf s n).filter (fun o => Stage.between lo hi o.stage)) (fun o => emit (.fail o.id cause)) s

/-- A transmitter is lost to the work on it (R128, R129): its tune in hand ends unfinished, the orders from stage `lo` to
RECOVERING fail with TX-LOST, and the order of the tune goes on, which in CLOSING no longer waits for it (R81). -/
def loseWork (n : Nat) (lo : Stage) (s : State) : State :=
  let tuned := (txCtl s n).tune.bind (·.order)
  let s := dropTune n s |> failOrdersOn n lo .recovering .txLost
  match tuned with
  | some id => emit (.advance id) s
  | none => s

/-- The transmitter becomes OFFLINE (R129). A LOCKED-OUT one stays LOCKED-OUT. -/
def goOffline (n : Nat) (s : State) : State :=
  let t := txCtl s n
  if t.state = .offline || t.state = .lockedOut then s
  else
    let lost := (ordersOf s n).find? (fun o => Stage.between .warming .recovering o.stage)
    let s := setTxState n .offline s
    let s := match lost with
      | some o => makeTxFault .txLost n (some (o.id, o.stage)) s
      | none => s
    loseWork n .warming s

/-- Start a warm-up record from the latest poll reply, at the hall second of that reply (R128, step 3 and the table of step
6). -/
def warmFromReply (n : Nat) (s : State) : State :=
  updTx n (fun x => { x with warm := some { start := x.telemetry.bind (·.second)
                                            timer := (txRec? s n).map (fun r => 2 * r.warmUp)
                                            waiting := [], cmd := none } }) s

/-- Take the state from the latest reply (R128 step 6, R129). -/
def takeState (n : Nat) (s : State) : State :=
  match derivedState s n with
  | .offline => goOffline n s
  | .warming =>
    let s := setTxState n .warming s
    if (txCtl s n).warm.isNone then warmFromReply n s else s
  | d => setTxState n d s

/-- Take the state from the latest reply where the transmitter is still TUNING (the result of a tune: R128, R134). -/
def takeStateIfTuning (n : Nat) (s : State) : State :=
  if (txCtl s n).state = .tuning then takeState n s else s

/-- The transmitter leaves TRIPPED and takes its state from its latest reply (R144, R163). -/
def leaveTripped (n : Nat) (s : State) : State :=
  if (txCtl s n).state = .tripped then takeState n s else s

/-! ### Carrier (R138, R139) -/

/-- The CARRIER OFF of a transmitter that has no result yet, if one is outstanding (R127, R139). -/
def outstandingOff (s : State) (n : Nat) : Option CarrierCmd :=
  (((cmdSent? s).toList ++ s.line.queue ++ s.line.heldBack).find? (tluCmd n (· == .carrierOff))).map (fun c => .off c.serial)

/-- A carrier-off request (R139), with the order that waits for it, if one does. A CARRIER ON removed unsent leaves an
outstanding CARRIER OFF as the latest CARRIER command (R127). Where an earlier CARRIER OFF has its result and its confirmation is still
awaited, every waiter awaits the result of the new command (log 91). -/
def carrierOffRequest (n : Nat) (who : Option Nat) (s : State) : State :=
  let off := outstandingOff s n
  let s := updTx n (fun x => { x with
    offWaiters := match who with
      | some id => if x.offWaiters.contains id then x.offWaiters else x.offWaiters ++ [id]
      | none => x.offWaiters
    carrier := match x.carrier with
      | some (.on p c) => if cmdWaits s (fun d => d.serial == c) then off else some (.on p c)
      | y => y }) s
  let s := removeCmds (tluCmd n (fun f => f.isCarrierOn || f.isSetpoint)) s
  let s := updProt n (fun p => { p with sent := 0, acked := 0, rise := none }) s
  if off.isSome then updTx n (fun x => { x with offReq := .command }) s
  else if isLocal s then updTx n (fun x => { x with offReq := .reply }) s
  else
    updTx n (fun x => { x with offReq := .command, carrier := some (.off (nextSerial s)) }) s
    |> offerTlu n .carrierOff true

/-- Carrier on at a setpoint (R138, R158). -/
def carrierOn (n level : Nat) (s : State) : State :=
  updTx n (fun x => { x with carrier := some (.on level (nextSerial s)) }) s
  |> updProt n (fun p => { p with sent := level })
  |> offerTlu n (.carrierOn level) false

/-- A setpoint request (R142, R158): none is queued under LOCAL or while the transmitter is blind. -/
def setpointRequest (n power : Nat) (s : State) : State :=
  if isLocal s || (txCtl s n).blind.isSome then s
  else
    let urgent := decide (power = 0) || decide (power < (protRec s n).acked)
    removeCmds (tluCmd n CmdFn.isSetpoint) s
    |> updProt n (fun p => { p with sent := power })
    |> offerTlu n (.setpoint power) urgent

/-- Carrier is confirmed off: every waiter is told, and the waiters are emptied (R140). -/
def confirmOff (n : Nat) (s : State) : State :=
  let who := (txCtl s n).offWaiters
  let s := updTx n (fun x => { x with offWaiters := [], offReq := .none }) s
  forEach who (fun id t => emit (.advance id) (setWork id (fun w => { w with carrierOff := false }) t)) s

/-! ### Warm-up and cool-down (R130, R131) -/

/-- Cancel a cool-down that is still QUEUED (R130, R131). -/
def cancelCoolDown (n : Nat) (s : State) : State :=
  match (txCtl s n).coolDown with
  | .queued c => removeCmds (fun d => d.serial == c) (updTx n (fun x => { x with coolDown := .none }) s)
  | _ => s

/-- Admission has created an order on the transmitter: its idle clock returns to 0 and its cool-down is cancelled (R60,
R131). -/
def informCoolDown (n : Nat) (s : State) : State := cancelCoolDown n (updTx n TxCtl.awake s)

/-- An order asks for warm-up (R130): it joins the record present, or FILAMENT ON is queued for a COLD transmitter that
has none outstanding. -/
def requestWarmUp (n id : Nat) (s : State) : State :=
  let join (w : WarmUp) : WarmUp := if w.waiting.contains id then w else { w with waiting := w.waiting ++ [id] }
  match (txCtl s n).warm with
  | some w =>
    let s := updTx n (fun x => { x with warm := some (join w) }) s
    if (txCtl s n).state = .cold && w.cmd.isNone then
      let s := cancelCoolDown n s
      updTx n (fun x => { x with warm := x.warm.map (fun v => { v with cmd := some (nextSerial s) }) }) s
      |> offerTlu n (.filament true) false
    else s
  | none =>
    if (txCtl s n).state = .warming then
      updTx n (fun x => { x with warm := some { start := none, timer := none, waiting := [id], cmd := none } }) s
    else
      let s := cancelCoolDown n s
      updTx n (fun x => { x with warm := some { start := none, timer := none, waiting := [id], cmd := some (nextSerial s) } }) s
      |> offerTlu n (.filament true) false

/-- An order leaves the waiting orders of a warm-up (R130). -/
def dropWarm (n id : Nat) : State → State :=
  updTx n (fun x => { x with warm := x.warm.map (fun w => { w with waiting := w.waiting.filter (· != id) }) })

/-- The filament is READY: the record is discarded and each waiting order is told (R130). -/
def warmUpDone (n : Nat) (s : State) : State :=
  match (txCtl s n).warm with
  | none => s
  | some w =>
    let s := updTx n (fun x => { x with warm := none }) s
    forEach w.waiting (fun id t => emit (.advance id) (setWork id (fun k => { k with warmUp := false }) t)) s

/-- The warm-up has failed: the record is discarded and each waiting order fails (R130). -/
def warmUpFailed (n : Nat) (s : State) : State :=
  match (txCtl s n).warm with
  | none => s
  | some w =>
    let s := updTx n (fun x => { x with warm := none }) s
    forEach w.waiting
      (fun id t => emit (.fail id .warmUpFailed) (setWork id (fun k => { k with warmUp := false }) t)) s

/-- FILAMENT OFF has been acknowledged: the transmitter becomes COLD; a tune in hand ends unfinished and an order in a
stage from CLEARING to RECOVERING fails with TX-LOST (R128, R131; log 31). -/
def filamentOffAcked (n : Nat) (s : State) : State :=
  let s := updTx n (fun x => { x with filOffAcked := true }) s
  if (txCtl s n).state = .offline || (txCtl s n).state = .lockedOut then s
  else setTxState n .cold s |> loseWork n .clearing

/-- A transmitter is idle: STANDBY, and no live order names it (R131). -/
def isIdle (s : State) (n : Nat) : Bool := (txCtl s n).state == .standby && (ordersOf s n).isEmpty

/-! ### Tuning Memory and tunes (R132 to R137) -/

/-- Invalidate the entry for a frequency, if it still holds it (R135, R136). -/
def invalidate (n f : Nat) (s : State) : State :=
  if (presetHit s n f).isSome then setPreset n (presetIndex f) none s else s

/-- The tune an order needs (R133). -/
def tuneKindFor (s : State) (n f : Nat) : TuneKind :=
  if (txCtl s n).tuned = some f then .none
  else if (presetHit s n f).isSome then .preset
  else .search

/-- Ask for the tune kind, which offers a TUNE event (R133). -/
def countTuneKind : TuneKind → State → State
  | .none => id
  | .preset => count .tune 0
  | .search => count .tune 1

/-- Open a tune in hand; the transmitter becomes TUNING (R128), and the unproven preset is cleared by the order's next
tune command (R161). -/
def openTune (n : Nat) (t : TuneInHand) (s : State) : State :=
  updTx n (fun x => { x.to .tuning with tune := some t }) s |> updProt n (fun p => { p with unproven := false })

/-- A mode change (R136). -/
def startMode (n id f : Nat) (m : Mode) (s : State) : State :=
  openTune n { kind := .mode, freq := f, mode := m, index := presetIndex f, verified := false, order := some id
               timer := none, held := false, acked := false, reading := false, cmd := some (nextSerial s) } s
  |> offerTlu n (.mode m) false

/-- A preset tune from a valid entry (R136). -/
def startPreset (n id f : Nat) (m : Mode) (p : Preset) (s : State) : State :=
  openTune n { kind := .preset, freq := f, mode := m, index := presetIndex f, verified := p.verified, order := some id
               timer := none, held := false, acked := false, reading := false, cmd := some (nextSerial s) } s
  |> offerTlu n (.tunePreset f m p.positions) false

/-- A search tune (R134): the command carries the transmitter's search power. -/
def startSearch (n id f : Nat) (m : Mode) (s : State) : State :=
  let power := ((txRec? s n).map (·.searchPower)).getD 0
  openTune n { kind := .search, freq := f, mode := m, index := presetIndex f, verified := false, order := some id
               timer := none, held := false, acked := false, reading := false, cmd := some (nextSerial s) } s
  |> offerTlu n (.tuneSearch f m power) false

/-- A tune has its result: the tune in hand is discarded, the state follows R128, and the order, if one is still live,
is told. -/
def tuneResult (n : Nat) (ok : Bool) (s : State) : State :=
  match (txCtl s n).tune with
  | none => s
  | some t =>
    let s := takeStateIfTuning n (dropTune n s)
    match t.order with
    | some id => emit (.tuned id ok) s
    | none => s

/-- The order of a tune in hand with its stage, for a fault record. -/
def tuneOrder (s : State) (n : Nat) : Option (Nat × Stage) :=
  match (txCtl s n).tune with
  | some t => (t.order.bind (order? s)).map (fun o => (o.id, o.stage))
  | none => none

/-- A search fails (R134). `ranOut`: its tune timer has run out. -/
def searchFail (n : Nat) (ranOut : Bool) (s : State) : State :=
  let s := if (reportsOn s n || ranOut) && !isLocal s then carrierOffRequest n none s else s
  count .tune 2 s |> makeTxFault .tuneFail n (tuneOrder s n) |> tuneResult n false

/-- A preset tune fails (R136), with its entry invalidated or kept. -/
def presetFail (n : Nat) (drop : Bool) (s : State) : State :=
  match (txCtl s n).tune with
  | none => s
  | some t =>
    let s := if drop then invalidate n t.freq s else s
    makeTxFault .tuneFail n (tuneOrder s n) s |> tuneResult n false

/-- A search ends unfinished: no result is read, the memory is not written (R137). -/
def endSearch (n : Nat) (s : State) : State := takeStateIfTuning n (dropTune n s)

/-- The Safety Chain opens on a search: it is held, its command is removed if still unsent, and CARRIER OFF is queued
while the key is REMOTE (R137). A TUNE-SEARCH already sent is awaited no longer: should it fail, R134's table does not end the
held search (log 78). -/
def holdSearch (n : Nat) (s : State) : State :=
  let s := removeCmds (tluCmd n CmdFn.isTuneSearch) s
  let s := updTx n (fun x => { x with tune := x.tune.map (fun t => { t with held := true, timer := none, cmd := none }) }) s
  if isLocal s then s else carrierOffRequest n none s

/-- The hold ends: a new TUNE-SEARCH is queued and the search runs again from its first step (R137). -/
def resumeSearch (n : Nat) (s : State) : State :=
  match (txCtl s n).tune, txRec? s n with
  | some t, some r =>
    updTx n (fun x => { x with tune := some { t with held := false, timer := none, acked := false, reading := false
                                                     cmd := some (nextSerial s) } }) s
    |> offerTlu n (.tuneSearch t.freq t.mode r.searchPower) false
  | _, _ => s

/-! ### Blindness (R143) -/

/-- A transmitter goes blind: its order carries BLIND and the blind timer starts (R143). -/
def beginBlind (n id : Nat) (s : State) : State :=
  noteOrder id s
  |> updTx n (fun x => { x with blind := some s.hall.par.blindHold })
  |> updOrder id (fun o => { o with blind := true })

/-- Blindness ends because the order has left its carrier stage: the transmitter becomes OFFLINE (R143). -/
def endBlind (n : Nat) (s : State) : State :=
  if (txCtl s n).blind.isNone then s
  else
    updTx n (fun x => { x with blind := none }) s
    |> forEach ((ordersOf s n).map (·.id)) (fun id => updOrder id (fun o => { o with blind := false }))
    |> goOffline n

/-! ### Stages (R69, R143, R156) -/

/-- Change an order's stage. An order that leaves the carrier stages ends the blindness of its transmitter (R143), and
the base and permit of its protection record and its rise go with it (R151, R157). -/
def setStage (id : Nat) (st : Stage) (s : State) : State :=
  match order? s id with
  | none => s
  | some o =>
    let s := noteOrder id s
    let s := updOrder id (fun x => { x with stage := st, stageSecs := 0 }) s
    if o.stage.carrier && !st.carrier then
      updProt o.snap.tx (fun p => { p with base := none, permit := none, rise := none }) s |> endBlind o.snap.tx
    else s

end Sys2Proof.Machine
end

