-- ==== Sys2Proof/Machine/MatrixOps.lean ====
section
/-! DEFINITION. The Antenna Directory's and Matrix Control's operations (05): claims, releases and wait lists, crosspoints
and movements, what an MDU reports, the RF Permit lines, and rotators. -/

namespace Sys2Proof.Machine

/-! ### Reports and flags (R99, R105, R107) -/

/-- Offer an ANTENNA report with the record as it stands (R99). -/
def antReport (c : Nat) (cause : AntCause) (s : State) : State :=
  let d := dirRec s c
  offerReport (.antenna { col := c, state := d.state, owner := d.owner, inhibited := d.inhibited, suspect := d.suspect
                          faultStuck := d.faultStuck, faultDouble := d.faultDouble, faultRotator := d.faultRotator
                          cause := cause }) s

/-- Causes that FAULTED holds (R98, R105). -/
inductive FaultFlag where
  | stuck | double | rotator
  deriving DecidableEq, Repr

def DirRec.withFault (k : FaultFlag) (d : DirRec) : DirRec :=
  match k with
  | .stuck => { d with faultStuck := true }
  | .double => { d with faultDouble := true }
  | .rotator => { d with faultRotator := true }

/-- FAULTED is set. -/
def DirRec.faulted (d : DirRec) : Bool := d.faultStuck || d.faultDouble || d.faultRotator

/-- Set FAULTED with a cause; an ANTENNA report is queued at the change (R99, R105). -/
def setFault (c : Nat) (k : FaultFlag) (s : State) : State :=
  if (dirRec s c).withFault k = dirRec s c then s
  else antReport c .fault (updDir c (DirRec.withFault k) s)

/-- Offer a CROSSPOINT report (R107). -/
def xpReport (r c : Nat) (old new : XpState) (reported : Option SwitchPos) (cause : XpCause) : State → State :=
  offerReport (.crosspoint { row := r, col := c, old := old, new := new, reported := reported, cause := cause })

def setXp (r c : Nat) (st : XpState) : State → State := updXp r c (fun x => { x with state := st })

/-! ### The law of the directory (R98) -/

/-- The row of a live order. -/
def rowOfOrder (s : State) (id : Nat) : Option Nat := (order? s id).map (fun o => o.snap.tx)

/-- The state and owner row that the column and the claim give: ASSIGNED where the claim is held by an order on the owner row, the
lowest active one (R98). An ASSIGNED column stays ASSIGNED while the crosspoint on its claiming order's row is active, also where
a lower row has become active (R113, R117; log 20), and, its claim released, while its crosspoint opens for its handover order,
also where that order has gone meanwhile (R102, last paragraph). -/
def lawOf (s : State) (c : Nat) : DirState × Option Nat :=
  let d := dirRec s c
  match colWhere s c XpState.active with
  | r :: more =>
    let mine := match d.claiming.bind (rowOfOrder s) with
      | some row => row == r || (d.state == .assigned && more.contains row)
      | none => false
    let passing := d.state == .assigned && d.claiming.isNone &&
      (d.handover.isSome || (r :: more).any (fun k => (xpAt s k c).state == .opening))
    (if mine || passing then .assigned else .parked, some r)
  | [] =>
    if (colWhere s c (· == .unknown)).isEmpty then (if d.claiming.isSome then .reserved else .free, none)
    else (.unresolved, none)

/-- Give a column's record a state and an owner row; entry into and exit from UNRESOLVED queue an ANTENNA report (R98, R99). -/
def settleTo (c : Nat) (law : DirState × Option Nat) (s : State) : State :=
  let was := (dirRec s c).state
  let s := updDir c (fun d => { d with state := law.1, owner := law.2 }) s
  if was = .unresolved && law.1 != .unresolved then antReport c .resolved s
  else if was != .unresolved && law.1 = .unresolved then antReport c .unresolved s
  else s

/-- Bring a column's record to the law (R98). -/
def settleColumn (c : Nat) (s : State) : State := settleTo c (lawOf s c) s

/-- The column is offered to those who wait for it (R103, R104). -/
def offerWaiters (c : Nat) : State → State := if c ≤ 32 then emit (.offerColumn c) else emit .offerLoads

/-! ### Movement requests (R108, R109) -/

/-- Drive credits that are free (R109). -/
def creditsFree (s : State) : Nat := s.hall.par.credits - s.mx.movements.length

/-- The position a direction leads to. -/
def Direction.target : Direction → XpState
  | .close => .closed
  | .opens => .opened

/-- The position a movement starts from. -/
def Direction.source : Direction → XpState
  | .close => .opened
  | .opens => .closed

/-- The state while the movement is in flight. -/
def Direction.moving : Direction → XpState
  | .close => .closing
  | .opens => .opening

/-- The requester is an order that moves a crosspoint of its own row (R73, R76), and not the column's directory. -/
def Requester.ofRow : Requester → Bool
  | .order _ => true
  | .release _ | .handover _ | .parkedLoad => false

/-- Put a requester among those to be told, once. -/
def joinWho (w : Requester) (l : List Requester) : List Requester := if l.contains w then l else l ++ [w]

/-- Ask Matrix Control to close or open a crosspoint (R108). No request is turned away for want of room (log 69). -/
def requestMove (r c : Nat) (dir : Direction) (essential : Bool) (who : Requester) (s : State) : State :=
  let x := xpAt s r c
  if x.state = dir.target then emit (.moved who r c true) s
  else if x.state = dir.moving then
    s.onMx (fun m => { m with movements := m.movements.map (fun v =>
      if v.row = r && v.col = c then { v with who := joinWho who v.who } else v) })
  else if s.mx.queue.any (fun q => q.row == r && q.col == c && q.dir == dir) then
    s.onMx (fun m => { m with queue := m.queue.map (fun q =>
      if q.row = r && q.col = c && q.dir = dir then
        { q with who := joinWho who q.who, essential := q.essential || essential } else q) })
  else if x.state = .stuck then emit (.moved who r c false) s
  else if (txRec? s r).isNone then emit (.moved who r c false) s
  else if dir = .close && x.serviceDue && !essential then
    xpReport r c x.state x.state none .serviceRefused s |> emit (.moved who r c false)
  else
    let s' := s.onMx (fun m => { m with
      queue := m.queue ++ [{ row := r, col := c, dir := dir, essential := essential, arrival := m.arrivals, who := [who] }]
      arrivals := m.arrivals + 1 })
    if creditsFree s = 0 then count .drive 1 s' else s'

/-- Tell every requester of a result (R108, R111). -/
def tellAll (l : List Requester) (r c : Nat) (ok : Bool) : State → State :=
  forEach l (fun w => emit (.moved w r c ok))

/-- A request of this order, or for it, is queued or in flight (R68: MOVE). -/
def moveOutstanding (s : State) (id : Nat) : Bool :=
  let mine (w : Requester) : Bool := w == .order id || w == .release id
  s.mx.queue.any (fun q => q.who.any mine) || s.mx.movements.any (fun m => m.who.any mine)

/-- Requesters leave the queued requests; a request with none left leaves the queue (R108). -/
def dropRequesters (p : Requester → Bool) : State → State :=
  State.onMx (fun m => { m with
    queue := (m.queue.map (fun q => { q with who := q.who.filter (fun w => !p w) })).filter (fun q => !q.who.isEmpty) })

/-- Queued requests on a crosspoint that now stands where they ask complete at once; on one made STUCK they fail (R108,
log 34). -/
def sweepQueue (r c : Nat) (s : State) : State :=
  let st := (xpAt s r c).state
  let here := s.mx.queue.filter (fun q => q.row == r && q.col == c && (q.dir.target == st || st == .stuck))
  let s := s.onMx (fun m => { m with queue := m.queue.filter (fun q =>
    !(q.row == r && q.col == c && (q.dir.target == st || st == .stuck))) })
  forEach here (fun q => tellAll q.who r c (st != .stuck)) s

/-- The movement that holds a credit on a crosspoint. -/
def movementAt? (s : State) (r c : Nat) : Option Movement := s.mx.movements.find? (fun m => m.row == r && m.col == c)

/-- Return the credit of the movement on a crosspoint and stop its timer (R109, R111). -/
def returnCredit (r c : Nat) : State → State :=
  State.onMx (fun m => { m with movements := m.movements.filter (fun v => !(v.row == r && v.col == c)) })

/-- A completed movement decreases the count; at 0 SERVICE-DUE is set and reported (R112). -/
def wear (r c : Nat) (s : State) : State :=
  let x := xpAt s r c
  if x.remaining = 0 then s
  else
    let s := updXp r c (fun y => { y with remaining := y.remaining - 1, serviceDue := y.remaining == 1 }) s
    if x.remaining = 1 then xpReport r c x.state x.state none .serviceDue s else s

/-! ### Claims (R100 to R104) -/

/-- The wait-list order: priority, then start, then id (R101). -/
def Order.before (a b : Order) : Bool :=
  decide (a.snap.priority.rank < b.snap.priority.rank) ||
  (a.snap.priority.rank == b.snap.priority.rank &&
    (decide (a.start < b.start) || (a.start == b.start && decide (a.id < b.id))))

/-- Put an order into a wait list at its place (R101). -/
def insertWaiting (s : State) (o : Order) : List Nat → List Nat
  | [] => [o.id]
  | k :: l =>
    match order? s k with
    | some p => if Order.before o p then o.id :: k :: l else k :: insertWaiting s o l
    | none => k :: insertWaiting s o l

def isEssential (o : Order) : Bool := o.snap.priority == .essential

/-- A claim is granted: the order becomes the claiming order, and is told. -/
def grantClaim (c id : Nat) (s : State) : State :=
  updDir c (fun d => { d with claiming := some id, handover := none }) s |> settleColumn c |> emit (.granted id)

/-- Answer a claim of an order on an antenna (R100). A PARKED column that still carries a claim counts as claimed. -/
def requestClaim (c : Nat) (o : Order) (s : State) : State :=
  let d := dirRec s c
  let join (t : State) : State := updDir c (fun e => { e with waiting := insertWaiting t o e.waiting }) t
  if d.claiming = some o.id || d.handover = some o.id || d.waiting.contains o.id then s
  else if !(colWhere s c (· == .stuck)).isEmpty then emit (.claimFailed o.id) s
  else match d.state with
    | .free => countDir .f2r s |> grantClaim c o.id
    | .parked =>
      if d.handover.isSome || d.claiming.isSome then join s
      else if d.owner = some o.snap.tx then countDir .p2a s |> grantClaim c o.id
      else if !(colWhere s c (· == .unknown)).isEmpty then join s
      else
        updDir c (fun e => { e with handover := some o.id }) s
        |> requestMove (d.owner.getD 0) c .opens (isEssential o) (.handover o.id)
    | _ => join s

/-- An opening runs on in a column after its handover order has gone (R102): one in flight that neither a handover nor a release
has asked for. -/
def runsOn (s : State) (c : Nat) : Bool :=
  s.mx.movements.any (fun m => m.col == c && (xpAt s m.row c).state == .opening && m.who.all Requester.ofRow)

/-- An antenna that is FREE or PARKED is offered to the head of its wait list (R103), but for one whose cancelled handover's opening
runs on: it has no handover order at the completion, and becomes FREE (R102; log 73). -/
def offerColumn (c : Nat) (s : State) : State :=
  let d := dirRec s c
  match d.waiting with
  | [] => s
  | id :: rest =>
    match order? s id with
    | none => s
    | some o =>
      let waits : Bool := match d.state with
        | .free => false
        | .parked => d.handover.isSome || d.claiming.isSome || runsOn s c ||
            (d.owner != some o.snap.tx && !(colWhere s c (· == .unknown)).isEmpty)
        | _ => true
      if waits then s
      else updDir c (fun e => { e with waiting := rest }) s |> requestClaim c o

/-- A load is grantable (R104). -/
def grantable (s : State) (c : Nat) : Bool :=
  let d := dirRec s c
  d.state == .free && !d.inhibited && !d.faulted

/-- Grant a load to the head of the load wait list, if one is grantable (R104). -/
def grantLoad (s : State) : State :=
  match s.dir.loadWait, [33, 34].find? (grantable s) with
  | id :: rest, some c =>
    s.onDir (fun d => { d with loadWait := rest })
    |> updDir c (fun d => { d with claiming := some id })
    |> settleColumn c
    |> countDir .f2r
    |> updOrder id (fun o => { o with load := some c, work := { o.work with load := false } })
    |> emit (.advance id)
  | _, _ => s

/-- Matrix Control asks for the opening of a crosspoint that keeps a load PARKED (R104). One whose opening was refused is asked for
again whenever the loads are offered (log 88). -/
def openParkedLoad (c : Nat) (s : State) : State :=
  let d := dirRec s c
  if d.state = .parked && d.claiming.isNone then
    forEach (colWhere s c (· == .closed)) (fun r => requestMove r c .opens false .parkedLoad) s
  else s

/-- The loads are offered: each to the next head (R104). -/
def offerLoads (s : State) : State := openParkedLoad 33 s |> openParkedLoad 34 |> grantLoad |> grantLoad

/-- The claim on a column is given up: an ASSIGNED column is PARKED where its crosspoint stays active (R98). -/
def DirRec.unclaimed (d : DirRec) : DirRec :=
  { d with claiming := none, state := if d.state = .assigned then .parked else d.state }

/-- A plain release: the crosspoint stays as it stands, and an ASSIGNED column is PARKED, whatever its crosspoint does, unless
it is opened for the head of the wait list (R98, R102). -/
def plainRelease (c id : Nat) (s : State) : State :=
  let d := dirRec s c
  if d.claiming ≠ some id then s
  else
    let drop : State → State := updDir c DirRec.unclaimed
    match d.state with
    | .reserved => drop s |> settleColumn c |> countDir .r2f |> offerWaiters c
    | .assigned =>
      let row := (rowOfOrder s id).getD 0
      match (xpAt s row c).state, d.waiting.head?.bind (order? s) with
      | .closed, some h =>
        if h.snap.tx = row then drop s |> settleColumn c |> countDir .a2p |> offerWaiters c
        else
          updDir c (fun e => { e with claiming := none, handover := some h.id, waiting := e.waiting.filter (· != h.id) }) s
          |> requestMove row c .opens (isEssential h) (.handover h.id)
      | _, _ => drop s |> settleColumn c |> countDir .a2p |> offerWaiters c
    | _ => drop s |> settleColumn c |> offerWaiters c

/-- A release with opening (R102): a plain release where the crosspoint cannot be opened or there is none to open. -/
def releaseWithOpening (c : Nat) (o : Order) (s : State) : State :=
  let st := (xpAt s o.snap.tx c).state
  if (dirRec s c).state = .reserved || st = .stuck || st = .unknown then
    plainRelease c o.id s |> emit (.moved (.release o.id) o.snap.tx c true)
  else
    setWork o.id (fun w => { w with move := true }) s
    |> requestMove o.snap.tx c .opens (isEssential o) (.release o.id)

/-- An order stops being the handover order of a column (R102, last paragraph). An opening that has started runs on (`runsOn`); a
column left PARKED with its opening removed goes to the head of its wait list at once (log 73). -/
def cancelHandover (id : Nat) (s : State) : State :=
  match (upTo 32).find? (fun c => (dirRec s c).handover == some id) with
  | none => s
  | some c =>
    let opening := !(colWhere s c (· == .opening)).isEmpty
    let was := (dirRec s c).state
    let s := dropRequesters (· == .handover id) s
    let s := s.onMx (fun m => { m with movements := m.movements.map (fun v =>
      { v with who := v.who.filter (· != .handover id) }) })
    let s := updDir c (fun d => { d with handover := none }) s |> settleColumn c
    (if was = .assigned && !opening then countDir .a2p s else s) |> offerWaiters c

/-- An order leaves the antenna wait lists and the load wait list, and stops being a handover order (R81, R101). -/
def leaveWaits (id : Nat) (s : State) : State :=
  s.onDir (fun d => { d with cols := d.cols.map (fun e => { e with waiting := e.waiting.filter (· != id) })
                             loadWait := d.loadWait.filter (· != id) })
  |> cancelHandover id

/-- A STUCK crosspoint has appeared in a column: every order of its wait list has its claim failed (R101). -/
def failWaiting (c : Nat) (s : State) : State :=
  let l := (dirRec s c).waiting
  updDir c (fun d => { d with waiting := [] }) s |> forEach l (fun id => emit (.claimFailed id))

/-! ### The end of a movement (R111, R113, R114) -/

/-- The transition of R99 that a column takes when an opening ends or XP-CLEAR declares its last active crosspoint OPEN; an entry into
UNRESOLVED and an exit from it are none, nor is an opening that leaves a claim as it stands. -/
def openedTransition (s : State) (c : Nat) (released : Bool) : Option DirTransition :=
  let d := dirRec s c
  if !(colWhere s c (· == .unknown)).isEmpty then none
  else match d.state with
    | .assigned => if d.handover.isSome then some .a2r else if released || d.claiming.isNone then some .a2f else none
    | .parked => if d.handover.isSome then some .p2r else if d.claiming.isNone then some .p2f else none
    | _ => none

/-- Offer the DIRECTORY event of a transition, if there is one. -/
def countMaybe (t : Option DirTransition) (s : State) : State :=
  match t with
  | some k => countDir k s
  | none => s

/-- What a crosspoint that has become OPEN brings to its column (R99, R102, R103): the claim passes to a handover order, is
given up where the opening was made under the claim's release, or stands (`released` false: log 59). -/
def columnOpened (c : Nat) (released : Bool) (s : State) : State :=
  let d := dirRec s c
  let t := openedTransition s c released
  let s := if released && d.handover.isNone then updDir c DirRec.unclaimed s else s
  if !(colWhere s c XpState.active).isEmpty then settleColumn c s |> offerWaiters c  -- what remains gives the state (log 20)
  else match d.handover with
    | some h => countMaybe t s |> grantClaim c h
    | none => settleColumn c s |> countMaybe t |> offerWaiters c

/-- The requester is the claiming order of the column, in a release with opening (R102). -/
def releasesClaim (s : State) (c : Nat) (w : Requester) : Bool :=
  match w with
  | .release id => (dirRec s c).claiming == some id
  | _ => false

/-- A movement completes (R111). -/
def completeMove (m : Movement) (s : State) : State :=
  let s := setXp m.row m.col m.dir.target s |> returnCredit m.row m.col |> wear m.row m.col
    |> tellAll m.who m.row m.col true
  let s := match m.dir with
    | .close => settleColumn m.col s
    | .opens => columnOpened m.col (m.who.any (releasesClaim s m.col)) s
  sweepQueue m.row m.col s |> emit (.rowChanged m.row)

/-- A movement fails without STUCK: its MOVE was answered with a NAK (R114). A request queued for the position in which the
crosspoint stands again is complete (R108; log 90). An antenna is offered to its wait list, which counts where it stands PARKED
without a handover order, such as one whose handover order has gone (R103; log 47); a load only where its state changes. -/
def moveNak (m : Movement) (s : State) : State :=
  let was := (dirRec s m.col).state
  let s := setXp m.row m.col m.dir.source s |> returnCredit m.row m.col |> tellAll m.who m.row m.col false
    |> settleColumn m.col |> sweepQueue m.row m.col
  (if 32 < m.col && (dirRec s m.col).state = was then s else offerWaiters m.col s) |> emit (.rowChanged m.row)

/-- A MOVE has failed with no reply: the crosspoint is UNKNOWN and keeps its credit and timer (R114). -/
def moveNoReply (m : Movement) (s : State) : State :=
  let old := (xpAt s m.row m.col).state
  setXp m.row m.col .unknown s
  |> State.onMx (fun x => { x with movements := x.movements.map (fun v =>
      if v.row = m.row && v.col = m.col then { v with who := [] } else v) })
  |> tellAll m.who m.row m.col false
  |> xpReport m.row m.col old .unknown none .noReply
  |> settleColumn m.col

/-- The state of a column in which a crosspoint has become STUCK at its timeout: an UNRESOLVED antenna becomes PARKED, also under
the claim it has kept; any other follows the law (R113; log 95). -/
def settleStuck (c : Nat) (s : State) : State :=
  let law := lawOf s c
  settleTo c (if (dirRec s c).state = .unresolved && law.1 = .assigned then (.parked, law.2) else law) s

/-- The handover order of a column fails with a movement that has timed out there, where it is no requester of it (R113). -/
def failHandover (c : Nat) (who : List Requester) (s : State) : State :=
  match (dirRec s c).handover with
  | some id => if who.contains (.handover id) then s else cancelHandover id s |> emit (.claimFailed id)
  | none => s

/-- A movement has timed out: the crosspoint is STUCK, its column FAULTED, and all that waited on it fails (R113). -/
def moveTimedOut (m : Movement) (s : State) : State :=
  let old := (xpAt s m.row m.col).state
  setXp m.row m.col .stuck s |> returnCredit m.row m.col |> settleStuck m.col
  |> setFault m.col .stuck
  |> xpReport m.row m.col old .stuck none .timeout
  |> (fun t => makeFault .xpStuck (.crosspoint m.row m.col) (rowOrder t m.row) t)
  |> tellAll m.who m.row m.col false
  |> sweepQueue m.row m.col
  |> failWaiting m.col
  |> failHandover m.col m.who
  |> emit (.rowChanged m.row)

/-! ### What the MDU reports (R115 to R117) -/

/-- A crosspoint found in a forbidden position becomes STUCK: its movement fails, with its credit returned (R117). -/
def makeStuck (r c : Nat) (reported : Option SwitchPos) (cause : XpCause) (s : State) : State :=
  let old := (xpAt s r c).state
  if old = .stuck then s
  else
    let s' := setXp r c .stuck s
    let s' := match movementAt? s r c with
      | some m => returnCredit r c s' |> tellAll m.who r c false
      | none => s'
    xpReport r c old .stuck reported cause s' |> sweepQueue r c |> emit (.rowChanged r)

/-- The orders that hold the claim on a column whose crosspoint on their own row is STUCK fail (R117). -/
def failStuckClaim (c : Nat) (s : State) : State :=
  match (dirRec s c).claiming.bind (order? s) with
  | some o => if (xpAt s o.snap.tx c).state = .stuck then emit (.fail o.id .routeStuck) s else s
  | none => s

/-- A poll reply finds a crosspoint closed, from OPEN or from UNKNOWN (R117). `others` are the other columns of the row
that the same reply reports closed. Where both checks fail, the double-closed case alone is applied (log 61). -/
def foundClosed (r c : Nat) (others : List Nat) (s : State) : State :=
  let old := (xpAt s r c).state
  let rows := (colWhere s c XpState.active).filter (· != r)
  if !others.isEmpty || !rows.isEmpty then
    let hit := (r, c) :: (others.map (fun k => (r, k)) ++ rows.map (fun k => (k, c)))
    let fresh := hit.filter (fun x => (xpAt s x.1 x.2).state != .stuck)
    let cols := c :: others
    forEach hit (fun x => makeStuck x.1 x.2 (if x.1 = r then some .closed else none) .doubleClosed) s
    |> forEach cols settleColumn
    |> forEach cols (fun k => setFault k .double)
    |> forEach fresh (fun x t => makeFault .xpStuck (.crosspoint x.1 x.2) (rowOrder t x.1) t)
    |> forEach cols failStuckClaim
    |> forEach cols failWaiting
  else
    let d := dirRec s c
    let foreign (id : Option Nat) : Option Nat := id.filter (fun k => rowOfOrder s k != some r)
    match (foreign d.claiming).or (foreign d.handover) with
    | some id =>
      makeStuck r c (some .closed) .claimedColumn s |> settleColumn c |> setFault c .stuck
      |> emit (.fail id .routeStuck) |> failWaiting c
    | none =>
      setXp r c .closed s |> xpReport r c old .closed (some .closed) .poll |> settleColumn c |> sweepQueue r c
      |> emit (.rowChanged r) |> offerWaiters c

/-- An UNKNOWN crosspoint is resolved, by a reply that reports it in a position: the credit that it holds for movement `m` is
returned, what the position brings follows, and the count falls if the position is the target of the movement (R115), also where
the check of R117 makes it STUCK (log 77). -/
def resolveCredit (m : Option Movement) (r c : Nat) (pos : XpState) (become : State → State) (s : State) : State :=
  match m with
  | some m => become (returnCredit r c s) |> (if m.dir.target = pos then wear r c else id)
  | none => become s

/-- What a crosspoint found open brings to a column whose claim is not the order's of that row (R99, R103, R115). -/
def foundAway (c : Nat) (s : State) : State :=
  if (dirRec s c).handover.isSome then columnOpened c false s else settleColumn c s |> offerWaiters c

/-- A crosspoint is found open where it was recorded CLOSED (R115): an order it was ASSIGNED to fails and keeps a RESERVED
claim, also where it had asked for the opening (log 60). The opening that a handover order waits for is complete, by P2R or A2R
(log 68); a PARKED column that becomes FREE by the reply is no transition that R99 offers. -/
def foundOpen (r c : Nat) (s : State) : State :=
  let d := dirRec s c
  let s := setXp r c .opened s |> xpReport r c .closed .opened (some .opened) .poll
  let s := match d.claiming.bind (order? s) with
    | some o =>
      if d.state = .assigned && o.snap.tx = r then settleColumn c s |> emit (.fail o.id .routeStuck) else foundAway c s
    | none => foundAway c s
  sweepQueue r c s |> emit (.rowChanged r)

/-- An UNKNOWN crosspoint is found OPEN (R115): an opening that its column's handover order waits for is complete, once the
column holds no UNKNOWN crosspoint (R108; log 59), and the wait list is looked at again. -/
def resolvedOpen (r c : Nat) (s : State) : State :=
  let s := setXp r c .opened s |> xpReport r c .unknown .opened (some .opened) .poll
  let s := if (colWhere s c (· == .unknown)).isEmpty then columnOpened c false s else settleColumn c s |> offerWaiters c
  sweepQueue r c s |> emit (.rowChanged r)

/-- Compare one switch of a poll reply with its crosspoint record as it stood in `was`, when the reply came (R115): each switch
that the reply finds closed has its check, also where the check of another has made it STUCK (R117, R125). The count of an UNKNOWN
one reported closed falls whether that check passes or fails (log 77). -/
def compareSwitch (was : State) (r c : Nat) (pos : SwitchPos) (others : List Nat) (s : State) : State :=
  let old := (xpAt was r c).state
  let finish (t : State) : State := match movementAt? t r c with
    | some m => completeMove m t
    | none => t
  match old, pos with
  | .opened, .closed => foundClosed r c others s
  | .closing, .closed => finish s
  | .opening, .opened => finish s
  | .closed, .opened => foundOpen r c s
  | .unknown, .opened => resolveCredit (movementAt? was r c) r c .opened (resolvedOpen r c) s
  | .unknown, .closed => resolveCredit (movementAt? was r c) r c .closed (foundClosed r c others) s
  | .opened, .between =>
    setXp r c .unknown s |> xpReport r c .opened .unknown (some .between) .poll |> settleColumn c |> offerWaiters c
  | .closed, .between =>
    let s' := setXp r c .unknown s |> xpReport r c .closed .unknown (some .between) .poll |> settleColumn c |> offerWaiters c
    match (dirRec s c).claiming.bind (order? s) with
    | some o => if o.snap.tx = r then emit (.fail o.id .routeStuck) s' else s'
    | none => s'
  | _, _ => s

/-- Deliver an MDU's poll reply to the row (R115), its columns in ascending order (log 61). -/
def pollRow (r : Nat) (positions : List SwitchPos) (s : State) : State :=
  let listed := positions.zip (upTo 34)
  let closed := listed.filterMap (fun x => if x.1 = .closed then some x.2 else none)
  forEach listed (fun x => compareSwitch s r x.2 x.1 (closed.filter (· != x.2))) s |> emit .offerLoads

/-! ### RF Permit lines (R120) -/

/-- The conditions of R120 hold for row `n`: its line is ASSERTED. -/
def permitRule (s : State) (n : Nat) : Bool :=
  match rowWhere s n (fun x => x != .opened) with
  | [c] =>
    (xpAt s n c).state == .closed && s.pins.chainClosed && s.pins.powered &&
    (txCtl s n).state != .lockedOut && !(txCtl s n).pastBlind &&
    (match rotator? s c with
      | some r => r.slew != .slewing
      | none => true) &&
    (ordersOf s n).any (fun o => o.stage.carrier || (o.stage == .tuning && searching s n))
  | _ => false

/-- Judge every line again; they follow their conditions at once (R120). -/
def judgePermits (s : State) : State := s.onPins (fun p => { p with permits := (upTo 16).map (permitRule s) })

/-! ### The Drive Credit Arbiter (R109, R110) -/

/-- A queued request is eligible (R109). -/
def eligible (s : State) (q : DriveReq) : Bool :=
  !isLocal s && (xpAt s q.row q.col).state == q.dir.source &&
  !(s.mx.movements.any (fun m => m.row == q.row)) &&
  !permitRule s q.row && tluAlive s q.row && reportsOff s q.row &&
  (q.dir == .opens ||
    ((rowWhere s q.row (fun x => x.active || x == .unknown)).all (· == q.col) &&
     (colWhere s q.col (fun x => x.active || x == .unknown)).isEmpty))

/-- The queue in grant order: ESSENTIAL first, and within each class the earlier arrival (R109). -/
def grantOrder (s : State) : List DriveReq :=
  s.mx.queue.filter (·.essential) ++ s.mx.queue.filter (fun q => !q.essential)

/-- A movement starts: credit, crosspoint, timer, MOVE command, GRANT event (R110). -/
def startMove (q : DriveReq) (s : State) : State :=
  let m : Movement := { row := q.row, col := q.col, dir := q.dir, timer := 2 * s.hall.par.moveEst, who := q.who
                        cmd := nextSerial s }
  let was := (dirRec s q.col).state
  let s := s.onMx (fun x => { x with
    queue := x.queue.filter (fun p => !(p.row == q.row && p.col == q.col && p.dir == q.dir))
    movements := x.movements ++ [m] })
  let s := setXp q.row q.col q.dir.moving s |> settleColumn q.col
  let s := if was = .reserved && (dirRec s q.col).state = .assigned then countDir .r2a s else s
  (match txRec? s q.row with
   | some r => offerCmd r.mdu (.move q.col q.dir) false q.row s
   | none => s)
  |> count .drive 0

/-- The Arbiter starts the first eligible request in grant order when a credit is free (R109). -/
def arbiterStart (s : State) : State :=
  if creditsFree s = 0 then s
  else match (grantOrder s).find? (eligible s) with
    | some q => startMove q s
    | none => s

/-! ### Rotators (R121 to R123) -/

/-- An order's slew has ended: SLEW leaves its work in hand, and it is told. -/
def slewEnded (id : Nat) (s : State) : State := setWork id (fun w => { w with slew := false }) s |> emit (.advance id)

/-- An order's slew has failed (R123). -/
def slewFailedFor (id : Nat) (s : State) : State :=
  setWork id (fun w => { w with slew := false }) s |> emit (.fail id .slewFailed)

/-- The last reported azimuth is within 1 degree of a target (R121, R122). -/
def atTarget (p : RotatorPart) (r : Rotator) (target : Nat) : Bool :=
  match r.azimuth with
  | some az => decide (p.distance az target ≤ 1)
  | none => false

/-- A slew starts, or is turned to another target: SLEW is queued and the timer started (R121). -/
def startSlew (a id target : Nat) (s : State) : State :=
  match rotatorPart? s a, rotator? s a with
  | some p, some r =>
    let cmd := nextSerial s
    updRotator a (fun x => { x with slew := .slewing, target := some target, order := some id, waiting := none
                                    timer := some (slewEstimate p r.azimuth target + 30), cmd := cmd }) s
    |> offerCmd p.aru (.slew target) false a
  | _, _ => s

/-- An earlier requester is told that its slew has ended (R121). -/
def tellEarlier (id : Nat) (k : Option Nat) (s : State) : State :=
  match k with
  | some e => if e = id then s else slewEnded e s
  | none => s

/-- An order asks for a slew (R121). A request within 1 degree of the target completes at once, also while the rotator turns
to another target, and that slew runs on (log 75). A request that finds the rotator SLEWING for its own target takes the
running slew over, with no new command or timer (log 74). -/
def requestSlew (a id target : Nat) (s : State) : State :=
  match rotatorPart? s a, rotator? s a with
  | some p, some r =>
    if r.slew = .failed then slewFailedFor id s
    else if atTarget p r target then slewEnded id s
    else if r.slew = .slewing then
      tellEarlier id r.order s
      |> (if r.target = some target then updRotator a (fun x => { x with order := some id }) else startSlew a id target)
    else
      tellEarlier id (r.waiting.map (·.2)) s |> updRotator a (fun x => { x with waiting := some (target, id) })
  | _, _ => slewFailedFor id s

/-- The slew start conditions hold for a pending request (R121). -/
def slewMayStart (s : State) (a id : Nat) : Bool :=
  let d := dirRec s a
  !isLocal s && d.claiming == some id &&
  (d.state == .reserved ||
    (d.state == .assigned && !permitRule s (d.owner.getD 0) && reportsOff s (d.owner.getD 0)))

/-- An order's slews: a pending request is removed, and a slew in progress runs on without it (R81, R121, R122). -/
def dropSlew (id : Nat) : State → State :=
  State.onMx (fun m => { m with rotators := m.rotators.map (Option.map (fun r =>
    { r with order := r.order.filter (· != id), waiting := r.waiting.filter (fun w => w.2 != id) })) })

/-- A slew fails (R123). No STOP is queued to a SILENT ARU, nor under LOCAL (log 24). -/
def failSlew (a : Nat) (s : State) : State :=
  match rotator? s a with
  | none => s
  | some r =>
    let who := r.order
    let order := (who.bind (order? s)).map (fun o => (o.id, o.stage))
    let s := updRotator a (fun x => { x with slew := .failed, target := none, timer := none, order := none }) s
    let s := match rotatorPart? s a with
      | some p => if (unitAt s p.aru).state = .silent || isLocal s then s else offerCmd p.aru .stop false a s
      | none => s
    let s := setFault a .rotator s |> makeFault .slewFail (.antenna a) order
    match who with
    | some id => slewFailedFor id s
    | none => s

/-- A slew completes (R122). -/
def completeSlew (a : Nat) (s : State) : State :=
  match rotator? s a with
  | none => s
  | some r =>
    let s := updRotator a (fun x => { x with slew := .idle, target := none, timer := none, order := none }) s
    match r.order with
    | some id => slewEnded id s
    | none => s

/-- Deliver an ARU's poll reply (R121 to R123); a fault comes before a completion (log 27). -/
def pollRotator (a : Nat) (rep : AruReply) (s : State) : State :=
  let s := updRotator a (fun x => { x with azimuth := some rep.azimuth, moving := rep.moving, fault := rep.fault }) s
  match rotatorPart? s a, rotator? s a with
  | some p, some r =>
    if r.slew = .slewing then
      if rep.fault then failSlew a s
      else if atTarget p r (r.target.getD 0) then completeSlew a s
      else s
    else s
  | _, _ => s

/-- Discard a rotator record (R9): an order that waits on it, if one is live, is told that its slew has ended. -/
def setRotatorRecord (a : Nat) (r : Option Rotator) : State → State :=
  State.onMx (fun m => { m with rotators := updNth m.rotators a (fun _ => r) })

end Sys2Proof.Machine
end

