-- ==== Sys2Proof/Machine/Protection.lean ====
section
/-! DEFINITION. The Protection Unit's arithmetic and record (07): foldback factor, base, permit, prove level, setpoints,
trip history and recovery delay. -/

namespace Sys2Proof.Machine

/-! ### The permit arithmetic (R154 to R157) -/

/-- The foldback target of a measured sample below ρt (R154). -/
def foldTarget (rho warn trip : Nat) : Nat :=
  if rho ≤ warn then 1000 else 1000 - (rho - warn) * 500 / (trip - warn)

/-- F moves to the target at once when it falls, and by at most 50 when it rises (R155). -/
def foldStep (target factor : Nat) : Nat := if target < factor then target else min target (factor + 50)

/-- The base of an order on its transmitter and antenna in use (R156). -/
def baseOf (s : State) (o : Order) : Nat :=
  let rated := ((txRec? s o.snap.tx).map (·.rated)).getD 0
  let seg := segmentRating s (o.antenna.getD 0) o.snap.freq
  min o.snap.power (min rated (seg * Mode.factor o.snap.mode / 1000))

/-- The permit that a base and a factor give (R156). -/
def permitOf (base factor : Nat) : Nat := base * factor / 1000

/-- The prove level (R157). -/
def proveLevel (base : Nat) : Nat := min base (max 10 (base / 10))

/-- A setpoint on its way from a start value to the permit, `k` of `len` seconds on; the permit where it lies below the
start value (R157). -/
def rampTo (start permit k len : Nat) : Nat :=
  if permit < start then permit else start + (permit - start) * min k len / len

/-- The deadband of R158. -/
def deadband (base : Nat) : Nat := max 1 (base / 100)

/-- A setpoint is to be requested (R158). -/
def wantsSetpoint (base sent want : Nat) : Bool :=
  want != sent &&
    (decide (deadband base ≤ (want - sent) + (sent - want)) || want == base || want == 0 || decide (base < sent))

/-- Request the setpoint that R157 gives, when R158 asks for it. -/
def offerSetpoint (n want : Nat) (s : State) : State :=
  let p := protRec s n
  if wantsSetpoint (p.base.getD 0) p.sent want then setpointRequest n want s else s

/-! ### The foldback factor (R155, R159) -/

/-- F takes a value; a FOLDBACK report is queued under R159. -/
def setFactor (n value : Nat) (order : Option Nat) (rho : Option Nat) (cause : FoldCause) (s : State) : State :=
  let p := protRec s n
  if p.factor = value then s
  else
    let s := updProt n (fun q => { q with factor := value }) s
    let away := (value - p.reported) + (p.reported - value)
    if p.factor = 1000 || value = 1000 || 100 ≤ away then
      let permit := if (carrierOrder? s n).isSome then p.base.map (fun b => permitOf b value) else none
      updProt n (fun q => { q with reported := value }) s
      |> offerReport (.foldback { tx := n, order := order, factor := value, before := p.reported, rho := rho
                                  permit := permit, cause := cause })
    else s

/-- Discard the recovery delay of an order that leaves RECOVERING by another cause; the transmitter leaves TRIPPED
(R163). -/
def dropRecovery (n id : Nat) (s : State) : State :=
  match (protRec s n).recovery with
  | some d => if d.order = id then updProt n (fun p => { p with recovery := none }) s |> leaveTripped n else s
  | none => s

/-- Append to a list of five, dropping the oldest (R79, R162). -/
def pushFive {α : Type} (l : List α) (x : α) : List α := (if l.length < 5 then l else l.drop 1) ++ [x]

end Sys2Proof.Machine
end

