-- ==== Sys2Proof/Machine/OrderOps.lean ====
section
/-! DEFINITION. The Changeover Unit's operations (04): antenna choice, marks, outcomes, closing, failure and rescue, and
the step that an order's stage and work in hand call for. -/

namespace Sys2Proof.Machine

/-! ### Choices and tests (R71, R59, R65, R77) -/

/-- An antenna is usable for an order on a row (R71). -/
def usable (s : State) (row ant : Nat) (o : Order) : Bool :=
  let d := dirRec s ant
  (antRec? s ant).isSome && !d.inhibited && !d.suspect && !d.faulted &&
    segmentRating s ant o.snap.freq != 0 && (!(xpAt s row ant).serviceDue || isEssential o)

/-- The antenna that R71 chooses: the primary, else the alternate. -/
def chooseAntenna (s : State) (o : Order) : Option Nat :=
  if usable s o.snap.tx o.snap.primary o then some o.snap.primary
  else o.snap.alternate.filter (fun a => usable s o.snap.tx a o)

/-- Two programmes conflict: the same transmitter or the same primary, and a common second (R59). -/
def conflicts (tx primary start ends : Nat) (o : Order) : Bool :=
  (o.snap.tx == tx || o.snap.primary == primary) && intersects start ends o.start o.ends

/-- No other live order on the transmitter is in a stage from WARMING through CLOSING (R65). -/
def isFree (s : State) (n id : Nat) : Bool := (ordersOf s n).all (fun p => p.id == id || p.stage == .staged)

/-- The order is a scheduled one. -/
def isScheduled (o : Order) : Bool := decide (o.origin ≠ .manual)

/-- The order holds the claim on its antenna in use. -/
def claimHeld (s : State) (o : Order) : Bool :=
  match o.antenna with
  | some a => (dirRec s a).claiming == some o.id
  | none => false

/-- Ramp time of the order's transmitter. -/
def rampOf (s : State) (n : Nat) : Nat := ((txRec? s n).map (·.ramp)).getD 0

/-- The hall time is at or after the proving instant S - prove time - ramp time (R77). -/
def provingDue (s : State) (o : Order) : Bool := decide (o.start ≤ now s + s.hall.par.proveTime + rampOf s o.snap.tx)

/-- The order takes no step of its own accord (R92, R93). -/
def blocked (s : State) (o : Order) : Bool := o.held || isLocal s

/-! ### Marks (R84, R85) -/

/-- Set or remove the mark PREEMPT-PENDING, which queues an ORDER report. -/
def setMark (id : Nat) (m : Option Nat) (s : State) : State :=
  noteOrder id s |> updOrder id (fun o => { o with preempting := m })

/-- The earlier start, and among equal starts the lower id. -/
def earlier (a b : Order) : Order :=
  if b.start < a.start || (a.start = b.start && b.id < a.id) then b else a

/-- The earliest order of a list, by start and then id. -/
def earliest : List Order → Option Order
  | [] => none
  | a :: l => some (l.foldl earlier a)

/-- Choose a mark afresh (R85). -/
def rechooseMark (o : Order) (s : State) : State :=
  let c := s.chg.orders.filter (fun p =>
    p.id != o.id && conflicts o.snap.tx o.snap.primary o.start o.ends p &&
    o.snap.priority.below p.snap.priority && decide (now s < p.start))
  setMark o.id ((earliest c).map (·.id)) s

/-! ### Outcomes (R69, R81) -/

/-- An order reaches its outcome: its record leaves the table, nothing waits for it any longer, the marks that name it are
chosen afresh, and a rescued order that waits for its transmitter may begin (R69, R85, R88, R140). -/
def finishOrder (id : Nat) (out : OrderOutcome) (s : State) : State :=
  match order? s id with
  | none => s
  | some o =>
    let n := o.snap.tx
    let s := noteOrder id s |> updNote id (fun k => { k with left := some (o, out) })
    let s := if o.stage = .staged then s
      else
        leaveWaits id s |> dropSlew id |> dropWarm n id
        |> updTx n (fun x => { x with
            offWaiters := x.offWaiters.filter (· != id)
            tune := x.tune.map (fun t => { t with order := t.order.filter (· != id) }) })
        |> updProt n (fun p => { p with unproven := false })
    let s := countOutcome out (s.onChg (fun c => { c with orders := c.orders.filter (fun p => p.id != id) }))
    let s := forEach (s.chg.orders.filter (fun p => p.preempting == some id)) rechooseMark s
    forEach ((ordersOf s n).filter (fun p => p.stage == .staged && p.keepAntenna)) (fun p => emit (.advance p.id)) s

/-- The search in progress of an order's transmitter is the order's own. -/
def ownSearch (s : State) (o : Order) : Bool :=
  match (txCtl s o.snap.tx).tune with
  | some t => t.kind == .search && t.order == some o.id
  | none => false

/-- MOVE is in the work in hand while a movement requested by the order is queued or in flight (R68). -/
def refreshMove (id : Nat) (s : State) : State := setWork id (fun w => { w with move := moveOutstanding s id }) s

/-- The requests of an order, for itself or under a release. -/
def ofOrder (id : Nat) (w : Requester) : Bool := w == .order id || w == .release id

/-- Entry into CLOSING with an outcome due (R81). -/
def enterClosing (id : Nat) (out : OrderOutcome) (s : State) : State :=
  match order? s id with
  | none => s
  | some o =>
    if o.stage = .closing then s
    else
      let n := o.snap.tx
      let search := ownSearch s o
      let off := reportsOn s n || o.stage.carrier || search
      let s := setStage id .closing s
      let s := updOrder id (fun x => { x with
        outcomeDue := some out, recovery := none, claimDue := false
        work := { x.work with claim := false, load := false, slew := false, warmUp := false }
        closeTimer := if off || x.work.carrierOff then some s.hall.par.offConfirm else none }) s
      let s := leaveWaits id s |> dropRequesters (ofOrder id) |> dropSlew id |> dropWarm n id |> dropRecovery n id
      let s := if search then endSearch n s else s
      let s := if off then setWork id (fun w => { w with carrierOff := true }) s |> carrierOffRequest n (some id) else s
      refreshMove id s |> emit (.advance id)

/-- Carry out a preemption: the mark is removed, and the order leaves or closes (R84). -/
def preempt (id : Nat) (s : State) : State :=
  match order? s id with
  | none => s
  | some o =>
    let s := if o.preempting.isSome then setMark id none s else s
    match o.stage with
    | .staged => finishOrder id .preempted s
    | .closing => s
    | _ => enterClosing id .preempted s

/-- An order goes to an outcome: at once from STAGED, through CLOSING from any other stage (R80, R82, R89). -/
def conclude (id : Nat) (out : OrderOutcome) (s : State) : State :=
  match order? s id with
  | none => s
  | some o => if o.stage = .staged then finishOrder id out s else enterClosing id out s

/-! ### Rescue (R86 to R88) -/

/-- Causes that are rescued (R86). -/
def FailCause.rescued : FailCause → Bool
  | .noAntenna => false
  | .warmUpFailed => false
  | _ => true

/-- The rescue candidates of an order in their order: transmitter and antenna (R87). -/
def rescueCandidates (s : State) (o : Order) : List (Nat × Nat) :=
  let n := o.snap.tx
  let first := match o.snap.alternate with
    | some a =>
      if o.antenna = some o.snap.primary && (txCtl s n).state != .lockedOut &&
          (rowWhere s n (· == .stuck)).isEmpty then [(n, a)] else []
    | none => []
  let others := match (txRec? s n).bind (·.standby) with
    | some m =>
      if isEssential o then (m, o.snap.primary) :: (match o.snap.alternate with
        | some a => [(m, a)]
        | none => [])
      else []
    | none => []
  first ++ others

/-- The other live orders of a transmitter that meet the rescued order's remaining interval (R87). -/
def rescueRivals (s : State) (o : Order) (n : Nat) : List Order :=
  (ordersOf s n).filter (fun p => p.id != o.id && intersects (now s) o.ends p.start p.ends)

/-- A candidate is feasible (R87). -/
def feasible (s : State) (o : Order) (c : Nat × Nat) : Bool :=
  (match txRec? s c.1 with
    | some r => !r.inhibited
    | none => false) &&
  (txCtl s c.1).state != .lockedOut && (txCtl s c.1).state != .offline &&
  (rescueRivals s o c.1).all (fun p => p.snap.priority.below o.snap.priority) &&
  usable s c.1 c.2 o

/-- The candidate that takes a failed order whose closing has ended, if one does (R86, R87). -/
def rescueFor (s : State) (o : Order) : Option (Nat × Nat) :=
  if o.outcomeDue = some .failed && !o.noRescue && (o.failure.map FailCause.rescued).getD false &&
      decide (now s < o.ends) && decide (o.rescues < 2) then
    (rescueCandidates s o).find? (feasible s o)
  else none

/-- An order created, or returned to STAGED, carries HELD (R92, R93; log 22). -/
def heldNow (s : State) (o : Order) : Bool := isLocal s || (isScheduled o && !isAuto s)

/-- A rescue preempts an order of lower priority at once (R88); under LOCAL an order in a working stage keeps its stage, and is
preempted at re-adoption (R93). -/
def preemptFor (rescued id : Nat) (s : State) : State :=
  if isLocal s && (order? s id).any (fun p => p.stage != .staged && p.stage != .closing) then
    updOrder id (fun p => { p with preemptedBy := some rescued }) s
  else preempt id s

/-- Rescue an order onto a candidate (R88). The order now names the candidate's transmitter, whose idle clock returns to 0
(R131). -/
def rescue (o : Order) (c : Nat × Nat) (s : State) : State :=
  let rivals := rescueRivals s o c.1
  let s := noteOrder o.id s |> updNote o.id (fun k => { k with before := some (o.snap.tx, o.antenna) })
  let s := updProt o.snap.tx (fun p => { p with unproven := false }) s
  let s := updOrder o.id (fun x => { x with
    snap := { x.snap with tx := c.1 }, antenna := some c.2, load := none, tuneKind := none, work := {}
    alternateUsed := decide (x.snap.alternate = some c.2), rescued := true, rescues := x.rescues + 1, tripTimes := []
    stage := .staged, stageSecs := 0, prepare := now s, fixedPrepare := true, keepAntenna := true
    outcomeDue := none, recovery := none, closeTimer := none, claimDue := false, slewAsked := false, tuneDone := false
    localFailure := false, preemptedBy := none, lastTrip := none, held := heldNow s o }) s
  updTx c.1 TxCtl.awake s |> setFactor c.1 1000 (some o.id) none .rescue |> count .outcome 6
  |> forEach rivals (fun p => preemptFor o.id p.id)
  |> emit (.advance o.id)

/-- A closing has ended, or is taken to: rescue, or the outcome (R81, R86). -/
def finishClosing (id : Nat) (s : State) : State :=
  match order? s id with
  | none => s
  | some o =>
    match rescueFor s o with
    | some c => rescue o c s
    | none => finishOrder id (o.outcomeDue.getD .failed) s

/-- The progress of an order in CLOSING (R81; under LOCAL, R93). A load whose opening was answered with NAK stands CLOSED again,
and its opening is asked for again (log 72). -/
def closingStep (o : Order) (s : State) : State :=
  let s := refreshMove o.id s
  let moving := moveOutstanding s o.id
  if o.work.carrierOff || moving || o.work.tune then s
  else
    let s := match o.antenna with
      | some a => plainRelease a o.id s
      | none => s
    match o.load with
    | none => finishClosing o.id s
    | some c =>
      if (xpAt s o.snap.tx c).state.moving then if isLocal s then s else releaseWithOpening c o s
      else
        plainRelease c o.id s |> updOrder o.id (fun x => { x with load := none }) |> finishClosing o.id

/-- An order fails (R86; under LOCAL, R93). -/
def failOrder (id : Nat) (cause : FailCause) (s : State) : State :=
  match order? s id with
  | none => s
  | some o =>
    match o.stage with
    | .staged => s
    | .closing => updOrder id (fun x => { x with failure := some cause }) s
    | _ =>
      if isLocal s then updOrder id (fun x => { x with failure := some cause, localFailure := true }) s
      else updOrder id (fun x => { x with failure := some cause }) s |> enterClosing id .failed

/-! ### Preparation (R70 to R76) -/

/-- A failure at preparation begin, with nothing to close (R86). -/
def failPreparation (id : Nat) (cause : FailCause) (s : State) : State :=
  updOrder id (fun x => { x with failure := some cause, outcomeDue := some .failed }) s |> finishClosing id

/-- Request the order's antenna claim; CLAIM joins the work in hand (R70, R74). -/
def askClaim (id : Nat) (s : State) : State :=
  let s := updOrder id (fun x => { x with claimDue := false, work := { x.work with claim := true } }) s
  match order? s id with
  | some o => if claimHeld s o then emit (.granted id) s else requestClaim (o.antenna.getD 0) o s
  | none => s

/-- Entry into CLEARING (R73). -/
def enterClearing (id : Nat) (s : State) : State := setStage id .clearing s |> emit (.advance id)

/-- Entry into WARMING, or its restart (R72). -/
def enterWarming (id n : Nat) (s : State) : State :=
  setStage id .warming s |> setWork id (fun w => { w with warmUp := true }) |> requestWarmUp n id

/-- Preparation begins (R70). -/
def beginPreparation (id : Nat) (s : State) : State :=
  match order? s id with
  | none => s
  | some o =>
    let n := o.snap.tx
    let s := noteOrder id s |> setFactor n 1000 (some id) none .preparation
    match (txCtl s n).state with
    | .offline => failPreparation id .txLost s
    | .lockedOut => failPreparation id .txLockout s
    | st =>
      match (if o.keepAntenna then o.antenna else chooseAntenna s o) with
      | none => failPreparation id .noAntenna s
      | some a =>
        let kind := tuneKindFor s n o.snap.freq
        let putOff := kind = .search && (xpAt s n a).state = .closed
        let s := updOrder id (fun x => { x with
          antenna := some a, tuneKind := some kind, keepAntenna := false, claimDue := putOff
          alternateUsed := if x.keepAntenna then x.alternateUsed else decide (a ≠ x.snap.primary) }) s
        let s := countTuneKind kind s
        let s := if putOff then s else askClaim id s
        if st = .cold || st = .warming then enterWarming id n s else enterClearing id s

/-- Ask for the slew of R74 once the claim is held. -/
def askSlew (o : Order) (s : State) : State :=
  if o.slewAsked || !claimHeld s o then s
  else match o.antenna, o.snap.azimuth with
    | some a, some az =>
      if (rotatorPart? s a).isSome then
        updOrder o.id (fun x => { x with slewAsked := true, work := { x.work with slew := true } }) s
        |> requestSlew a o.id az
      else s
    | _, _ => s

/-- An order joins the load wait list at its place, once (R104). -/
def joinLoadWait (o : Order) (s : State) : State :=
  s.onDir (fun d => { d with loadWait := if d.loadWait.contains o.id then d.loadWait else insertWaiting s o d.loadWait })

/-- The search tune's claim on a load: the antenna's claim is released first where its crosspoint is in the way (R74,
R75). -/
def beginSearch (o : Order) (s : State) : State :=
  let s := match o.antenna with
    | some a =>
      let st := (xpAt s o.snap.tx a).state
      if claimHeld s o && (st = .closing || st = .closed) then
        updOrder o.id (fun x => { x with claimDue := true }) s |> releaseWithOpening a o
      else s
    | none => s
  setWork o.id (fun w => { w with load := true }) s
  |> joinLoadWait o |> emit .offerLoads

/-- Entry into TUNING (R75). -/
def enterTuning (id : Nat) (s : State) : State :=
  let s := setStage id .tuning s |> updOrder id (fun x => { x with tuneDone := false })
  match order? s id with
  | none => s
  | some o =>
    let n := o.snap.tx
    let f := o.snap.freq
    let m := o.snap.mode
    match txRec? s n with
    | none => emit (.fail id .tuneFailed) s
    | some r =>
      if !within r.low r.high f || !ModeSet.has r.modes m then emit (.fail id .tuneFailed) s
      else
        match o.tuneKind, presetHit s n f with
        | some .preset, some p => setWork id (fun w => { w with tune := true }) s |> startPreset n id f m p
        | some .preset, none =>
          updOrder id (fun x => { x with tuneKind := some .search }) s |> count .tune 1 |> beginSearch o
        | some .search, _ => beginSearch o s
        | _, _ =>
          if (txCtl s n).mode = some m then emit (.advance id) s
          else setWork id (fun w => { w with tune := true }) s |> startMode n id f m

/-- Entry into ROUTING (R76). -/
def enterRouting (id : Nat) (s : State) : State := setStage id .routing s |> emit (.advance id)

/-- Entry into POISED (R76, R77). -/
def enterPoised (id : Nat) (s : State) : State := setStage id .poised s |> emit (.advance id)

/-! ### On the air (R77, R78, R156, R157) -/

/-- Entry into PROVING: the base is recorded, and carrier on is asked for at the prove level (R77, R156, R157). -/
def enterProving (id : Nat) (s : State) : State :=
  match order? s id with
  | none => s
  | some o =>
    let n := o.snap.tx
    let base := baseOf s o
    setStage id .proving s
    |> updOrder id (fun x => { x with recovery := none, sampled := false, stageLen := s.hall.par.proveTime })
    |> dropRecovery n id
    |> updProt n (fun p => { p with base := some base, permit := none, rise := none })
    |> carrierOn n (proveLevel base)

/-- Entry into RAMPING (R77). -/
def enterRamping (id : Nat) (s : State) : State :=
  match order? s id with
  | none => s
  | some o => setStage id .ramping s |> updOrder id (fun x => { x with stageLen := rampOf s o.snap.tx })

/-- Lateness and the OUTCOME event of an order's first arrival in ON-AIR (R78). -/
def firstArrival (o : Order) (s : State) : State :=
  let h := now s
  if o.firstOnAir.isSome then s
  else if o.start < h then
    updOrder o.id (fun x => { x with firstOnAir := some h, lateness := some (h - x.start) }) s |> count .outcome 1
  else updOrder o.id (fun x => { x with firstOnAir := some h }) s |> count .outcome 0

/-- Entry into ON-AIR after the ramp: the setpoint is the permit last computed (R77, R78, R157). -/
def enterOnAir (id : Nat) (s : State) : State :=
  match order? s id with
  | none => s
  | some o =>
    let s := setStage id .onAir s |> firstArrival o
    match (protRec s o.snap.tx).permit with
    | some p => offerSetpoint o.snap.tx p s
    | none => s

/-- Entry into RECOVERING (R79, R95). -/
def enterRecovering (id : Nat) (cause : RecoveryCause) (s : State) : State :=
  setStage id .recovering s |> updOrder id (fun x => { x with recovery := some cause })

/-! ### The step an order takes (R72 to R77) -/

/-- Open a crosspoint of the row that is not kept; the claim of a search tune on its own antenna is released with it
(R73, R74). -/
def clearColumn (o : Order) (c : Nat) (s : State) : State :=
  if o.tuneKind == some .search && o.antenna == some c && claimHeld s o then
    updOrder o.id (fun x => { x with claimDue := true }) s |> releaseWithOpening c o
  else requestMove o.snap.tx c .opens (isEssential o) (.order o.id) s

/-- CLEARING (R73). -/
def clearingStep (o : Order) (s : State) : State :=
  let n := o.snap.tx
  if !(rowWhere s n (· == .stuck)).isEmpty then emit (.fail o.id .routeStuck) s
  else
    let s := if reportsOn s n && !o.work.carrierOff then
        setWork o.id (fun w => { w with carrierOff := true }) s |> carrierOffRequest n (some o.id)
      else s
    let search := o.tuneKind == some .search
    let kept : Option Nat := if search then none else o.antenna
    let s := forEach ((rowWhere s n (· == .closed)).filter (fun c => kept != some c)) (clearColumn o) s |> refreshMove o.id
    let clear := (rowWhere s n XpState.moving).all (fun c => kept == some c && (xpAt s n c).state == .closed) &&
      (rowWhere s n (· == .unknown)).isEmpty
    if reportsOff s n && clear && !moveOutstanding s o.id then
      if o.tuneKind = some .none && claimHeld s o then enterRouting o.id s else enterTuning o.id s
    else s

/-- The tune is complete: on to ROUTING, once the claim is held (R75). -/
def tuneComplete (o : Order) (s : State) : State :=
  if o.claimDue then askClaim o.id s
  else if claimHeld s o then enterRouting o.id s
  else s

/-- TUNING (R75). The closing of a load granted to a search is asked for at once, also while the opening of the antenna's crosspoint
is outstanding; a closing asked for already is joined, which changes nothing (R108). -/
def tuningStep (o : Order) (s : State) : State :=
  let s := refreshMove o.id s
  let n := o.snap.tx
  let moving := moveOutstanding s o.id
  if o.work.tune || o.work.load then s
  else if o.tuneKind = some .search && !o.tuneDone then
    match o.load with
    | none => s
    | some c =>
      match (xpAt s n c).state with
      | .closed =>
        let t := setWork o.id (fun w => { w with tune := true }) s |> startSearch n o.id o.snap.freq o.snap.mode
        if s.pins.chainClosed then t else holdSearch n t
      | .opened => setWork o.id (fun w => { w with move := true }) s |> requestMove n c .close (isEssential o) (.order o.id)
      | _ => s
  else if moving then s
  else match o.load with
    | some c => releaseWithOpening c o s
    | none => tuneComplete o s

/-- ROUTING (R76). -/
def routingStep (o : Order) (s : State) : State :=
  let s := refreshMove o.id s
  let n := o.snap.tx
  let moving := moveOutstanding s o.id
  match o.antenna with
  | none => s
  | some a =>
    if (xpAt s n a).state = .closed then
      if moving || o.work.slew then s else enterPoised o.id s
    else if moving then s
    else setWork o.id (fun w => { w with move := true }) s |> requestMove n a .close (isEssential o) (.order o.id)

/-- POISED (R77). -/
def poisedStep (o : Order) (s : State) : State :=
  if provingDue s o && s.pins.chainClosed then enterProving o.id s else s

/-- A blocked order takes no step; one in CLEARING whose row holds a STUCK crosspoint fails all the same (R73, R92), once
(under LOCAL the failure is recorded: R93; log 82). -/
def blockedStep (o : Order) (s : State) : State :=
  if o.stage = .clearing && !o.localFailure && !(rowWhere s o.snap.tx (· == .stuck)).isEmpty then
    emit (.fail o.id .routeStuck) s
  else s

/-- The step that an order's stage and work in hand call for. -/
def advance (id : Nat) (s : State) : State :=
  match order? s id with
  | none => s
  | some o =>
    match o.stage with
    | .staged => if o.keepAntenna && !blocked s o && isFree s o.snap.tx id then beginPreparation id s else s
    | .closing => closingStep o s
    | st =>
      if blocked s o then blockedStep o s
      else if !Stage.between .warming .poised st then s
      else
        let s := askSlew o s
        match order? s id with
        | none => s
        | some o =>
          match st with
          | .warming => if o.work.warmUp then s else enterClearing id s
          | .clearing => clearingStep o s
          | .tuning => tuningStep o s
          | .routing => routingStep o s
          | .poised => poisedStep o s
          | _ => s

/-- The antenna claim has been granted (R74): CLAIM leaves the work in hand, and the slew is asked for, at each grant. -/
def claimGranted (id : Nat) (s : State) : State :=
  updOrder id (fun x => { x with slewAsked := false, work := { x.work with claim := false } }) s |> advance id

/-- The antenna claim has failed (R68, R100, R101): CLAIM leaves the work in hand, and the order fails. -/
def claimFailed (id : Nat) (s : State) : State :=
  setWork id (fun w => { w with claim := false }) s |> failOrder id .routeStuck

/-- A tune has its result (R75). -/
def tuneEnded (id : Nat) (ok : Bool) (s : State) : State :=
  if ok then updOrder id (fun x => { x with tuneDone := true }) s |> advance id
  else failOrder id .tuneFailed s |> advance id

/-- A movement that somebody requested has completed or failed (R75, R76, R86, R102, R104). -/
def moveEnded (who : Requester) (col : Nat) (ok : Bool) (s : State) : State :=
  match who with
  | .order id =>
    let s := refreshMove id s
    if ok then emit (.advance id) s else failOrder id .routeStuck s |> emit (.advance id)
  | .release id =>
    let s := if ok then
        plainRelease col id s
        |> (if col ≤ 32 then (fun t => t) else updOrder id (fun x => { x with load := none }))
      else s
    let s := refreshMove id s
    if ok then emit (.advance id) s else failOrder id .routeStuck s |> emit (.advance id)
  | .handover id =>
    if ok then s
    else
      updDir col (fun d => if d.handover = some id then { d with handover := none } else d) s |> settleColumn col
      |> claimFailed id |> offerWaiters col
  | .parkedLoad => s

end Sys2Proof.Machine
end

