-- ==== Sys2Proof/Machine/Samples.lean ====
section
/-! DEFINITION. The Protection Unit's judgement of samples (07): trips, proves, setpoints, and the decision at the end of
a recovery delay. -/

namespace Sys2Proof.Machine

/-! ### Trips (R162, R166, R167) -/

/-- The telemetry, reflection and fault code that a trip report carries; a trip not taken from a sample has none, and an
unmeasured sample no telemetry. -/
structure SampleData where
  sample : Option Telemetry := none
  rho : Option Nat := none
  code : Option Nat := none

/-- What a poll reply shows of a sample; the fault code is present when it is not 0. -/
def SampleData.of (s : State) (r : TluReply) : SampleData where
  sample := if r.pf < 10 then none else some { reply := r, second := s.clock.time }
  rho := reflection r.pf r.pr
  code := if r.fault = 0 then none else some r.fault

def TripKind.record : TripKind → FaultKind
  | .vswr => .tripVswr
  | .txFault => .tripTx

def TripKind.position : TripKind → Nat
  | .vswr => 0
  | .txFault => 1

/-- Queue a TRIP report (R166). -/
def tripReport (n : Nat) (order : Option Nat) (stage : Option Stage) (kind : TripKind) (d : SampleData)
    (result : TripResult) (s : State) : State :=
  offerReport (.trip { tx := n, order := order, stage := stage, kind := kind, code := d.code
                       sample := d.sample, rho := d.rho, factor := (protRec s n).factor, trips := tripCount s n order kind
                       result := result, second := s.clock.time }) s

/-- The fault record of a trip or a lockout, with the trips that R164 counts for its kind (R190). -/
def tripFault (kind : FaultKind) (n : Nat) (order : Option (Nat × Stage)) (trip : TripKind) (s : State) : State :=
  makeFaultWith kind (.transmitter n) order (inFlightSet s (.transmitter n) (order.map (·.1))) (latestSnap s n)
    (tripCount s n (order.map (·.1)) trip) s

/-- A trip found under LOCAL is reported, not taken, once until the local trip latch is cleared (R167). `stage` is absent
for a search. -/
def tripNotTaken (n : Nat) (order : Option Nat) (stage : Option Stage) (kind : TripKind) (d : SampleData)
    (s : State) : State :=
  if (protRec s n).latch then s
  else
    let s := if kind = .vswr && stage.isSome then setFactor n 500 order d.rho .trip s else s
    let at_ := (order.bind (order? s)).map (fun o => (o.id, o.stage))
    updProt n (fun p => { p with latch := true }) s |> tripReport n order stage kind d .notTaken
    |> tripFault kind.record n at_ kind

/-- Append a trip to the transmitter's trip history (R162). -/
def noteTrip (n : Nat) (kind : TripKind) (s : State) : State :=
  updProt n (fun p => { p with trips := pushFive p.trips { second := now s, kind := kind } }) s

/-- A trip for an order in a carrier stage (R162; under LOCAL, R167). Its record carries the stage in which the order was at the trip,
and not RECOVERING (R190; log 100). -/
def tripOrder (o : Order) (kind : TripKind) (d : SampleData) (s : State) : State :=
  let n := o.snap.tx
  if isLocal s then tripNotTaken n (some o.id) (some o.stage) kind d s
  else
    carrierOffRequest n none s |> noteTrip n kind
    |> (if kind = .vswr then setFactor n 500 (some o.id) d.rho .trip else (fun t => t))
    |> updTx n (fun x => if x.state = .lockedOut then x else x.to .tripped)
    |> updOrder o.id (fun x => { x with tripTimes := pushFive x.tripTimes (now s), lastTrip := some (kind, o.stage) })
    |> enterRecovering o.id .trip
    |> updProt n (fun p => { p with
        recovery := some { order := o.id, kind := kind, stage := o.stage, timer := s.hall.par.recovery } })
    |> tripReport n (some o.id) (some o.stage) kind d .taken
    |> tripFault kind.record n (some (o.id, o.stage)) kind
    |> count .trip kind.position

/-- A trip during a search in progress (R162; under LOCAL, R167): the search ends unfinished, and the transmitter stays
TUNING until the carrier-off confirmation (R137). -/
def tripSearch (n : Nat) (order : Option Nat) (kind : TripKind) (d : SampleData) (s : State) : State :=
  if isLocal s then tripNotTaken n order none kind d s
  else
    let at_ := (order.bind (order? s)).map (fun o => (o.id, o.stage))
    let s := carrierOffRequest n none s |> noteTrip n kind |> tripReport n order none kind d .taken
      |> tripFault kind.record n at_ kind |> count .trip kind.position |> count .tune 2 |> dropTune n
    match order with
    | some id => emit (.tuned id false) s
    | none => s

/-! ### The prove (R160, R161) -/

/-- The prove passes: the entry is verified, the unproven preset cleared, and the order enters RAMPING (R135, R160). -/
def provePass (o : Order) (s : State) : State :=
  let n := o.snap.tx
  let s := match presetHit s n o.snap.freq with
    | some p => setPreset n (presetIndex o.snap.freq) (some { p with verified := true }) s
    | none => s
  updProt n (fun p => { p with unproven := false }) s |> enterRamping o.id

/-- A prove failure on an unverified preset: no trip, but a search (R79, R135, R161). -/
def proveFail (o : Order) (s : State) : State :=
  let n := o.snap.tx
  invalidate n o.snap.freq s |> count .tune 1
  |> updOrder o.id (fun x => { x with tuneKind := some .search })
  |> carrierOffRequest n none
  |> updProt n (fun p => { p with unproven := false })
  |> enterTuning o.id

/-! ### Judging a sample (R152 to R160) -/

/-- What a sample of an order in a carrier stage turns out to be. -/
inductive Verdict where
  | trip (kind : TripKind) (code : Option Nat)
  | proveFailure
  | clean
  deriving DecidableEq, Repr

/-- Judge a sample for a trip (R154, R160 to R162). `drop`: the reply shows an unbidden drop (R141). -/
def verdict (s : State) (o : Order) (r : TluReply) (drop : Bool) : Verdict :=
  let rho := reflection r.pf r.pr
  let a := antRec? s (o.antenna.getD 0)
  let limit := (a.map (·.trip)).getD 1000
  let warn := (a.map (·.warn)).getD 1000
  let later := o.stage == .proving && o.sampled
  let reflects : Bool := match rho with
    | some x => decide (limit ≤ x) || (later && decide (warn ≤ x))
    | none => false
  let unproven := o.stage == .proving && (protRec s o.snap.tx).unproven
  let code := if r.fault = 0 then none else some r.fault
  if reflects && unproven then .proveFailure
  else if reflects then .trip .vswr code
  else if r.fault ≠ 0 then .trip .txFault code
  else if drop then .trip .txFault (some 0)
  else if later && !isLocal s && decide (o.stageLen ≤ o.stageSecs) && rho.isNone then .trip .txFault (some 0)
  else .clean

/-- The setpoint that an order's stage calls for at a judged sample (R157), and a rise that has ended. -/
def stepSetpoint (o : Order) (permit : Nat) (s : State) : State :=
  let n := o.snap.tx
  match o.stage with
  | .ramping => offerSetpoint n (rampTo (proveLevel ((protRec s n).base.getD 0)) permit o.stageSecs o.stageLen) s
  | .onAir =>
    match (protRec s n).rise with
    | some r =>
      if r.ramp ≤ r.secs then updProt n (fun p => { p with rise := none }) s |> offerSetpoint n permit
      else offerSetpoint n (rampTo r.from_ permit r.secs r.ramp) s
    | none => offerSetpoint n permit s
  | _ => s

/-- A clean sample: foldback, permit and setpoint (R154 to R158), and the pass of a prove (R160). -/
def cleanSample (o : Order) (r : TluReply) (s : State) : State :=
  let n := o.snap.tx
  let rho := reflection r.pf r.pr
  let s := updProt n (fun p => { p with latch := false }) s
  let s := match rho, antRec? s (o.antenna.getD 0) with
    | some x, some a => setFactor n (foldStep (foldTarget x a.warn a.trip) (protRec s n).factor) (some o.id) rho .sample s
    | _, _ => s
  let permit := permitOf ((protRec s n).base.getD 0) (protRec s n).factor
  let s := updProt n (fun p => { p with permit := some permit }) s
  if o.stage = .proving then
    let pass := o.sampled && decide (o.stageLen ≤ o.stageSecs) && rho.isSome && !isLocal s
    let s := updOrder o.id (fun x => { x with sampled := true }) s
    if pass then provePass o s else s
  else stepSetpoint o permit s

/-- The Protection Unit acts on a sample (R152). One that shows a trip condition moves neither F by R155 nor the permit by R156,
also under LOCAL, where the trip is not taken (R167; log 81). -/
def judgeSample (n : Nat) (r : TluReply) (drop : Bool) (s : State) : State :=
  match carrierOrder? s n with
  | some o =>
    match verdict s o r drop with
    | .trip kind code =>
      updOrder o.id (fun x => { x with sampled := true }) s |> tripOrder o kind { SampleData.of s r with code := code }
    | .proveFailure =>
      if isLocal s then updOrder o.id (fun x => { x with sampled := true }) s else proveFail o s
    | .clean => cleanSample o r s
  | none =>
    match (txCtl s n).tune with
    | some t =>
      if t.kind = .search && !t.held then
        let d := SampleData.of s r
        if (d.rho.map (fun x => decide (Config.loadTrip ≤ x))).getD false then tripSearch n t.order .vswr d s
        else if r.fault ≠ 0 then tripSearch n t.order .txFault d s
        else updProt n (fun p => { p with latch := false }) s
      else s
    | none => s

/-! ### The end of the recovery delay (R164, R165, R167) -/

/-- The decision at the end of a recovery delay (R164); its report carries the stage at the trip (R166). -/
def decideRecovery (n : Nat) (d : RecoveryDelay) (s : State) : State :=
  let s := updProt n (fun p => { p with recovery := none }) s
  match order? s d.order with
  | none => leaveTripped n s
  | some o =>
    let at_ : Option (Nat × Stage) := some (o.id, o.stage)
    if tripCount s n (some o.id) d.kind < s.hall.par.tripLimit then
      let s := leaveTripped n s |> tripReport n (some o.id) (some d.stage) d.kind {} .reProve
      if isLocal s || o.stage ≠ .recovering then s
      else if s.pins.chainClosed then enterProving o.id s
      else updOrder o.id (fun x => { x with recovery := some .safety }) s
    else
      match d.kind with
      | .vswr =>
        let a := o.antenna.getD 0
        let s := if (dirRec s a).suspect then s
          else updDir a (fun e => { e with suspect := true }) s |> antReport a .lockout
        leaveTripped n s |> tripFault .vswrLockout n at_ d.kind
        |> tripReport n (some o.id) (some d.stage) d.kind {} .lockout |> emit (.fail o.id .vswrLockout)
      | .txFault =>
        setTxState n .lockedOut s |> tripFault .txLockout n at_ d.kind
        |> tripReport n (some o.id) (some d.stage) d.kind {} .lockout |> emit (.fail o.id .txLockout)

end Sys2Proof.Machine
end

