-- ==== Sys2Proof/Machine/Agenda.lean ====
section
/-! DEFINITION. What the blocks do with the results that reach them (R177, R172), the handling of the messages between
blocks until none is left (log 4), and the form of every command's answer. -/

namespace Sys2Proof.Machine

/-! ### Results of commands on the line (R130 to R138, R114, R123, R158) -/

/-- The filament commands (R130, R131). -/
def filamentResult (n : Nat) (on : Bool) (serial : Nat) (r : CmdResult) (s : State) : State :=
  let t := txCtl s n
  let mine := (t.warm.bind (·.cmd)) == some serial
  match on, r with
  | true, .ack _ =>
    let s := if t.state = .cold then setTxState n .warming s else s
    if mine then
      updTx n (fun x => { x with warm := x.warm.map (fun w =>
        { w with start := s.clock.time, timer := (txRec? s n).map (fun k => 2 * k.warmUp), cmd := none }) }) s
    else s
  | true, _ => if mine then warmUpFailed n s else s
  | false, r =>
    let cool := t.coolDown = .queued serial || t.coolDown = .sent serial
    let s := if cool then updTx n (fun x => { x with coolDown := .none }) s else s
    match r with
    | .ack _ => filamentOffAcked n s
    | _ => if cool then updTx n TxCtl.awake s else s

/-- The tune in hand awaits the result of this command. -/
def tuneAwaits (s : State) (n serial : Nat) : Bool := ((txCtl s n).tune.bind (·.cmd)) == some serial

/-- A tune command has been acknowledged: the tune timer starts, at twice the estimate (R134, R136). -/
def tuneAcked (n : Nat) (limit : Option Nat) : State → State :=
  updTx n (fun x => { x with tune := x.tune.map (fun t => { t with acked := true, timer := limit, cmd := none }) })

/-- The current mode follows an acknowledged MODE, TUNE-PRESET or TUNE-SEARCH (R127). -/
def setMode (n : Nat) (m : Mode) (r : CmdResult) (s : State) : State :=
  match r with
  | .ack _ => updTx n (fun x => { x with mode := some m }) s
  | _ => s

/-- MODE (R136). -/
def modeResult (n : Nat) (m : Mode) (serial : Nat) (r : CmdResult) (s : State) : State :=
  let s := setMode n m r s
  if !tuneAwaits s n serial then s
  else match r with
    | .ack _ => tuneResult n true s
    | _ => tuneResult n false s

/-- TUNE-PRESET (R136). -/
def presetResult (n : Nat) (m : Mode) (serial : Nat) (r : CmdResult) (s : State) : State :=
  let s := setMode n m r s
  if !tuneAwaits s n serial then s
  else match r with
    | .ack _ => tuneAcked n ((txRec? s n).map (fun k => 2 * k.presetEst)) s
    | .nak _ => presetFail n true s
    | .noReply => presetFail n false s

/-- TUNE-SEARCH (R134). -/
def searchResult (n : Nat) (m : Mode) (serial : Nat) (r : CmdResult) (s : State) : State :=
  let s := setMode n m r s
  if !tuneAwaits s n serial then s
  else match r with
    | .ack _ => tuneAcked n ((txRec? s n).map (fun k => 2 * k.searchEst)) s
    | _ => searchFail n false s

/-- TUNE-RESULT: the fill of the Tuning Memory (R134). -/
def positionsResult (n : Nat) (serial : Nat) (r : CmdResult) (s : State) : State :=
  match (txCtl s n).tune with
  | none => s
  | some t =>
    if t.cmd ≠ some serial then s
    else match r with
      | .ack l =>
        if within 2 6 l.length then
          setPreset n t.index (some { freq := t.freq, positions := l, verified := false }) s |> tuneResult n true
        else searchFail n false s
      | _ => searchFail n false s

/-- CARRIER ON (R138, R158). -/
def carrierOnResult (n level serial : Nat) (r : CmdResult) (s : State) : State :=
  let mine : Bool := (txCtl s n).carrier == some (.on level serial)
  let s := if mine then updTx n (fun x => { x with carrier := none }) s else s
  match r with
  | .ack _ => updProt n (fun p => { p with acked := level }) s
  | .nak _ =>
    match carrierOrder? s n with
    | some o => if mine then tripOrder o .txFault { code := some 0 } s else s
    | none => s
  | .noReply => s

/-- CARRIER OFF, acknowledged or failed (R140). -/
def carrierOffResult (n serial : Nat) : State → State :=
  updTx n (fun x => { x with
    carrier := if x.carrier = some (.off serial) then none else x.carrier
    offReq := if x.offReq = .command then .reply else x.offReq })

/-- SETPOINT (R158). -/
def setpointResult (n power : Nat) (r : CmdResult) (s : State) : State :=
  match r with
  | .ack _ => updProt n (fun p => { p with acked := power }) s
  | _ =>
    if cmdOutstanding s (tluCmd n CmdFn.isSetpoint) then s else updProt n (fun p => { p with sent := p.acked }) s

/-- MOVE (R114). -/
def moveResult (serial : Nat) (r : CmdResult) (s : State) : State :=
  match s.mx.movements.find? (fun m => m.cmd == serial) with
  | none => s
  | some m =>
    if !(xpAt s m.row m.col).state.inFlight then s
    else match r with
      | .ack _ => s
      | .nak _ => moveNak m s
      | .noReply => moveNoReply m s

/-- SLEW (R123). -/
def slewResult (a serial : Nat) (r : CmdResult) (s : State) : State :=
  match rotator? s a, r with
  | _, .ack _ => s
  | some k, _ => if k.slew = .slewing && k.cmd = serial then failSlew a s else s
  | none, _ => s

/-- A command's result reaches the block that offered it (R176, R177). -/
def commandResult (c : Cmd) (r : CmdResult) (s : State) : State :=
  match c.fn with
  | .filament on => filamentResult c.subject on c.serial r s
  | .mode m => modeResult c.subject m c.serial r s
  | .tunePreset _ m _ => presetResult c.subject m c.serial r s
  | .tuneSearch _ m _ => searchResult c.subject m c.serial r s
  | .tuneResult => positionsResult c.subject c.serial r s
  | .carrierOn level => carrierOnResult c.subject level c.serial r s
  | .carrierOff => carrierOffResult c.subject c.serial s
  | .setpoint p => setpointResult c.subject p r s
  | .move _ _ => moveResult c.serial r s
  | .slew _ => slewResult c.subject c.serial r s
  | .stop => s

/-- The owner's block is told that a unit is SILENT (R172): a TLU makes its transmitter OFFLINE or blind (R129, R143), an
MDU's crosspoints keep their states, a slew in progress on an ARU fails (R123). -/
def unitSilent (kind : UnitKind) (owner : Nat) (s : State) : State :=
  match kind with
  | .tlu =>
    match carrierOrder? s owner with
    | some o => if (txCtl s owner).state = .on then beginBlind owner o.id s else goOffline owner s
    | none => goOffline owner s
  | .mdu => s
  | .aru => match rotator? s owner with
    | some r => if r.slew = .slewing then failSlew owner s else s
    | none => s

/-! ### The messages between blocks -/

/-- Take one message. -/
def handle (g : Signal) (s : State) : State :=
  match g with
  | .advance id => advance id s
  | .fail id cause => failOrder id cause s
  | .granted id => claimGranted id s
  | .claimFailed id => claimFailed id s
  | .moved who _ col ok => moveEnded who col ok s
  | .offerColumn c => offerColumn c s
  | .offerLoads => offerLoads s
  | .command c r => commandResult c r s
  | .unitLost addr fl cause => unitLost addr fl cause s
  | .silent kind owner => unitSilent kind owner s
  | .unitDown addr fl cause => unitDown addr fl cause s
  | .tuned id ok => tuneEnded id ok s
  | .rowChanged row => match workingOrder? s row with
    | some o => advance o.id s
    | none => s

/-- Take the messages in the order in which they were sent, until none is left. -/
def drain : Nat → State → State
  | 0, s => s
  | fuel + 1, s =>
    match s.agenda with
    | [] => s
    | g :: rest => drain fuel (handle g { s with agenda := rest })

/-- The blocks come to rest: every message has been taken (log 4). -/
def rest (s : State) : State := (drain Config.agendaFuel s).onAgenda (fun _ => [])

/-- The end of a command's effects: the messages are taken, the ORDER reports queued (R69), the RF Permit lines judged
(R120). -/
def settle (s : State) : State := judgePermits (flushOrders (rest s))

/-! ### The answer of a command -/

/-- An outcome of a step. -/
abbrev Out := Host.Outcome State Fault Refusal

/-- An event: without supply the controller takes none (log 6). -/
def event (f : State → State) (s : State) : Out := if s.pins.powered then .next (settle (f s)) else .next s

/-- What a request comes to: a refusal with its status and detail, or the changed state with the data of the OK reply,
which are read from the state after every effect (R182). -/
abbrev Answer := Except (Status × Detail) (State × (State → ReplyData))

/-- Refuse a request (R183). -/
def refuse (st : Status) (d : Detail := .none) : Answer := .error (st, d)

/-- Accept a request. -/
def accept (s : State) (data : State → ReplyData := fun _ => .none) : Answer := .ok (s, data)

/-- The first check that fails gives the refusal (R3, R20 and the like). -/
def checks : List (Bool × Status × Detail) → Answer → Answer
  | [], go => go
  | (bad, st, d) :: more, go => if bad then .error (st, d) else checks more go

/-- A request that changes state: its effects, then exactly one reply (R182). A refused one changes nothing else. -/
def request (kind tag : Nat) (f : State → Answer) (s : State) : Out :=
  if s.pins.powered then
    match f s with
    | .error (st, d) => .next (queueReply kind tag st d .none s)
    | .ok (t, data) => .next (queueReply kind tag .ok .none (data (settle t)) (settle t))
  else .next s

/-- A request that changes no state: only its reply is queued. -/
def readRequest (kind tag : Nat) (f : State → Except (Status × Detail) ReplyData) (s : State) : Out :=
  if s.pins.powered then
    match f s with
    | .error (st, d) => .next (queueReply kind tag st d .none s)
    | .ok data => .next (queueReply kind tag .ok .none data s)
  else .next s

end Sys2Proof.Machine
end

