-- ==== Sys2Proof/Machine/StagingOps.lean ====
section
/-! DEFINITION. Occurrences and the conflict test of the banks (02), admission, the deferred set, the staging scan,
catch-up, the lead time, and what AUTO brings (03). -/

namespace Sys2Proof.Machine

/-! ### Occurrences (R26, R27, R42) -/

/-- First and last hall day of an entry's effective range, under a header (R26). -/
def effectiveRange (h : Option Header) (e : Entry) : Nat × Nat :=
  (max (e.validFrom.getD Config.firstDay) ((h.map (·.validFrom)).getD Config.firstDay),
   min (e.validTo.getD Config.lastDay) ((h.map (·.validTo)).getD Config.lastDay))

/-- An entry has an occurrence on a hall day (R27). -/
def occursOn (h : Option Header) (e : Entry) (day : Nat) : Bool :=
  let r := effectiveRange h e
  e.days.getLsbD (weekday day) && decide (r.1 ≤ day) && decide (day ≤ r.2)

/-- Start instant of an occurrence (R27). -/
def occurrenceStart (e : Entry) (day : Nat) : Nat := day * Config.daySeconds + 60 * e.start

/-- The bank in force at an instant (R42). -/
def bankInForce (s : State) (t : Nat) : Option BankId :=
  let armed (b : BankId) : Bool := (bankOf s b).state == .armed && decide (((bankOf s b).activation.getD 0) ≤ t)
  let active (b : BankId) : Bool := (bankOf s b).state == .active
  if armed .a then some .a
  else if armed .b then some .b
  else if active .a then some .a
  else if active .b then some .b
  else none

/-- The entries of the bank in force that start at a whole minute, ascending, without the suspended ones (R57, R63). -/
def startsAt (s : State) (t : Nat) : List (BankId × Entry) :=
  match bankInForce s t with
  | none => []
  | some b =>
    let k := bankOf s b
    (k.entries.filter (fun e =>
      !e.suspended && occursOn k.header e (hallDay t) && e.start == minuteOfDay t)).map (fun e => (b, e))

/-- The snapshot of an entry (R57). -/
def Entry.snapshot (e : Entry) : Snapshot where
  service := e.service
  tx := e.tx
  freq := e.freq
  primary := e.primary
  alternate := e.alternate
  azimuth := e.azimuth
  power := e.power
  mode := e.mode
  priority := e.priority

/-- Whole minutes from `lo` to `hi`, as instants. -/
def minutes (lo hi : Nat) : List Nat :=
  let first := ceilDiv lo 60
  (List.range (hi / 60 + 1 - first)).map (fun k => (first + k) * 60)

/-! ### The conflict test of the banks (R28) -/

/-- The minute-of-week intervals of two starts with their durations hold a common minute (R28). -/
def weekMeets (m1 d1 m2 d2 : Nat) : Bool :=
  decide ((m2 + Config.weekMinutes - m1) % Config.weekMinutes < d1) ||
  decide ((m1 + Config.weekMinutes - m2) % Config.weekMinutes < d2)

/-- Two entries of a bank conflict (R28). -/
def entriesConflict (h : Option Header) (x y : Entry) : Bool :=
  let a := effectiveRange h x
  let b := effectiveRange h y
  (x.tx == y.tx || x.primary == y.primary) &&
  decide (a.1 ≤ a.2) && decide (b.1 ≤ b.2) && decide (a.1 ≤ b.2 + 1) && decide (b.1 ≤ a.2 + 1) &&
  (List.range 7).any (fun w1 => x.days.getLsbD w1 && (List.range 7).any (fun w2 => y.days.getLsbD w2 &&
    weekMeets (w1 * 1440 + x.start) x.duration (w2 * 1440 + y.start) y.duration))

/-! ### Lead time (R64, R65) -/

/-- The warm-up term Wm (R64). Where the rule's start instant is missing or later than now, no second of the warm-up counts as
past (log 62). -/
def warmTerm (s : State) (n warmUp : Nat) : Nat :=
  match (txCtl s n).state with
  | .cold => warmUp
  | .offline => warmUp
  | .warming => warmUp - (now s - ((txCtl s n).warm.bind (·.start)).getD (now s))
  | _ => 0

/-- The tuning term Tt (R64). -/
def tuneTerm (s : State) (n f : Nat) (r : TxRec) : Nat :=
  match tuneKindFor s n f with
  | .none => 0
  | .preset => r.presetEst
  | .search => r.searchEst + 2 * s.hall.par.moveEst

/-- The slew term Ts (R64). -/
def slewTerm (s : State) (p : Snapshot) : Nat :=
  match rotatorPart? s p.primary, p.azimuth with
  | some k, some az => slewEstimate k ((rotator? s p.primary).bind (·.azimuth)) az
  | _, _ => 0

/-- The routing term Rt (R64). -/
def routeTerm (s : State) (p : Snapshot) : Nat :=
  let x := (xpAt s p.tx p.primary).state
  if x = .closed || x = .closing then 0
  else if (rowWhere s p.tx (fun k => k == .closed || k == .closing || k == .stuck || k == .unknown)).isEmpty then
    s.hall.par.moveEst
  else 2 * s.hall.par.moveEst

/-- The lead time of a programme on the hall as it stands (R64). -/
def leadTime (s : State) (p : Snapshot) : Nat :=
  match txRec? s p.tx with
  | none => 0
  | some r =>
    warmTerm s p.tx r.warmUp + max (tuneTerm s p.tx p.freq r) (slewTerm s p) + routeTerm s p +
      s.hall.par.proveTime + r.ramp + s.hall.par.leadMargin

/-- Compute the prepare instants of the STAGED orders again (R65). -/
def recomputePrepare (s : State) : State :=
  s.onChg (fun c => { c with orders := c.orders.map (fun o =>
    if o.stage = .staged && !o.lateStart && !o.fixedPrepare then { o with prepare := o.start - leadTime s o.snap } else o) })

/-- A STAGED order meets the conditions of R65, but for the tie among equal starts. -/
def mayPrepare (s : State) (o : Order) : Bool :=
  o.stage == .staged && decide (o.prepare ≤ now s) && isFree s o.snap.tx o.id && !blocked s o &&
  (ordersOf s o.snap.tx).all (fun p => p.id == o.id || p.stage != .staged || decide (o.start ≤ p.start))

/-- The order that begins where several of one transmitter may: an unmarked one before a marked one, then the lowest id
(R65). -/
def preparesNow (s : State) (o : Order) : Bool :=
  mayPrepare s o && (ordersOf s o.snap.tx).all (fun p =>
    p.id == o.id || !mayPrepare s p ||
    (o.preempting.isNone && p.preempting.isSome) ||
    (o.preempting.isSome == p.preempting.isSome && decide (o.id < p.id)))

/-! ### Admission (R59, R60) -/

/-- A candidate (R59). -/
structure Candidate where
  origin : Origin
  snap : Snapshot
  start : Nat
  ends : Nat

/-- The result of admission (R59). -/
inductive Admission where
  | admitted (id : Nat)
  | unavailable (state : TxState)
  | conflict (blocking : Nat)
  | full
  deriving DecidableEq, Repr

/-- The live orders that conflict with a candidate (R59). -/
def conflicting (s : State) (c : Candidate) : List Order :=
  s.chg.orders.filter (conflicts c.snap.tx c.snap.primary c.start c.ends)

/-- The lowest id of a list of orders. -/
def lowestId (l : List Order) : Option Nat := (l.map (·.id)).min?

/-- The first three tests, in their order (R59); `none`: the candidate passes. A transmitter that has become undefined is
UNAVAILABLE (R1; log 85). -/
def admissionFault (s : State) (c : Candidate) : Option Admission :=
  let n := c.snap.tx
  if ((txRec? s n).map (·.inhibited)).getD true || (txCtl s n).state == .lockedOut then
    some (.unavailable (txCtl s n).state)
  else match lowestId ((conflicting s c).filter (fun o => !o.snap.priority.below c.snap.priority)) with
    | some k => some (.conflict k)
    | none => if Config.maxOrders ≤ s.chg.orders.length then some .full else none

/-- The id of a new order: the first after the last assigned, cyclically, that no live order holds (R68). -/
def newId (s : State) : Nat :=
  (((List.range 33).map (fun k => (s.chg.lastId + k) % 65535 + 1)).find?
    (fun i => s.chg.orders.all (fun o => o.id != i))).getD 1

/-- Mark a conflicting order with the new one, unless it keeps the mark it has (R60). -/
def markFor (c : Candidate) (id : Nat) (o : Order) (s : State) : State :=
  match o.preempting.bind (order? s) with
  | some p => if p.start ≤ c.start then s else setMark o.id (some id) s
  | none => setMark o.id (some id) s

/-- The origin of a deferred occurrence. -/
def Deferred.origin (d : Deferred) : Origin := .schedule d.bank d.entry d.start

/-- Create the order of an admitted candidate (R60, R68). -/
def createOrder (c : Candidate) (s : State) : State :=
  let id := newId s
  let rivals := conflicting s c
  let late := decide (c.origin ≠ .manual) && decide (c.start < now s)
  let o : Order := { id := id, origin := c.origin, snap := c.snap, start := c.start, ends := c.ends
                     prepare := if late then now s else c.start - leadTime s c.snap, lateStart := late }
  let o := { o with held := heldNow s o }
  s.onChg (fun k => { orders := k.orders ++ [o], lastId := id })
  |> noteCreated id
  |> forEach rivals (markFor c id)
  |> informCoolDown c.snap.tx
  |> State.onStaging (fun g => { g with deferred := g.deferred.filter (fun d => decide (d.origin ≠ c.origin)) })

/-- Put a candidate through admission (R59). -/
def admitOrder (c : Candidate) (s : State) : Admission × State :=
  match admissionFault s c with
  | some f => (f, s)
  | none => (.admitted (newId s), createOrder c s)

/-! ### Occurrences through admission (R57, R61, R62) -/

/-- Offer a STAGING report. -/
def stagingReport (b : BankId) (entry start : Nat) (ev : StagingEvent) : State → State :=
  offerReport (.staging { bank := b, entry := entry, start := start, event := ev })

/-- A deferred occurrence as a candidate. -/
def Deferred.candidate (d : Deferred) : Candidate := { origin := d.origin, snap := d.snap, start := d.start, ends := d.ends }

/-- The deferred set holds an occurrence of this origin (R61). -/
def deferred? (s : State) (o : Origin) : Bool := s.staging.deferred.any (fun d => decide (d.origin = o))

/-- An occurrence without room joins the deferred set, unless its origin is there, or is dropped when the set is full
(R61). -/
def deferOccurrence (d : Deferred) (s : State) : State :=
  if deferred? s d.origin then s
  else if s.staging.deferred.length < Config.maxDeferred then
    s.onStaging (fun g => { g with deferred := g.deferred ++ [d] }) |> stagingReport d.bank d.entry d.start .deferred
  else stagingReport d.bank d.entry d.start .droppedSetFull s

/-- Take an occurrence through admission (R59, R61). -/
def stageOccurrence (d : Deferred) (s : State) : State :=
  match admitOrder d.candidate s with
  | (.admitted _, t) => t
  | (.unavailable st, t) => stagingReport d.bank d.entry d.start (.skippedUnavailable st) t
  | (.conflict k, t) => stagingReport d.bank d.entry d.start (.skippedConflict k) t
  | (.full, t) => deferOccurrence d t

/-- The occurrence of an entry at a start instant. -/
def occurrence (b : BankId) (e : Entry) (t : Nat) : Deferred :=
  { bank := b, entry := e.number, start := t, ends := t + 60 * e.duration, snap := e.snapshot }

/-- A live order has this origin (R36, R57, R63). -/
def live? (s : State) (o : Origin) : Bool := s.chg.orders.any (fun p => decide (p.origin = o))

/-- Stage an occurrence unless a live order has its origin (R36). -/
def stageUnlessLive (d : Deferred) (s : State) : State := if live? s d.origin then s else stageOccurrence d s

/-- Stage an occurrence unless a live order or a deferred occurrence has its origin (R57, R63). -/
def stageUnknown (d : Deferred) (s : State) : State := if deferred? s d.origin then s else stageUnlessLive d s

/-- The cutoff in seconds. -/
def cutoffSecs (s : State) : Nat := 60 * s.hall.par.cutoff

/-- The staging scan (R57). -/
def stagingScan (s : State) : State :=
  let h := now s
  let w := 60 * s.hall.par.lookAhead
  let lo := match s.staging.through with
    | some t => max (t + 1) h
    | none => h
  forEach (minutes lo (h + w)) (fun t u => forEach (startsAt s t) (fun x => stageUnknown (occurrence x.1 x.2 t)) u) s
  |> State.onStaging (fun g => { g with through := some (max (g.through.getD 0) (h + w)) })

/-- Catch-up on one occurrence: it is staged while its end lies beyond the cutoff (R63). -/
def catchOne (t : Nat) (x : BankId × Entry) (s : State) : State :=
  if now s + cutoffSecs s < t + 60 * x.2.duration then stageUnknown (occurrence x.1 x.2 t) s else s

/-- The whole minutes that catch-up considers at hall time `h` with a late-start cutoff of `c` seconds, ascending (R63). -/
def catchMinutes (h c : Nat) : List Nat := (minutes (h + c + 1 - 86400) h).filter (fun t => decide (t < h))

/-- Catch-up (R63). -/
def catchUp (s : State) : State :=
  forEach (catchMinutes (now s) (cutoffSecs s)) (fun t u => forEach (startsAt s t) (catchOne t) u) s

/-- The drop test of the deferred set (R62). -/
def dropTest (s : State) : State :=
  let gone := s.staging.deferred.filter (fun d => decide (d.ends ≤ now s + cutoffSecs s))
  s.onStaging (fun g => { g with deferred := g.deferred.filter (fun d => !decide (d.ends ≤ now s + cutoffSecs s)) })
  |> forEach gone (fun d => stagingReport d.bank d.entry d.start .droppedCutoff)

/-- The order of retries: start, then bank, then entry number (R62). -/
def Deferred.before (x y : Deferred) : Bool :=
  decide (x.start < y.start) || (x.start == y.start &&
    ((x.bank == .a && y.bank == .b) || (x.bank == y.bank && decide (x.entry ≤ y.entry))))

/-- Insert into a list sorted by `Deferred.before`. -/
def insertDeferred (d : Deferred) : List Deferred → List Deferred
  | [] => [d]
  | e :: l => if d.before e then d :: e :: l else e :: insertDeferred d l

/-- Retry one deferred occurrence (R62). -/
def retryDeferred (d : Deferred) (s : State) : State :=
  let out (t : State) : State :=
    t.onStaging (fun g => { g with deferred := g.deferred.filter (fun e => decide (e.origin ≠ d.origin)) })
  match admitOrder d.candidate s with
  | (.admitted _, t) => out t
  | (.unavailable st, t) => out t |> stagingReport d.bank d.entry d.start (.skippedUnavailable st)
  | (.conflict k, t) => out t |> stagingReport d.bank d.entry d.start (.skippedConflict k)
  | (.full, t) => t

/-- The deferred occurrences in the order of their retries (R62). -/
def retryOrder (s : State) : List Deferred := s.staging.deferred.foldr insertDeferred []

/-- The deferred retries, in their order (R62). -/
def retries (s : State) : State := forEach (retryOrder s) retryDeferred s

/-! ### AUTO (R54, R56, R92) -/

/-- Set or clear HELD, which queues an ORDER report at a change. -/
def setHeld (v : Bool) (id : Nat) (s : State) : State :=
  (if (order? s id).any (fun o => o.held != v) then noteOrder id s else s) |> updOrder id (fun x => { x with held := v })

/-- Ids of the live orders that meet a test. -/
def idsWhere (s : State) (p : Order → Bool) : List Nat := (s.chg.orders.filter p).map (·.id)

/-- AUTO ends with the key REMOTE: scheduled orders from STAGED through POISED carry HELD (R92). -/
def endAuto (s : State) : State :=
  forEach (idsWhere s (fun o => isScheduled o && Stage.between .staged .poised o.stage)) (setHeld true) s

/-- AUTO begins: HELD is cleared, each order takes the step it is due (R92), and staging is started (R56). At hall time 0 the
staged-through instant is set to 0 (log 63). -/
def beginAuto (s : State) : State :=
  let ids := idsWhere s (fun _ => true)
  let s := forEach ids (setHeld false) s |> forEach ids (fun id => emit (.advance id)) |> rest
  let s := s.onStaging (fun g => { g with through := some (g.through.getD (now s - 1)) })
  catchUp s |> dropTest |> retries |> stagingScan

/-- After a change of one of AUTO's conditions: what its beginning or end brings (R54, R56). -/
def autoFollows (was : Bool) (s : State) : State :=
  if isAuto s && !was then beginAuto s
  else if was && !isAuto s && !isLocal s then endAuto s
  else s

end Sys2Proof.Machine
end

