-- ==== Sys2Proof/Machine/ClockOps.lean ====
section
/-! DEFINITION. What a second boundary brings (R45): the timers, the hall time and a pending setting, bank activation, the
minute boundary, and the instants of the orders (03, 04). -/

namespace Sys2Proof.Machine

/-! ### Timers (R45; log 8) -/

/-- One second off an optional timer. -/
def countDown : Option Nat → Option Nat := Option.map (· - 1)

/-- The timers and the idle clock of a transmitter (R130, R131, R134, R136, R143); the idle clock is compared with the
cool-down hold in force, in minutes (R15). -/
def TxCtl.tick (idleNow : Bool) (hold : Nat) (x : TxCtl) : TxCtl :=
  let idle := if idleNow then x.idle + 1 else 0
  { x with
    warm := x.warm.map (fun w => { w with timer := countDown w.timer })
    tune := x.tune.map (fun t => { t with timer := if t.held then t.timer else countDown t.timer })
    blind := countDown x.blind
    idle := idle
    coolDue := hold != 0 && decide (60 * hold ≤ idle) }

/-- The recovery delay and the rise of a protection record (R157, R163). -/
def ProtRec.tick (p : ProtRec) : ProtRec :=
  { p with
    recovery := p.recovery.map (fun d => { d with timer := d.timer - 1 })
    rise := p.rise.map (fun r => { r with secs := r.secs + 1 }) }

/-- The prove, the ramp and the carrier-off confirm timeout of an order (R77, R81, R160). -/
def Order.tick (o : Order) : Order := { o with stageSecs := o.stageSecs + 1, closeTimer := countDown o.closeTimer }

/-- Every running duration loses a second (R45). -/
def tickTimers (s : State) : State :=
  s.onMx (fun m => { m with
    movements := m.movements.map (fun v => { v with timer := v.timer - 1 })
    rotators := m.rotators.map (Option.map (fun r => { r with timer := countDown r.timer })) })
  |> State.onTx (List.mapIdx (fun i x => x.tick (isIdle s (i + 1)) s.hall.par.coolHold))
  |> State.onProt (List.map ProtRec.tick)
  |> State.onChg (fun c => { c with orders := c.orders.map Order.tick })

/-! ### Occupancy (R193) -/

/-- ON-AIR counters add the number of their transmitters that are on the air (R193). -/
def countOccupancy (s : State) : State :=
  let airing : Nat → Bool := fun n => s.chg.orders.any (fun o => o.snap.tx == n && o.stage == .onAir)
  s.onStats (List.map (fun c =>
    if c.cls = .onAir then
      { c with value := (c.value + ((upTo 16).filter (fun n => maskBit c.mask (n - 1) && airing n)).length) % 4294967296 }
    else c))

/-! ### Bank activation (R39 to R41) -/

/-- An ARMED bank whose instant has come becomes ACTIVE, and the ACTIVE one LOADED (R39). -/
def activateBank (bk : BankId) (s : State) : State :=
  let k := bankOf s bk
  match s.clock.time, k.state, k.activation with
  | some h, .armed, some t =>
    if t ≤ h then
      let old := bankOf s bk.other
      let season (b : Bank) : Nat := (b.header.map (·.season)).getD 0
      let s' := if old.state = .active then updBank bk.other (fun b => { b with state := .loaded }) s else s
      updBank bk (fun b => { b with state := .active, activation := none }) s'
      |> offerReport (.season { active := bk, season := season k
                                loaded := if old.state = .active then some (bk.other, season old) else none
                                armed := t, taken := h, late := decide (t < h) })
    else s
  | _, _, _ => s

/-- At most one bank is ARMED (R37). -/
def activateBanks (s : State) : State := activateBank .b (activateBank .a s)

/-! ### The orders' instants (R80, R82 to R84) -/

/-- The preempting order of a mark is live and its start has come (R84). -/
def preemptDue (s : State) (o : Order) : Bool :=
  match o.preempting.bind (order? s) with
  | some p => decide (p.start ≤ now s)
  | none => false

/-- An order that has not been on the air reaches E - late-start cutoff (R80). -/
def expiryDue (s : State) (o : Order) : Bool :=
  o.firstOnAir.isNone && o.stage != .closing && decide (o.ends ≤ now s + cutoffSecs s)

/-- An order that has been on the air reaches E (R82). -/
def endDue (s : State) (o : Order) : Bool := o.firstOnAir.isSome && o.stage != .closing && decide (o.ends ≤ now s)

/-- `n` continues `o` (R83). -/
def continues (s : State) (o n : Order) : Bool :=
  n.stage == .staged && n.snap.tx == o.snap.tx && n.start == o.ends && n.snap.freq == o.snap.freq &&
  n.snap.mode == o.snap.mode && o.antenna.isSome && chooseAntenna s n == o.antenna &&
  ((rotatorPart? s (o.antenna.getD 0)).isNone || n.snap.azimuth == o.snap.azimuth) && !n.held &&
  (match n.preempting.bind (order? s) with
    | some p => decide (n.start < p.start)
    | none => true) &&
  s.pins.chainClosed

/-- The successor of an ending order: the lowest id of those that continue it (R83). -/
def successor? (s : State) (o : Order) : Option Order :=
  (lowestId (s.chg.orders.filter (continues s o))).bind (order? s)

/-- The Protection Unit at a continuation (R157). -/
def continuePower (n : Nat) (o : Order) (s : State) : State :=
  let base := baseOf s o
  let permit := permitOf base (protRec s n).factor
  let sent := (protRec s n).sent
  let s := updProt n (fun p => { p with base := some base, permit := some permit, rise := none }) s
  if permit < sent then setpointRequest n permit s
  else if sent < permit then
    updProt n (fun p => { p with rise := some { from_ := sent, start := now s, ramp := rampOf s n, secs := 0 } }) s
  else s

/-- The programme continues into its successor in one event (R83). -/
def continueInto (o n : Order) (s : State) : State :=
  let a := o.antenna.getD 0
  let s := noteOrder o.id s |> noteOrder n.id |> finishOrder o.id .ended
    |> updDir a (fun d => { d with claiming := some n.id }) |> settleColumn a |> setStage n.id .onAir
    |> updOrder n.id (fun x => { x with
        continued := true, antenna := some a, tuneKind := some .none, firstOnAir := some x.start, blind := o.blind
        alternateUsed := decide (a ≠ x.snap.primary), claimDue := false, slewAsked := true })
    |> count .outcome 0 |> count .outcome 7
  match order? s n.id with
  | some x => continuePower x.snap.tx x s
  | none => s

/-- The end of a programme (R82, R83). -/
def endProgramme (id : Nat) (s : State) : State :=
  match order? s id with
  | none => s
  | some o =>
    match (if o.stage = .onAir then successor? s o else none) with
    | some n => continueInto o n s
    | none => conclude id .ended s

/-- An order whose end has come, and which is still live, ends. -/
def endIfDue (id : Nat) (s : State) : State := if (order? s id).any (endDue s) then endProgramme id s else s

/-- Preemptions, ends, expiries, and the proving instants of POISED orders (R77, R80, R82, R84). Under LOCAL only STAGED
orders leave, and the mark of an order in CLOSING is carried out, which needs no command (R93). -/
def orderInstants (s : State) : State :=
  let open_ (o : Order) : Bool := !isLocal s || o.stage == .staged
  let s := forEach (idsWhere s (fun o => (open_ o || o.stage == .closing) && preemptDue s o)) preempt s
  let s := if isLocal s then s
    else forEach (idsWhere s (endDue s)) endIfDue s
  let s := forEach (idsWhere s (fun o => open_ o && expiryDue s o)) (conclude · .expired) s
  forEach (idsWhere s (fun o => o.stage == .poised)) (fun id => emit (.advance id)) s

/-! ### The hall time (R45 to R51) -/

/-- Offer a CLOCK report (R46, R48). -/
def clockReport (previous : ClockState) (cause : ClockCause) (step : Option Int) (s : State) : State :=
  offerReport (.clock { new := s.clock.state, previous := previous, time := s.clock.time, cause := cause, step := step }) s

/-- A setting is applied: the step against the value that the boundary would have given, the CLOCK report (R48). -/
def applySetting (value : Nat) (st : ClockState) (natural : Option Nat) (s : State) : State :=
  let previous := s.clock.state
  let v := value % Config.hallModulus
  s.onClock (fun c => { c with time := some v, state := st, setting := none })
  |> clockReport previous .timeSet (natural.map (fun t => (v : Int) - (t : Int)))

/-- What a change of the hall time brings to banks and staging: activation, the beginning of AUTO, catch-up after a
forward step, and the minute boundary (R39, R45, R50, R56, R62). A setting brings a minute boundary where the hall time it has been
applied as is a multiple of 60 (log 53). -/
def timeFollows (wasAuto : Bool) (natural : Option Nat) (s : State) : State :=
  let s := activateBanks s
  let s := if isAuto s && !wasAuto then beginAuto (hallReport .clock s)
    else if wasAuto && decide (natural.getD (now s) < now s) then catchUp s
    else s
  if s.clock.time.isSome && now s % 60 == 0 then
    let s := dropTest s
    let s := if isAuto s then stagingScan (retries s) else s
    recomputePrepare s
  else s

/-- Hall time after one more second. -/
def nextTime (s : State) : Option Nat := s.clock.time.map (fun t => (t + 1) % Config.hallModulus)

/-- A second boundary (R45): the timers, the hall time by `clock`, and all that follows from it. The orders' instants are compared
with the new hall time at this very boundary, also where it applies a time setting (R49, R80; log 84). -/
def secondBoundary (clock : Option Nat → State → State) (s : State) : State :=
  let wasAuto := isAuto s
  let natural := nextTime s
  tickTimers s |> clock natural |> countOccupancy |> timeFollows wasAuto natural |> orderInstants

/-- The hall time advances by one. -/
def advanceTime (natural : Option Nat) : State → State := State.onClock (fun c => { c with time := natural })

/-- The set window of a pending setting has closed at a Time Mark (R47, R48; log 7). -/
def windowShut (p : PendingSetting) (closed : Bool) : Bool :=
  decide (3 ≤ p.boundaries) || (p.boundaries == 2 && closed)

/-- The clock at a Time Mark: a pending setting is applied, or the hall time takes the value given and HOLDOVER ends (R46,
R48). -/
def clockAtMark (closed : Bool) (value : Option Nat) (s : State) : State :=
  match s.clock.setting with
  | some p => applySetting (if windowShut p closed then p.value + 2 else p.value) .valid value s
  | none =>
    let s := advanceTime value s
    if s.clock.state = .holdover then
      s.onClock (fun c => { c with state := .valid }) |> clockReport .holdover .mark none
    else s

/-- The clock at an internal second boundary (R45, R48). -/
def clockAtInternal (value : Option Nat) (s : State) : State :=
  match s.clock.setting with
  | some p =>
    if 2 ≤ p.boundaries then applySetting (p.value + 2) .holdover value s
    else advanceTime value s |> State.onClock (fun c => { c with setting := some { p with boundaries := p.boundaries + 1 } })
  | none => advanceTime value s

end Sys2Proof.Machine
end

