-- ==== Sys2Proof/Machine/ClockEvents.lean ====
section
/-! DEFINITION. The Hall Clock's events (03): TIME_MARK, INTERNAL_SECOND_BOUNDARY, MARK_WATCH_EXPIRY. -/

namespace Sys2Proof.Machine

/-- Every Time Mark restarts the internal timebase and the mark watch (R45, R46). -/
def restartWatch : State → State := State.onClock (fun c => { c with watch := 3 })

/-- A mark in the half second after an internal second boundary re-phases the timebase and does not advance the hall time;
it may give a pending setting its value (R45, R46, R48). It is no second boundary, so a further mark of that half second does
the same. A setting it applies at a multiple of 60 brings a minute boundary, also at a step of 0 (log 64). -/
def rephase (closed : Bool) (s : State) : State :=
  let wasAuto := isAuto s
  let pending := s.clock.setting.isSome
  let natural := s.clock.time
  let s := clockAtMark closed natural (restartWatch s)
  if pending then timeFollows wasAuto natural s else s

/-- A Time Mark (R45, R46, R48). -/
def timeMark (early closed : Bool) (s : State) : State :=
  if early && s.clock.lastInternal then rephase closed s
  else secondBoundary (clockAtMark closed) (restartWatch s |> State.onClock (fun c => { c with lastInternal := false }))

def execTimeMark (early windowClosed : Bool) (s : State) : Out := event (timeMark early windowClosed) s

/-- An internal second boundary (R45): the mark watch runs on. -/
def internalBoundary (s : State) : State :=
  secondBoundary clockAtInternal (s.onClock (fun c => { c with watch := c.watch - 1, lastInternal := true }))

def execInternalSecondBoundary (s : State) : Out := event internalBoundary s

/-- The mark watch runs out of a VALID clock (R46). -/
def watchRunsOut (s : State) : State :=
  if s.clock.state = .valid && s.clock.watch = 0 then
    s.onClock (fun c => { c with state := .holdover }) |> clockReport .valid .markWatch none
  else s

def execMarkWatchExpiry (s : State) : Out := event watchRunsOut s

end Sys2Proof.Machine
end

