-- ==== Sys2Proof/Machine/HallRequests.lean ====
section
/-! DEFINITION. The requests on the Hall Description and the Field Line (01, 08): TX_DEFINE, TX_READ, ANT_DEFINE, ANT_READ,
HALL_SET, HALL_READ, LINE_SET, LINE_READ. -/

namespace Sys2Proof.Machine

/-- The number of the first item that fails its range check, if one does. -/
def firstBad : List (Nat × Bool) → Option Nat
  | [] => none
  | (k, ok) :: more => if ok then firstBad more else some k

/-- Refuse with BAD-FIELD, naming a field by its number. -/
def badField (k : Nat) : Answer := refuse .badField (.field k 0 0)

/-- Every stored entry that fails a test, bank A first, each bank ascending (R5, R11). -/
def failingEntry (s : State) (bad : Entry → Bool) : Option (BankId × Nat) :=
  match s.banks.a.entries.find? bad with
  | some e => some (.a, e.number)
  | none => (s.banks.b.entries.find? bad).map (fun e => (.b, e.number))

/-- The defined transmitters but one. -/
def otherTx (s : State) (n : Nat) : List TxRec := (upTo 16).filterMap (fun k => if k = n then none else txRec? s k)

/-- The ARU addresses of the defined SLEWABLE antennas but one (R4, R10). -/
def aruAddrs (s : State) (a : Nat) : List Nat :=
  (upTo 32).filterMap (fun k => if k = a then none else (rotatorPart? s k).map (·.aru))

/-! ### TX_DEFINE (R2 to R7) -/

/-- The fields of a TX-DEFINE against their ranges, by field number (R3). -/
def txRanges (f : TxFields) : List (Nat × Bool) :=
  [(2, reqWithin 1 63 f.tlu), (3, reqWithin 1 63 f.mdu),
   (4, f.low.isSome && f.low.all freqOk), (5, f.high.isSome && f.high.all freqOk),
   (6, reqWithin 100 5000 f.rated), (7, reqWithin 1 7 f.modes), (8, optWithin 1 16 f.standby),
   (9, optWithin 30 600 f.warmUp), (10, optWithin 5 60 f.presetEst), (11, optWithin 20 300 f.searchEst),
   (12, optWithin 2 60 f.ramp), (13, optWithin 10 500 f.searchPower)]

/-- The record that a TX-DEFINE gives, with its defaults (R2). -/
def txRecord (f : TxFields) (inhibited : Bool) : TxRec where
  tlu := f.tlu.getD 0
  mdu := f.mdu.getD 0
  low := f.low.getD 0
  high := f.high.getD 0
  rated := f.rated.getD 0
  modes := ModeSet.ofMask (f.modes.getD 0)
  standby := f.standby
  warmUp := f.warmUp.getD 180
  presetEst := f.presetEst.getD 12
  searchEst := f.searchEst.getD 60
  ramp := f.ramp.getD 10
  searchPower := f.searchPower.getD 100
  inhibited := inhibited

/-- The consistency check of a defined record (R4): the field at fault. -/
def txInconsistent (s : State) (n : Nat) (r : TxRec) : Option Nat :=
  let taken := (otherTx s n).flatMap (fun t => [t.tlu, t.mdu]) ++ aruAddrs s 0
  firstBad
    [(5, decide (r.low ≤ r.high)),
     (8, r.standby != some n && r.standby.all (fun k => (txRec? s k).isSome)),
     (13, s.hall.loads.all (fun l => decide (r.searchPower ≤ l))),
     (2, !taken.contains r.tlu && r.tlu != r.mdu),
     (3, !taken.contains r.mdu)]

/-- Bind and unbind the addresses of a transmitter whose record changes (R7): every old address first. The TLU is bound before the
MDU, so that a silent line begins its scan at the TLU (R173; log 98). -/
def rebindTx (n : Nat) (old new : Option TxRec) (s : State) : State :=
  let tlu := old.map (·.tlu) != new.map (·.tlu)
  let mdu := old.map (·.mdu) != new.map (·.mdu)
  let s := match old with
    | some r =>
      let s := if tlu then unbindUnit r.tlu s else s
      if mdu then unbindUnit r.mdu s else s
    | none => s
  let s := if tlu then updTx n (fun x => { x with telemetry := none, tuned := none }) (goOffline n s) else s
  match new with
  | some r =>
    let s := if tlu then bindUnit r.tlu .tlu n s else s
    if mdu then bindUnit r.mdu .mdu n s else s
  | none => s

/-- The effects of an accepted definition (R7). -/
def defineTx (n : Nat) (r : TxRec) (s : State) : State :=
  let old := txRec? s n
  updTxRec n (fun _ => some r) s |> rebindTx n old (some r)
  |> updTx n (fun x => { x with memory := x.memory.map (Option.filter (fun p => within r.low r.high p.freq)) })

/-- The effects of an accepted removal (R7). A movement request queued for the row stays in the queue (log 87). -/
def removeTx (n : Nat) (s : State) : State :=
  let old := txRec? s n
  if old.isNone then s
  else
    updTxRec n (fun _ => none) s |> rebindTx n old none
    |> updTx n (fun x => { x.to .offline with memory := List.replicate 64 none })
    |> setFactor n 1000 none none .reset |> updProt n (fun p => { p with trips := [] })

/-- A movement is in flight on the row (R6). -/
def rowMoving (s : State) (n : Nat) : Bool := !(rowWhere s n XpState.inFlight).isEmpty

def execTxDefine (tag n defined : Nat) (f : TxFields) (s : State) : Out :=
  request 0x01 tag (fun s =>
    checks
      [(storeBusy s, .busy, .none), (!within 1 16 n, .badField, .none),
       (!within 1 2 defined, .badField, .field 1 0 0)]
      (let live := !(ordersOf s n).isEmpty
       if defined = 1 then
         match firstBad (txRanges f) with
         | some k => badField k
         | none =>
           let old := txRec? s n
           let r := txRecord f ((old.map (·.inhibited)).getD false)
           match txInconsistent s n r,
               failingEntry s (fun e => e.tx == n && (!within r.low r.high e.freq || !ModeSet.has r.modes e.mode)) with
           | some k, _ => refuse .inconsistent (.field k 0 0)
           | none, some (b, k) => refuse .inconsistent (.entry b k)
           | none, none =>
             checks [(live || (old.any (fun o => o.mdu != r.mdu) && rowMoving s n), .busy, .none)] (accept (defineTx n r s))
       else
         checks [((otherTx s n).any (fun r => r.standby == some n), .inconsistent, .field 1 0 0)]
           (match failingEntry s (fun e => e.tx == n) with
            | some (b, k) => refuse .inconsistent (.entry b k)
            | none => checks [(live || rowMoving s n, .busy, .none)] (accept (removeTx n s))))) s

def execTxRead (tag n : Nat) (s : State) : Out :=
  readRequest 0x02 tag (fun s => if within 1 16 n then .ok (.txRec (txRec? s n)) else .error (.badField, .none)) s

/-! ### ANT_DEFINE (R10 to R13) -/

/-- The segments of an ANT-DEFINE against their ranges, in the order given (R10): field, sub-field, position. -/
def segmentFault : Nat → List Segment → Option (Nat × Nat × Nat)
  | _, [] => none
  | k, g :: more =>
    if !freqOk g.low then some (3, 1, k)
    else if !freqOk g.high then some (3, 2, k)
    else if !within 1 65000 g.rating then some (3, 3, k)
    else segmentFault (k + 1) more

/-- The rotator fields against their ranges (R10). -/
def rotatorFault (r : RotatorFields) : Option Nat :=
  firstBad [(1, within 1 63 r.aru), (2, optWithin 1 2 r.continuous), (3, optWithin 0 359 r.stopLow),
            (4, optWithin 0 359 r.stopHigh), (5, within 5 50 r.rate)]

/-- The range check of an ANT-DEFINE in field order (R10). -/
def antRangeFault (f : AntFields) : Option (Nat × Nat × Nat) :=
  if !reqWithin 1 2 f.kind then some (2, 0, 0)
  else if !within 1 4 f.segments.length then some (3, 0, 0)
  else match segmentFault 1 f.segments with
    | some x => some x
    | none =>
      if !optWithin 10 300 f.warn then some (4, 0, 0)
      else if !optWithin 20 500 f.trip then some (5, 0, 0)
      else (f.rotator.bind rotatorFault).map (fun k => (6, k, 0))

/-- A segment whose low lies above its high: its position (R10). -/
def reversedSegment : Nat → List Segment → Option Nat
  | _, [] => none
  | k, g :: more => if g.high < g.low then some k else reversedSegment (k + 1) more

/-- A segment that covers a frequency of an earlier one: its position (R10). -/
def overlappingSegment : Nat → List Segment → List Segment → Option Nat
  | _, _, [] => none
  | k, seen, g :: more =>
    if seen.any (fun h => decide (h.low ≤ g.high) && decide (g.low ≤ h.high)) then some k
    else overlappingSegment (k + 1) (seen ++ [g]) more

/-- The consistency check of an ANT-DEFINE (R10): field, sub-field, position. -/
def antInconsistent (s : State) (a : Nat) (f : AntFields) : Option (Nat × Nat × Nat) :=
  let slewable := f.kind == some 2
  match reversedSegment 1 f.segments, overlappingSegment 1 [] f.segments with
  | some k, _ => some (3, 1, k)
  | none, some k => some (3, 1, k)
  | none, none =>
    if f.trip.getD 110 ≤ f.warn.getD 40 + 9 then some (5, 0, 0)
    else match f.rotator with
      | none => if slewable then some (6, 0, 0) else none
      | some r =>
        if !slewable then some (6, 0, 0)
        else if r.continuous = some 1 then
          if r.stopLow.isSome || r.stopHigh.isSome then some (6, 3, 0)
          else if ((otherTx s 0).flatMap (fun t => [t.tlu, t.mdu]) ++ aruAddrs s a).contains r.aru then some (6, 1, 0)
          else none
        else match r.stopLow, r.stopHigh with
          | none, _ => some (6, 3, 0)
          | some _, none => some (6, 4, 0)
          | some lo, some hi =>
            if hi ≤ lo then some (6, 4, 0)
            else if ((otherTx s 0).flatMap (fun t => [t.tlu, t.mdu]) ++ aruAddrs s a).contains r.aru then some (6, 1, 0)
            else none

/-- Put a segment at its place by low frequency (R8). -/
def insertSegment (g : Segment) : List Segment → List Segment
  | [] => [g]
  | h :: l => if g.low ≤ h.low then g :: h :: l else h :: insertSegment g l

/-- The record that an ANT-DEFINE gives, with its defaults (R8, R10). -/
def antRecord (f : AntFields) : AntRec where
  kind := if f.kind = some 2 then .slewable else .fixed
  segments := f.segments.foldr insertSegment []
  warn := f.warn.getD 40
  trip := f.trip.getD 110
  rotator := f.rotator.map (fun r =>
    { aru := r.aru, continuous := decide (r.continuous = some 1), stopLow := r.stopLow, stopHigh := r.stopHigh, rate := r.rate })

/-- An entry fails against a new antenna record (R11). -/
def entryFailsAnt (a : Nat) (r : AntRec) (e : Entry) : Bool :=
  (e.primary == a || e.alternate == some a) &&
  (r.ratingAt e.freq == 0 ||
   (e.primary == a && r.kind == .slewable && e.azimuth.isNone) ||
   (match r.rotator, e.azimuth with
    | some p, some az => !p.reaches az
    | _, _ => false))

/-- A change that a slew in progress forbids (R11). -/
def rotatorChanges (old new : Option RotatorPart) : Bool :=
  match old, new with
  | some p, some q =>
    p.aru != q.aru || p.continuous != q.continuous || p.stopLow != q.stopLow || p.stopHigh != q.stopHigh
  | some _, none => true
  | _, _ => false

/-- The use of an antenna refuses an ANT-DEFINE (R11). -/
def antBusy (s : State) (a : Nat) (new : Option RotatorPart) : Bool :=
  let d := dirRec s a
  d.state == .reserved || d.state == .assigned || s.chg.orders.any (fun o => o.antenna == some a) ||
  !d.waiting.isEmpty ||
  ((rotator? s a).any (fun r => r.slew == .slewing) && rotatorChanges (rotatorPart? s a) new)

/-- The rotator record and the ARU binding of a redefined antenna (R9, R12). A changed ARU address clears the azimuth and
keeps the slew state and the target; the moving and fault indications stay as the old unit gave them (log 57). -/
def rebindAnt (a : Nat) (old new : Option RotatorPart) (s : State) : State :=
  let changed := old.map (·.aru) != new.map (·.aru)
  let s := match old with
    | some p => if changed then unbindUnit p.aru s else s
    | none => s
  match old, new with
  | none, some q => setRotatorRecord a (some {}) s |> bindUnit q.aru .aru a
  | some _, none => setRotatorRecord a none s
  | some _, some q =>
    if changed then updRotator a (fun r => { r with azimuth := none }) s |> bindUnit q.aru .aru a else s
  | none, none => s

/-- The effects of an accepted definition (R12). -/
def defineAnt (a : Nat) (r : AntRec) (s : State) : State :=
  let old := rotatorPart? s a
  updAntRec a (fun _ => some r) s |> rebindAnt a old r.rotator

/-- The effects of an accepted removal (R12). The flags are cleared, with an ANTENNA report, also where the antenna was
undefined already (log 58). -/
def removeAnt (a : Nat) (s : State) : State :=
  let old := rotatorPart? s a
  let d := dirRec s a
  let s := updAntRec a (fun _ => none) s |> rebindAnt a old none
  if d.inhibited || d.suspect then
    updDir a (fun e => { e with inhibited := false, suspect := false }) s |> antReport a .definition
  else s

/-- ANT-DEFINE of a load (R13). A rating below a search power is refused with a detail of zeros: the load's one field has no number
(log 96). -/
def defineLoad (a defined : Nat) (f : AntFields) (s : State) : Answer :=
  let rating := f.rating.getD 0
  let d := dirRec s a
  checks
    [(defined != 1, .badField, .field 1 0 0),
     (!reqWithin 100 1000 f.rating || f.kind.isSome || !f.segments.isEmpty || f.warn.isSome || f.trip.isSome ||
        f.rotator.isSome, .badField, .none),
     ((otherTx s 0).any (fun r => decide (rating < r.searchPower)), .inconsistent, .none),
     (d.state == .reserved || d.state == .assigned, .busy, .none)]
    (accept (s.onHall (fun h => { h with loads := updNth h.loads (a - 32) (fun _ => rating) })))

def execAntDefine (tag a defined : Nat) (f : AntFields) (s : State) : Out :=
  request 0x03 tag (fun s =>
    checks [(storeBusy s, .busy, .none), (!within 1 34 a, .badField, .none)]
      (if 33 ≤ a then defineLoad a defined f s
       else checks [(!within 1 2 defined, .badField, .field 1 0 0)]
         (if defined = 1 then
            match antRangeFault f, antInconsistent s a f,
                failingEntry s (entryFailsAnt a (antRecord f)) with
            | some (x, y, z), _, _ => refuse .badField (.field x y z)
            | none, some (x, y, z), _ => refuse .inconsistent (.field x y z)
            | none, none, some (b, k) => refuse .inconsistent (.entry b k)
            | none, none, none =>
              checks [(antBusy s a (antRecord f).rotator, .busy, .none)] (accept (defineAnt a (antRecord f) s))
          else match failingEntry s (fun e => e.primary == a || e.alternate == some a) with
            | some (b, k) => refuse .inconsistent (.entry b k)
            | none => checks [(antBusy s a none, .busy, .none)] (accept (removeAnt a s))))) s

def execAntRead (tag a : Nat) (s : State) : Out :=
  readRequest 0x04 tag (fun s =>
    if !within 1 34 a then .error (.badField, .none)
    else if 33 ≤ a then .ok (.loadRating (loadRating s a))
    else .ok (.antRec (antRec? s a))) s

/-! ### HALL_SET and HALL_READ (R14, R15, R17) -/

/-- The parameters against their ranges, by number (R14). -/
def hallRanges (f : HallFields) : List (Nat × Bool) :=
  [(1, optWithin 5 60 f.lookAhead), (2, optWithin 0 120 f.leadMargin), (3, optWithin 1 20 f.moveEst),
   (4, optWithin 1 6 f.credits), (5, optWithin 1 10 f.proveTime), (6, optWithin 2 10 f.offConfirm),
   (7, optWithin 1 10 f.recovery), (8, optWithin 10 300 f.tripWindow), (9, optWithin 1 5 f.tripLimit),
   (10, optWithin 0 240 f.coolHold), (11, optWithin 2 60 f.blindHold), (12, optWithin 1 10 f.cutoff),
   (13, optWithin 1000 1000000 f.opLife)]

/-- The parameters that a HALL-SET gives: one absent keeps its value (R14). -/
def HallParams.set (p : HallParams) (f : HallFields) : HallParams where
  lookAhead := f.lookAhead.getD p.lookAhead
  leadMargin := f.leadMargin.getD p.leadMargin
  moveEst := f.moveEst.getD p.moveEst
  credits := f.credits.getD p.credits
  proveTime := f.proveTime.getD p.proveTime
  offConfirm := f.offConfirm.getD p.offConfirm
  recovery := f.recovery.getD p.recovery
  tripWindow := f.tripWindow.getD p.tripWindow
  tripLimit := f.tripLimit.getD p.tripLimit
  coolHold := f.coolHold.getD p.coolHold
  blindHold := f.blindHold.getD p.blindHold
  cutoff := f.cutoff.getD p.cutoff
  opLife := f.opLife.getD p.opLife

/-- The request carries no parameter. -/
def HallFields.empty (f : HallFields) : Bool := decide (f = {})

/-- A lowered operation life cuts the counts above it (R15). -/
def cutCounts (life : Nat) : State → State :=
  State.onMx (fun m => { m with rows := m.rows.map (List.map (fun x => { x with remaining := min x.remaining life })) })

def execHallSet (tag : Nat) (f : HallFields) (s : State) : Out :=
  request 0x05 tag (fun s =>
    checks [(storeBusy s, .busy, .none)]
      (match firstBad (hallRanges f) with
       | some k => badField k
       | none =>
         checks [(HallFields.empty f, .badLength, .none), (f.credits.isSome && !s.mx.movements.isEmpty, .busy, .none)]
           (let p := HallParams.set s.hall.par f
            let t := s.onHall (fun h => { h with par := p })
            accept (if p.opLife < s.hall.par.opLife then cutCounts p.opLife t else t)))) s

def execHallRead (tag : Nat) (s : State) : Out :=
  readRequest 0x06 tag (fun s => .ok (.hallParams s.hall.par)) s

/-! ### LINE_SET and LINE_READ (R169, R179) -/

def execLineSet (tag : Nat) (rate window : Option Nat) (s : State) : Out :=
  request 0x07 tag (fun s =>
    checks
      [(!optWithin 0 4 rate, .badField, .field 1 0 0), (!optWithin 5 100 window, .badField, .field 2 0 0),
       (rate.isNone && window.isNone, .badLength, .none), (storeBusy s, .busy, .none)]
      (accept (s.onLine (fun l => { l with rate := rate.getD l.rate, window := window.getD l.window }))
        (fun t => .lineSettings t.line.rate t.line.window))) s

def execLineRead (tag : Nat) (s : State) : Out :=
  readRequest 0x08 tag (fun s =>
    .ok (.lineState s.line.rate s.line.window
      (((upTo 63).zip s.line.units).filter (fun x => x.2.state != .unbound)) s.line.txn s.line.queue s.line.heldBack)) s

end Sys2Proof.Machine
end

