-- ==== Sys2Proof/Machine/BankRequests.lean ====
section
/-! DEFINITION. The requests on the Schedule Banks (02): BANK_HEADER, ENTRY_PUT, ENTRY_DELETE, ENTRY_READ, ENTRY_SUSPEND,
BANK_CLEAR, BANK_ARM, BANK_DISARM, BANK_STATUS. -/

namespace Sys2Proof.Machine

/-- An ARMED or ACTIVE bank refuses an edit (R20, R22, R30, R31). -/
def frozen (s : State) (k : BankId) : List (Bool × Status × Detail) :=
  [((bankOf s k).state == .armed, .armed, .none), ((bankOf s k).state == .active, .activeBank, .none)]

/-- Do as the bank named tells; a bank other than A or B is refused with BAD-FIELD, naming 0 (R183). -/
def withBank (code : Nat) (f : BankId → Answer) : Answer :=
  match BankId.ofCode code with
  | some k => f k
  | none => refuse .badField (.field 0 0 0)

/-! ### BANK_HEADER (R20) -/

/-- The lowest-numbered entry that conflicts with another under a header (R20). -/
def headerConflict (h : Option Header) (l : List Entry) : Option Nat :=
  (l.find? (fun x => l.any (fun y => y.number != x.number && entriesConflict h x y))).map (·.number)

/-- A date is absent or no calendar date. -/
def badDate (d : Option Date) : Bool := !(d.any Date.valid)

def execBankHeader (tag bank : Nat) (season : Option Nat) (vf vt : Option Date) (s : State) : Out :=
  request 0x10 tag (fun s => withBank bank (fun k =>
    let from_ := (vf.map Date.toDay).getD 0
    let till := (vt.map Date.toDay).getD 0
    let season := season.getD 65536
    let h : Header := { season := season, validFrom := from_, validTo := till }
    checks
      ([(!within 0 65535 season, .badField, .none), (badDate vf, .badField, .none), (badDate vt, .badField, .none),
        (storeBusy s, .busy, .none)] ++ frozen s k ++ [(decide (till < from_), .inconsistent, .none)])
      (match headerConflict (some h) (bankOf s k).entries with
       | some e => refuse .conflict (.number e)
       | none => accept (updBank k (fun x => { x with header := some h, state := .loaded }) s)))) s

/-! ### ENTRY_PUT (R22 to R25) -/

/-- An optional date is absent or a calendar date. -/
def optDate (d : Option Date) : Bool := d.all Date.valid

/-- The nine snapshot items against their ranges, by the field numbers of R21 (R23, R90). -/
def snapRanges (service tx freq primary : Nat) (alternate azimuth : Option Nat) (power mode priority : Nat) :
    List (Nat × Bool) :=
  [(2, within 1 65535 service), (6, within 1 16 tx), (7, freqOk freq), (8, within 1 32 primary),
   (9, optWithin 1 32 alternate), (10, optWithin 0 359 azimuth), (11, within 10 65000 power), (12, within 1 3 mode),
   (13, within 1 3 priority)]

/-- The fields of an ENTRY-PUT against their ranges, by field number (R21, R23). A SUSPENDED byte above 1 is out of range
(log 70). -/
def entryRanges (f : EntryFields) : List (Nat × Bool) :=
  [(1, within 1 400 f.number), (2, within 1 65535 f.service), (3, within 1 127 f.days), (4, within 0 1439 f.start),
   (5, within 5 1440 f.duration), (6, within 1 16 f.tx), (7, freqOk f.freq), (8, within 1 32 f.primary),
   (9, optWithin 1 32 f.alternate), (10, optWithin 0 359 f.azimuth), (11, within 10 65000 f.power),
   (12, within 1 3 f.mode), (13, within 1 3 f.priority), (14, optDate f.validFrom), (15, optDate f.validTo),
   (16, within 0 1 f.suspended)]

/-- Conditions 1 to 7 of R24 on a programme: the field at fault. -/
def programmeFault (s : State) (p : Snapshot) : Option Nat :=
  match txRec? s p.tx with
  | none => some 6
  | some r =>
    let alternate := p.alternate.filter (· != p.primary)
    let outside (a : Nat) (az : Nat) : Bool := match rotatorPart? s a with
      | some k => !k.reaches az
      | none => false
    firstBad
      [(7, within r.low r.high p.freq), (8, segmentRating s p.primary p.freq != 0),
       (9, alternate.all (fun a => segmentRating s a p.freq != 0)),
       (10, (rotatorPart? s p.primary).isNone || p.azimuth.isSome),
       (10, p.azimuth.all (fun az => !outside p.primary az && alternate.all (fun a => !outside a az))),
       (12, ModeSet.has r.modes p.mode)]

/-- The entry that a put stores (R25). -/
def entryRecord (f : EntryFields) : Entry where
  number := f.number
  service := f.service
  days := BitVec.ofNat 7 f.days
  start := f.start
  duration := f.duration
  tx := f.tx
  freq := f.freq
  primary := f.primary
  alternate := f.alternate.filter (· != f.primary)
  azimuth := f.azimuth
  power := f.power
  mode := (Mode.ofCode f.mode).getD .am
  priority := (Priority.ofCode f.priority).getD .fill
  validFrom := f.validFrom.map Date.toDay
  validTo := f.validTo.map Date.toDay
  suspended := decide (f.suspended = 1)

/-- Put an entry at its number, ascending, in place of one that holds it (R25). -/
def putEntry (e : Entry) : List Entry → List Entry
  | [] => [e]
  | x :: l => if e.number < x.number then e :: x :: l
    else if e.number = x.number then e :: l
    else x :: putEntry e l

/-- The lowest-numbered other entry that conflicts (R29). -/
def putConflict (h : Option Header) (e : Entry) (l : List Entry) : Option Nat :=
  (l.find? (fun x => x.number != e.number && entriesConflict h e x)).map (·.number)

def execEntryPut (tag : Nat) (f : EntryFields) (s : State) : Out :=
  request 0x11 tag (fun s => withBank f.bank (fun k =>
    match firstBad (entryRanges f) with
    | some i => badField i
    | none =>
      let e := entryRecord f
      checks ((storeBusy s, .busy, .none) :: frozen s k)
        (match programmeFault s { e.snapshot with alternate := f.alternate } with
         | some i => refuse .inconsistent (.field i 0 0)
         | none =>
           checks [(e.validFrom.any (fun a => e.validTo.any (fun z => decide (z < a))), .inconsistent, .field 15 0 0)]
             (match putConflict (bankOf s k).header e (bankOf s k).entries with
              | some i => refuse .conflict (.number i)
              | none => accept (updBank k (fun x => { x with entries := putEntry e x.entries, state := .loaded }) s))))) s

/-! ### ENTRY_DELETE, ENTRY_READ, BANK_CLEAR (R30 to R32) -/

def execEntryDelete (tag bank number : Nat) (s : State) : Out :=
  request 0x12 tag (fun s => withBank bank (fun k =>
    checks
      ([(!within 1 400 number, .badField, .none), (storeBusy s, .busy, .none)] ++ frozen s k ++
       [(!(bankOf s k).entries.any (fun e => e.number == number), .notFound, .none)])
      (accept (updBank k (fun x => { x with entries := x.entries.filter (fun e => e.number != number) }) s)))) s

def execEntryRead (tag bank number selector : Nat) (s : State) : Out :=
  readRequest 0x13 tag (fun s =>
    match BankId.ofCode bank with
    | none => .error (.badField, .field 0 0 0)
    | some k =>
      if !within 1 400 number || !within 1 2 selector then .error (.badField, .none)
      else match (bankOf s k).entries.find? (fun e => if selector = 1 then e.number == number else decide (number ≤ e.number)) with
        | some e => .ok (.entry e)
        | none => .error (.notFound, .none)) s

def execBankClear (tag bank : Nat) (s : State) : Out :=
  request 0x15 tag (fun s => withBank bank (fun k =>
    checks ((storeBusy s, .busy, .none) :: frozen s k)
      (accept (updBank k (fun x => { x with entries := [], header := none, state := .empty }) s)))) s

/-! ### ENTRY_SUSPEND (R34 to R36) -/

/-- An entry is suspended: its STAGED orders are WITHDRAWN and its deferred occurrences dropped (R35). -/
def suspendEntry (k : BankId) (number : Nat) (s : State) : State :=
  let mine (o : Order) : Bool := o.stage == .staged && (match o.origin with
    | .schedule b e _ => b == k && e == number
    | .manual => false)
  let gone := s.staging.deferred.filter (fun d => d.bank == k && d.entry == number)
  forEach (idsWhere s mine) (fun id => finishOrder id .withdrawn) s
  |> State.onStaging (fun g => { g with deferred := g.deferred.filter (fun d => !(d.bank == k && d.entry == number)) })
  |> forEach gone (fun d => stagingReport d.bank d.entry d.start .droppedSuspended)

/-- An entry is resumed: its occurrences up to the staged-through instant are staged at once (R36). -/
def resumeEntry (k : BankId) (e : Entry) (s : State) : State :=
  match s.clock.time, s.staging.through with
  | some h, some through =>
    let st := (bankOf s k).state
    if st = .armed || st = .active then
      let days := (List.range (hallDay through + 1 - hallDay (h + 60))).map (· + hallDay (h + 60))
      let starts := (days.filter (occursOn (bankOf s k).header e)).map (occurrenceStart e)
      forEach (starts.filter (fun t => decide (h + 60 ≤ t) && decide (t ≤ through) && bankInForce s t == some k))
        (fun t => stageUnlessLive (occurrence k e t)) s
    else s
  | _, _ => s

/-- One position of an ENTRY-SUSPEND (R34). -/
def suspendOne (k : BankId) (action number : Nat) (s : State) : State :=
  match (bankOf s k).entries.find? (fun e => e.number == number) with
  | none => s
  | some e =>
    let v := applyAction action e.suspended
    if v = e.suspended then s
    else
      let s := updBank k (fun x => { x with entries := x.entries.map (fun y =>
        if y.number = number then { y with suspended := v } else y) }) s
      if v then suspendEntry k number s else resumeEntry k { e with suspended := false } s

/-- SUSPENDED at each of the 32 numbers of a request; an empty number shows as clear (R34). -/
def suspensions (k : BankId) (base : Nat) (s : State) : List Bool :=
  (List.range 32).map (fun i => (bankOf s k).entries.any (fun e => e.number == base + i && e.suspended))

def execEntrySuspend (tag bank base mask action : Nat) (s : State) : Out :=
  request 0x14 tag (fun s => withBank bank (fun k =>
    checks
      [(!within 1 400 base, .badField, .none), (decide (4294967296 ≤ mask), .badField, .none),
       ((List.range 32).any (fun i => maskBit mask i && decide (400 < base + i)), .badField, .none),
       (!within 1 3 action, .badField, .none), (storeBusy s, .busy, .none)]
      (accept (forEach ((List.range 32).filter (maskBit mask)) (fun i => suspendOne k action (base + i)) s)
        (fun t => .suspensions (suspensions k base t))))) s

/-! ### BANK_ARM, BANK_DISARM, BANK_STATUS (R33, R37, R38) -/

def execBankArm (tag bank instant : Nat) (s : State) : Out :=
  request 0x16 tag (fun s => withBank bank (fun k =>
    let x := bankOf s k
    checks
      [(instant % 60 != 0 || decide (Config.hallModulus ≤ instant), .badField, .none), (storeBusy s, .busy, .none),
       (s.clock.time.isNone || x.state != .loaded || x.header.isNone, .notReady, .none),
       ((bankOf s k.other).state == .armed, .armed, .none),
       (x.header.any (fun h => decide (h.validTo < hallDay instant)), .inconsistent, .none),
       (decide (instant < now s + 60 * s.hall.par.lookAhead + 60) || s.staging.through.any (fun t => decide (instant ≤ t)),
         .tooSoon, .none)]
      (accept (updBank k (fun y => { y with state := .armed, activation := some instant }) s)))) s

def execBankDisarm (tag bank : Nat) (s : State) : Out :=
  request 0x17 tag (fun s => withBank bank (fun k =>
    let x := bankOf s k
    checks
      [(storeBusy s, .busy, .none), (x.state != .armed, .stateRefused, .none),
       (s.staging.through.any (fun t => x.activation.all (fun a => decide (a ≤ t))), .tooLate, .none)]
      (accept (updBank k (fun y => { y with state := .loaded, activation := none }) s)))) s

/-- What BANK-STATUS tells of one bank (R33). -/
def Bank.summary (x : Bank) : BankSummary where
  state := x.state
  header := x.header
  activation := x.activation
  occupied := x.entries.length
  suspended := (x.entries.filter (·.suspended)).length

def execBankStatus (tag : Nat) (s : State) : Out :=
  readRequest 0x18 tag (fun s =>
    .ok (.bankStatus s.banks.a.summary s.banks.b.summary (s.clock.time.bind (bankInForce s)))) s

end Sys2Proof.Machine
end

