-- ==== Sys2Proof/Machine/OrderRequests.lean ====
section
/-! DEFINITION. The requests on the clock and the orders (03, 04): TIME_SET, TIME_READ, AUTOMATION, ORDER_MANUAL,
ORDER_CANCEL, ORDER_ADVANCE, ORDER_LIST, ORDER_READ. -/

namespace Sys2Proof.Machine

/-! ### The clock (R47, R52, R55) -/

/-- The items of a TIME-SET against their ranges, in their order (R47). -/
def timeRanges (d : Date) (hour minute second : Nat) : List (Nat × Bool) :=
  [(1, within 2000 2099 d.year), (2, within 1 12 d.month), (3, Date.valid d), (4, within 0 23 hour),
   (5, within 0 59 minute), (6, within 0 59 second)]

def execTimeSet (tag : Nat) (d : Date) (hour minute second : Nat) (s : State) : Out :=
  request 0x20 tag (fun s =>
    match firstBad (timeRanges d hour minute second) with
    | some k => badField k
    | none =>
      let value := Date.toDay d * Config.daySeconds + hour * 3600 + minute * 60 + second
      accept (s.onClock (fun c => { c with setting := some { value := value, takenAt := c.time, boundaries := 0 } }))
        (fun t => .timeSet t.clock.state t.clock.time)) s

def execTimeRead (tag : Nat) (s : State) : Out :=
  readRequest 0x21 tag (fun s =>
    .ok (.timeRead { time := s.clock.time, state := s.clock.state, setting := s.clock.setting.map (·.value)
                     through := s.staging.through, enable := s.clock.enable, key := s.pins.key, auto := isAuto s
                     deferred := s.staging.deferred.length })) s

/-- The automation enable takes a value; a beginning or end of AUTO queues a HALL report (R54, R55). -/
def setEnable (v : Bool) (s : State) : State :=
  let was := isAuto s
  let s := s.onClock (fun c => { c with enable := v })
  autoFollows was (if isAuto s = was then s else hallReport .automation s)

def execAutomation (tag value : Nat) (s : State) : Out :=
  request 0x22 tag (fun s =>
    checks [(!within 1 2 value, .badField, .none)]
      (accept (setEnable (decide (value = 1)) s) (fun t => .automation t.clock.enable (isAuto t)))) s

/-! ### Orders (R66, R89 to R91) -/

/-- The snapshot that an ORDER-MANUAL gives (R90). -/
def manualSnapshot (f : ManualFields) : Snapshot where
  service := f.service
  tx := f.tx
  freq := f.freq
  primary := f.primary
  alternate := f.alternate.filter (· != f.primary)
  azimuth := f.azimuth
  power := f.power
  mode := (Mode.ofCode f.mode).getD .am
  priority := (Priority.ofCode f.priority).getD .fill

def execOrderManual (tag : Nat) (f : ManualFields) (s : State) : Out :=
  request 0x28 tag (fun s =>
    match firstBad (snapRanges f.service f.tx f.freq f.primary f.alternate f.azimuth f.power f.mode f.priority) with
    | some k => badField k
    | none =>
      let snap := manualSnapshot f
      let h := now s
      let start := f.start.getD h
      checks [(isLocal s, .locked, .none), (s.clock.time.isNone, .notReady, .none)]
        (match programmeFault s { snap with alternate := f.alternate } with
         | some k => refuse .inconsistent (.field k 0 0)
         | none =>
           checks
             [(decide (start < h), .tooLate, .none),
              (decide (f.ends ≤ start) || decide (h + 86400 < start) || decide (start + 86400 < f.ends),
                .inconsistent, .none),
              (decide (f.ends ≤ h + cutoffSecs s), .tooLate, .none)]
             (match admitOrder { origin := .manual, snap := snap, start := start, ends := f.ends } s with
              | (.admitted id, t) => accept t (fun u => .orderMade id (((order? u id).map (·.prepare)).getD 0))
              | (.unavailable _, _) => refuse .unavailable
              | (.conflict k, _) => refuse .conflict (.number k)
              | (.full, _) => refuse .full))) s

def execOrderCancel (tag id : Nat) (s : State) : Out :=
  request 0x29 tag (fun s =>
    checks [(!within 1 65535 id, .badField, .none)]
      (match order? s id with
       | none => refuse .notFound
       | some o =>
         checks [(o.stage == .closing, .stateRefused, .none), (isLocal s && o.stage != .staged, .locked, .none)]
           (accept (conclude id .cancelled s) (fun t =>
             match order? t id with
             | some p => .orderCancelled (some p.stage) none
             | none => .orderCancelled none (some .cancelled))))) s

/-- ORDER-ADVANCE (R66). The reply carries no stage where the order has failed at preparation begin and left the table
(log 67). -/
def execOrderAdvance (tag id : Nat) (s : State) : Out :=
  request 0x2A tag (fun s =>
    checks [(!within 1 65535 id, .badField, .none)]
      (match order? s id with
       | none => refuse .notFound
       | some o =>
         checks
           [(o.stage != .staged, .stateRefused, .none), (isLocal s, .locked, .none),
            (isScheduled o && !isAuto s, .stateRefused, .none),
            (!isFree s o.snap.tx id ||
              (ordersOf s o.snap.tx).any (fun p => p.id != id && p.stage == .staged && decide (p.start < o.start)),
              .busy, .none)]
           (accept (updOrder id (fun x => { x with prepare := now s }) s |> beginPreparation id)
             (fun t => .orderAdvanced o.prepare ((order? t id).map (·.stage)))))) s

/-- Put an order at its place by start and then id (R91). -/
def insertOrder (o : Order) : List Order → List Order
  | [] => [o]
  | p :: l => if o.start < p.start || (o.start = p.start && o.id < p.id) then o :: p :: l else p :: insertOrder o l

/-- Live orders in ascending order of start and then of id (R91, R94). -/
def sortedOrders (l : List Order) : List Order := l.foldr insertOrder []

def execOrderList (tag n : Nat) (s : State) : Out :=
  readRequest 0x2B tag (fun s =>
    if !within 0 16 n then .error (.badField, .none)
    else .ok (.orderList (sortedOrders (if n = 0 then s.chg.orders else ordersOf s n)))) s

/-- ORDER-READ (R91). The id is required, and 0 spells it as absent (R189). -/
def execOrderRead (tag id : Nat) (s : State) : Out :=
  readRequest 0x2C tag (fun s =>
    if id = 0 then .error (.badField, .none)
    else match order? s id with
      | some o => .ok (.orderRecord o)
      | none => .error (.notFound, .none)) s

end Sys2Proof.Machine
end

