-- ==== Sys2Proof/Machine/MatrixRequests.lean ====
section
/-! DEFINITION. The requests on the directory and the matrix (05): ANT_FLAGS, XP_CLEAR, XP_SERVICE, MATRIX_READ. -/

namespace Sys2Proof.Machine

/-! ### ANT_FLAGS (R105, R106) -/

/-- A cause that FAULTED holds persists (R105). -/
def faultPersists (s : State) (c : Nat) : Bool :=
  let d := dirRec s c
  let stuck := !(colWhere s c (· == .stuck)).isEmpty
  let turning := match rotator? s c, rotatorPart? s c with
    | some r, some p => (r.slew == .failed && (unitAt s p.aru).state != .alive) || r.fault || r.moving
    | _, _ => false
  (d.faultStuck && stuck) || (d.faultDouble && stuck) || (d.faultRotator && turning)

/-- Apply an action of ANT-FLAGS to one position; a change queues an ANTENNA report, and clearing FAULTED returns a FAILED
rotator to IDLE (R99, R106). -/
def flagOne (flag action c : Nat) (s : State) : State :=
  let d := dirRec s c
  let e : DirRec := match flag with
    | 1 => { d with inhibited := applyAction action d.inhibited }
    | 2 => { d with suspect := applyAction action d.suspect }
    | _ => { d with faultStuck := false, faultDouble := false, faultRotator := false }
  let s := if flag = 3 then
      updRotator c (fun r => if r.slew = .failed then { r with slew := .idle, target := none } else r) s
    else s
  if e = d then s else updDir c (fun _ => e) s |> antReport c .host

/-- The three flags of every position (R106). -/
def allFlags (s : State) : List FlagsReply :=
  s.dir.cols.map (fun d => { inhibited := d.inhibited, suspect := d.suspect, faulted := d.faulted })

def execAntFlags (tag flag action mask : Nat) (s : State) : Out :=
  request 0x30 tag (fun s =>
    let named := (upTo 34).filter (fun c => maskBit mask (c - 1))
    checks
      [(!within 1 3 flag || !within 1 3 action || decide (17179869184 ≤ mask) || (flag == 2 && action == 3) ||
          (flag == 3 && action != 2) || (flag == 2 && (maskBit mask 32 || maskBit mask 33)), .badField, .none),
       (storeBusy s, .busy, .none)]
      (match (if flag = 3 then named.find? (faultPersists s) else none) with
       | some c => refuse .stateRefused (.position c)
       | none => accept (forEach named (flagOne flag action) s |> emit .offerLoads) (fun t => .antFlags (allFlags t)))) s

/-! ### XP_CLEAR (R118) -/

/-- A declaration of CLOSED contradicts the row, the column or its claim (R118). -/
def closedContradicts (s : State) (r c : Nat) : Bool :=
  let d := dirRec s c
  !((rowWhere s r XpState.moving).filter (· != c)).isEmpty || !((colWhere s c XpState.moving).filter (· != r)).isEmpty ||
  (d.claiming.bind (rowOfOrder s)).any (· != r) || d.handover.isSome

/-- A column whose crosspoint has been declared CLOSED is ASSIGNED when its claiming order is on that row, and else PARKED (R118). -/
def settleDeclared (r c : Nat) (s : State) : State :=
  settleTo c (if (dirRec s c).claiming.bind (rowOfOrder s) = some r then .assigned else .parked, (lawOf s c).2) s

/-- The effects of an accepted XP-CLEAR (R118). -/
def clearXp (r c : Nat) (closed : Bool) (s : State) : State :=
  let old := (xpAt s r c).state
  let st : XpState := if closed then .closed else .opened
  let s := setXp r c st s |> returnCredit r c |> xpReport r c old st none .declared
  let s := if closed then settleDeclared r c s
    else if !(colWhere s c (· == .unknown)).isEmpty then settleColumn c s else columnOpened c false s
  sweepQueue r c s |> emit (.rowChanged r) |> offerWaiters c |> emit .offerLoads

def execXpClear (tag row col position : Nat) (s : State) : Out :=
  request 0x31 tag (fun s =>
    let st := (xpAt s row col).state
    checks
      [(!within 1 16 row || !within 1 34 col || !within 1 2 position, .badField, .none),
       (st != .stuck && st != .unknown, .stateRefused, .none),
       (position == 2 && closedContradicts s row col, .inconsistent, .none)]
      (accept (clearXp row col (decide (position = 2)) s))) s

/-! ### XP_SERVICE (R119) -/

/-- The service of one crosspoint (R119). -/
def serviceXp (r c : Nat) (s : State) : State :=
  let x := xpAt s r c
  let s := updXp r c (fun y => { y with remaining := s.hall.par.opLife, serviceDue := false }) s
  if x.serviceDue then xpReport r c x.state x.state none .serviced s else s

def execXpService (tag row col : Nat) (s : State) : Out :=
  request 0x32 tag (fun s =>
    checks [(!within 1 16 row || !within 0 34 col, .badField, .none), (storeBusy s, .busy, .none)]
      (accept (forEach (if col = 0 then upTo 34 else [col]) (serviceXp row) s))) s

/-! ### MATRIX_READ (R124) -/

/-- The movement of a row as the reply of ROW carries it, with the seconds left. -/
def Movement.shown (m : Movement) : MovementReply := { row := m.row, col := m.col, dir := m.dir, timer := m.timer }

/-- A movement as the reply of DRIVE carries it: its crosspoint and direction. -/
def Movement.place (m : Movement) : Nat × Nat × Direction := (m.row, m.col, m.dir)

def execMatrixRead (tag selector n : Nat) (s : State) : Out :=
  readRequest 0x33 tag (fun s =>
    match selector with
    | 1 =>
      if within 1 16 n then
        .ok (.matrixRow (rowXps s n) ((nth s.pins.permits n).getD false)
          ((s.mx.movements.find? (fun m => m.row == n)).map Movement.shown) (s.mx.queue.filter (fun q => q.row == n)))
      else .error (.badField, .none)
    | 2 =>
      if within 1 34 n then
        .ok (.matrixColumn (dirRec s n) (if n ≤ 32 then (dirRec s n).waiting else s.dir.loadWait)
          ((upTo 16).map (fun r => xpAt s r n)) (rotator? s n))
      else .error (.badField, .none)
    | 3 =>
      if n = 0 then
        .ok (.matrixDrive s.hall.par.credits (creditsFree s) (s.mx.movements.map Movement.place) (grantOrder s))
      else .error (.badField, .none)
    | _ => .error (.badField, .none)) s

end Sys2Proof.Machine
end

