-- ==== Sys2Proof/Machine/TxRequests.lean ====
section
/-! DEFINITION. The requests on transmitters and the Tuning Memory (06): TX_INHIBIT, TX_LOCK_CLEAR, PRESET_PURGE,
PRESET_READ. -/

namespace Sys2Proof.Machine

def execTxInhibit (tag action mask : Nat) (s : State) : Out :=
  request 0x38 tag (fun s =>
    checks [(!within 1 3 action || decide (65536 ≤ mask), .badField, .none), (storeBusy s, .busy, .none)]
      (accept
        (forEach ((upTo 16).filter (fun n => maskBit mask (n - 1)))
          (fun n => updTxRec n (Option.map (fun r => { r with inhibited := applyAction action r.inhibited }))) s)
        (fun t => .txInhibit ((upTo 16).map (fun n => (((txRec? t n).map (·.inhibited)).getD false, (txCtl t n).state))))))
    s

/-- Carrier that nothing has asked for (R141), in the state of the latest reply; none is seen so under the Hall Key LOCAL or
under the TLU's own LOCAL control (logs 30, 76). -/
def unbidden (s : State) (n : Nat) : Bool :=
  let x := txCtl s n
  reportsOn s n && (x.telemetry.map (·.reply.control)) == some .remote && !isLocal s &&
  (carrierOrder? s n).isNone && !searching s n && x.offReq == .none &&
  (match x.carrier with
    | some (.on _ _) => false
    | _ => true)

/-- Bring down unbidden carrier (R141). -/
def bringDown (n : Nat) (s : State) : State := if unbidden s n then carrierOffRequest n none s else s

/-- The effects of an accepted TX-LOCK-CLEAR (R145). -/
def clearLock (n : Nat) (s : State) : State :=
  setTxState n .offline s |> takeState n |> updProt n (fun p => { p with trips := [] })
  |> setFactor n 1000 none none .lockClear |> bringDown n

def execTxLockClear (tag n : Nat) (s : State) : Out :=
  request 0x39 tag (fun s =>
    checks [(!within 1 16 n, .badField, .none), ((txCtl s n).state != .lockedOut, .stateRefused, .none)]
      (accept (clearLock n s) (fun t => .txState (txCtl t n).state))) s

def execPresetPurge (tag n : Nat) (freq : Option Nat) (all : Bool) (s : State) : Out :=
  request 0x3A tag (fun s =>
    checks
      [(!within 1 16 n || !freq.all freqOk || (freq.isNone && !all), .badField, .none), (storeBusy s, .busy, .none)]
      (if all then
         let k := ((txCtl s n).memory.filter (·.isSome)).length
         accept (updTx n (fun x => { x with memory := x.memory.map (fun _ => none) }) s) (fun _ => .purged k)
       else
         let f := freq.getD 0
         if (presetHit s n f).isSome then accept (invalidate n f s) (fun _ => .purged 1) else refuse .notFound)) s

/-- The reply of PRESET-READ with the entry at an index; `shown`: the index as the reply carries it, where the request names a
frequency (R147). -/
def presetReply (s : State) (n i : Nat) (shown : Option Nat) : PresetReply :=
  let x := txCtl s n
  { index := shown, preset := presetAt s n i, state := x.state, tuned := x.tuned, mode := x.mode, telemetry := x.telemetry }

def execPresetRead (tag n : Nat) (index freq : Option Nat) (s : State) : Out :=
  readRequest 0x3B tag (fun s =>
    if !within 1 16 n || !optWithin 0 63 index || !freq.all freqOk then .error (.badField, .none)
    else match index, freq with
      | some i, _ => .ok (.preset (presetReply s n i none))
      | none, some f =>
        if (presetHit s n f).isSome then .ok (.preset (presetReply s n (presetIndex f) (some (presetIndex f))))
        else .error (.notFound, .none)
      | none, none => .error (.badField, .none)) s

end Sys2Proof.Machine
end

