-- ==== Sys2Proof/Machine/FieldLineEvents.lean ====
section
/-! DEFINITION. The Field Line's events (05, 06, 08): POLL_REPLY_TLU, POLL_REPLY_MDU, POLL_REPLY_ARU, TRANSACTION_MISS,
COMMAND_REPLY. -/

namespace Sys2Proof.Machine

/-! ### A TLU's poll reply (R127, R128, R130, R134 to R136, R140, R141, R143, R152) -/

/-- The reply is written: telemetry, tuned frequency, and the end of blindness (R127, R128, R143). -/
def writeReply (n : Nat) (r : TluReply) (s : State) : State :=
  let blind := (txCtl s n).blind.isSome
  let s := updTx n (fun x => { x with
    telemetry := some { reply := r, second := s.clock.time }
    tuned := r.tuned
    pastBlind := false
    blind := none
    filOffAcked := if r.filament = .ready then false else x.filOffAcked }) s
  if blind then forEach ((ordersOf s n).map (·.id)) (fun id => updOrder id (fun o => { o with blind := false })) s else s

/-- Filament loss (R128, step 3). -/
def filamentLost (n : Nat) (f : Filament) (s : State) : State :=
  (if f = .heating then setTxState n .warming s |> warmFromReply n else setTxState n .cold s)
  |> loseWork n .clearing

/-- States in which a filament that is not READY is a loss (R128, step 3). -/
def TxState.losesFilament : TxState → Bool
  | .standby => true
  | .tuning => true
  | .on => true
  | .tripped => true
  | _ => false

/-- The state that a written reply gives (R128, steps 1 to 6). A search that has ended by a trip leaves the transmitter
TUNING until carrier off is confirmed (R137). -/
def replyState (n : Nat) (r : TluReply) (s : State) : State :=
  let x := txCtl s n
  if r.control = .local then goOffline n s
  else if x.state = .lockedOut then s
  else if x.state.losesFilament && r.filament != .ready && !x.filOffAcked then filamentLost n r.filament s
  else if x.state = .tripped || x.tune.isSome || (x.state = .tuning && x.offReq != .none) then s
  else takeState n s

/-- A search has come to DONE with carrier off: its timer stops and TUNE-RESULT is queued (R134); under LOCAL no command
is offered. -/
def askPositions (n : Nat) (s : State) : State :=
  let s := updTx n (fun x => { x with tune := x.tune.map (fun t => { t with timer := none }) }) s
  if isLocal s then s
  else
    updTx n (fun x => { x with tune := x.tune.map (fun t => { t with reading := true, cmd := some (nextSerial s) }) }) s
    |> offerTlu n .tuneResult false

/-- The reply is judged for the tune in hand (R134, R136, R161). -/
def judgeTune (n : Nat) (r : TluReply) (s : State) : State :=
  match (txCtl s n).tune with
  | none => s
  | some t =>
    if t.held || !t.acked then s
    else match t.kind, r.tuneStatus with
      | .preset, .done =>
        (if !t.verified && (t.order.bind (order? s)).isSome then updProt n (fun p => { p with unproven := true }) s else s)
        |> tuneResult n true
      | .preset, .failed => presetFail n true s
      | .search, .done => if r.carrierOn || t.reading then s else askPositions n s
      | .search, .failed => searchFail n false s
      | _, _ => s

/-- Carrier off is seen by an order in CLEARING (R73). -/
def clearingSees (n : Nat) (r : TluReply) (s : State) : State :=
  if r.carrierOn then s
  else forEach (((ordersOf s n).filter (fun o => o.stage == .clearing)).map (·.id))
    (fun id => setWork id (fun w => { w with carrierOff := false })) s

/-- Carrier off is confirmed, and a transmitter that a tripped search left TUNING follows R128 (R137, R140). -/
def judgeOff (n : Nat) (r : TluReply) (s : State) : State :=
  let x := txCtl s n
  if x.offReq = .reply && !r.carrierOn then
    let s := confirmOff n s
    if x.tune.isNone then takeStateIfTuning n s else s
  else s

/-- An unbidden drop (R141), by the state, the permit line and the carrier-off request as they stood before the reply. -/
def unbiddenDrop (s : State) (n : Nat) (r : TluReply) : Bool :=
  let x := txCtl s n
  !r.carrierOn && x.state == .on && x.offReq == .none && x.offWaiters.isEmpty && (nth s.pins.permits n).getD false

/-- The order of a transmitter in a stage from WARMING to CLOSING takes the step the reply allows. -/
def advanceWorking (n : Nat) (s : State) : State :=
  match workingOrder? s n with
  | some o => emit (.advance o.id) s
  | none => s

/-- Deliver a TLU's poll reply (R128, R152). The tune in hand is judged before the sample, so a reply that ends a search as
FAILED is no sample of a search in progress (R144; log 79). -/
def pollTransmitter (n : Nat) (r : TluReply) (s : State) : State :=
  let drop := unbiddenDrop s n r
  let s := rest (replyState n r (writeReply n r s))
  let s := if r.filament = .ready then warmUpDone n s else s
  judgeTune n r s |> clearingSees n r |> judgeOff n r |> bringDown n |> judgeSample n r drop |> advanceWorking n

/-! ### What the line does with an answer (R171 to R176) -/

/-- A reply that a unit's kind cannot carry, or with a value out of range, is a miss (R171, R174). -/
def tluReplyOk (r : TluReply) : Bool :=
  within 0 65000 r.pf && within 0 65000 r.pr && r.tuned.all freqOk && within 0 255 r.fault

/-- The function of a command (R178). -/
def CmdFn.toCode : CmdFn → FnCode
  | .filament _ => .filament
  | .mode _ => .mode
  | .tunePreset _ _ _ => .tunePreset
  | .tuneSearch _ _ _ => .tuneSearch
  | .tuneResult => .tuneResult
  | .carrierOn _ => .carrier
  | .carrierOff => .carrier
  | .setpoint _ => .setpoint
  | .move _ _ => .move
  | .slew _ => .slew
  | .stop => .stop

/-- The data of an acknowledgment has the form of R178. -/
def answerOk (fn : FnCode) : UnitAnswer → Bool
  | .nak _ => true
  | .ack l => if fn = .tuneResult then decide (l.length ≤ 16) && l.all (within 0 65535) else l.isEmpty

/-- The result that an answer gives a command (R176). -/
def answerResult : UnitAnswer → CmdResult
  | .ack l => .ack l
  | .nak code => .nak code

/-- What follows a finished transaction: a command slot after a poll, the next poll after a command (R173). -/
def afterTxn (t : Txn) (s : State) : State :=
  match t.fn with
  | .poll => commandSlot s
  | .command _ => startPoll s

/-- A transaction whose address has become UNBOUND is finished, and its answer is not delivered; a command fails with no
reply (R173, R177), also where its first attempt has missed: it is not retried (R176; log 97). -/
def finishDead (t : Txn) (s : State) : State :=
  (match t.fn with
   | .poll => endTxn s
   | .command c => rest (emit (.command c .noReply) (endTxn s)))
  |> afterTxn t

/-- A miss of the transaction in progress (R171, R172, R176). A command is retried once, unless the miss has made its
unit SILENT. -/
def missTxn (t : Txn) (cause : MissCause) (s : State) : State :=
  match t.fn with
  | .poll => rest (countMiss t.addr cause (endTxn s)) |> afterTxn t
  | .command c =>
    let silent := decide (2 ≤ (unitAt s t.addr).misses) || (unitAt s t.addr).state != .alive
    if t.retry || silent then rest (countMiss t.addr cause (emit (.command c .noReply) (endTxn s))) |> afterTxn t
    else countMiss t.addr cause s |> State.onLine (fun l => { l with txn := some { t with retry := true } })

/-- A miss of a transaction whose address has become UNBOUND: it is offered to Hall Statistics, and counts against no unit
(R171, R172). A command is not retried (log 97). -/
def missDead (t : Txn) (s : State) : State := finishDead t (count .line 0 s)

/-- An answer to the transaction in progress: a good reply is delivered, anything else is a miss (R171, R174, R176), also where
the address has become UNBOUND, whose good reply is not delivered (R173). `heard`: its address and function are those of the
frame sent; `formed`: its data has the form for them; `deliver` carries its content to the owner. -/
def answerTxn (heard formed : Txn → Bool) (deliver : Txn → State → State) (s : State) : State :=
  match s.line.txn with
  | none => s
  | some t =>
    if !t.live then if heard t && formed t then finishDead t s else missDead t s
    else if heard t && formed t then rest (deliver t (goodReply t.addr (endTxn s))) |> afterTxn t
    else missTxn t .badReply s

/-- The transaction is a poll of this address. -/
def pollOf (addr : Nat) (t : Txn) : Bool := t.fn == .poll && t.addr == addr

/-- A unit of the kind is bound at the address. -/
def boundAs (s : State) (addr : Nat) (kind : UnitKind) : Bool := (unitAt s addr).kind == some kind

/-- The poll went to a unit of the kind: the one bound at its address, or the one that was bound there when the frame was
sent, where the address has become UNBOUND (R171, R173; log 83). -/
def polls (s : State) (kind : UnitKind) (t : Txn) : Bool :=
  if t.live then boundAs s t.addr kind else t.kind == some kind

/-! ### The events -/

def execPollReplyTlu (addr : Nat) (r : TluReply) (s : State) : Out :=
  event (fun s => answerTxn (pollOf addr) (fun t => polls s .tlu t && tluReplyOk r)
    (fun t => pollTransmitter (unitAt s t.addr).owner r) s) s

def execPollReplyMdu (addr : Nat) (positions : List SwitchPos) (s : State) : Out :=
  event (fun s => answerTxn (pollOf addr) (fun t => polls s .mdu t && positions.length == 34)
    (fun t => pollRow (unitAt s t.addr).owner positions) s) s

def execPollReplyAru (addr : Nat) (r : AruReply) (s : State) : Out :=
  event (fun s => answerTxn (pollOf addr) (fun t => polls s .aru t && within 0 359 r.azimuth)
    (fun t => pollRotator (unitAt s t.addr).owner r) s) s

def execTransactionMiss (cause : MissCause) (s : State) : Out :=
  event (fun s =>
    match s.line.txn with
    | none => s
    | some t => if t.live then missTxn t cause s else missDead t s) s

/-- The answer is to the command of the transaction (R171). -/
def answersCommand (addr : Nat) (fn : FnCode) (t : Txn) : Bool :=
  match t.fn with
  | .poll => false
  | .command c => t.addr == addr && c.fn.toCode == fn

/-- The result of a good reply goes to the block that offered the command (R176). -/
def deliverResult (a : UnitAnswer) (t : Txn) (s : State) : State :=
  match t.fn with
  | .poll => s
  | .command c => commandResult c (answerResult a) s

def execCommandReply (addr : Nat) (fn : FnCode) (a : UnitAnswer) (s : State) : Out :=
  event (answerTxn (answersCommand addr fn) (fun _ => answerOk fn a) (deliverResult a)) s

end Sys2Proof.Machine
end

