-- ==== Sys2Proof/Machine/InputEvents.lean ====
section
/-! DEFINITION. The outside inputs' events (03, 04, 06): HALL_KEY_CHANGE, SAFETY_CHAIN_OPEN, SAFETY_CHAIN_CLOSE, and the
re-adoption of the orders. -/

namespace Sys2Proof.Machine

/-! ### Re-adoption (R94) -/

/-- An order in CLOSING sends the commands its closing still needs (R94). -/
def readoptClosing (o : Order) (s : State) : State :=
  (if o.work.carrierOff && reportsOn s o.snap.tx then carrierOffRequest o.snap.tx (some o.id) s else s)
  |> emit (.advance o.id)

/-- A new recovery delay as the beginning of RECOVERING, with no trip time added (R94, R167; log 32). -/
def restartRecovery (o : Order) (s : State) : State :=
  updProt o.snap.tx (fun p => { p with
    recovery := o.lastTrip.map (fun k => { order := o.id, kind := k.1, stage := k.2, timer := s.hall.par.recovery }) }) s

/-- WARMING begins again: the warm-up is asked for unless the filament is ready (R72, R94). -/
def restartWarming (o : Order) (s : State) : State :=
  let st := (txCtl s o.snap.tx).state
  if st = .cold || st = .warming then setWork o.id (fun w => { w with warmUp := true }) s |> requestWarmUp o.snap.tx o.id
  else setWork o.id (fun w => { w with warmUp := false }) s |> emit (.advance o.id)

/-- The Safety Chain opens on an order in a carrier stage: carrier off is requested, and the order waits in RECOVERING
(R95). -/
def recoverSafety (o : Order) (s : State) : State :=
  carrierOffRequest o.snap.tx none s |> enterRecovering o.id .safety

/-- A search of the order's own that was left held runs again, under a closed Safety Chain (R94, R137). -/
def resumeOwn (o : Order) (s : State) : State :=
  if s.pins.chainClosed && ownSearch s o && ((txCtl s o.snap.tx).tune.map (·.held)).getD false then
    resumeSearch o.snap.tx s
  else s

/-- CLEARING begins again: carrier off is asked for afresh where the TLU reports carrier on (R73, R94). -/
def restartClearing (o : Order) (s : State) : State :=
  setWork o.id (fun w => { w with carrierOff := false }) s |> emit (.advance o.id)

/-- An order that stays held carries out again the work it has in hand, and makes no new request (R92, R94; log 66). -/
def restartHeld (o : Order) (s : State) : State :=
  match o.stage with
  | .clearing =>
    if o.work.carrierOff && reportsOn s o.snap.tx then carrierOffRequest o.snap.tx (some o.id) s else s
  | .tuning => resumeOwn o s
  | _ => s

/-- An order restarts its stage (R94, items 5 to 7). A tune in flight that is not held runs on to its result (log 86). An ON-AIR
order has its setpoint sent again, also where the permit equals the setpoint last sent (R158; log 80). -/
def restartStage (o : Order) (s : State) : State :=
  let n := o.snap.tx
  let closed := s.pins.chainClosed
  match o.stage with
  | .staged => emit (.advance o.id) s
  | .closing => s
  | .warming => restartWarming o s
  | .tuning => resumeOwn o s |> emit (.advance o.id)
  | .clearing => restartClearing o s
  | .routing => emit (.advance o.id) s
  | .poised => emit (.advance o.id) s
  | .onAir =>
    if closed then
      match (protRec s n).permit with
      | some p => setpointRequest n p s
      | none => s
    else recoverSafety o s
  | .proving => if closed then enterProving o.id s else recoverSafety o s
  | .ramping => if closed then updOrder o.id (fun x => { x with stageSecs := 0 }) s else recoverSafety o s
  | .recovering =>
    if closed then if o.recovery = some .safety then enterProving o.id s else restartRecovery o s
    else if o.recovery = some .safety then s
    else updOrder o.id (fun x => { x with recovery := some .safety }) s

/-- The order stays held: a scheduled order from STAGED through POISED out of AUTO (R92, R94). -/
def staysHeld (s : State) (o : Order) : Bool := isScheduled o && !isAuto s && Stage.between .staged .poised o.stage

/-- A preemption of the order is due: its preempting order has started, or has been rescued onto its transmitter under LOCAL
and is still live (R84, R88, R93). -/
def readoptPreempts (s : State) (o : Order) : Bool := preemptDue s o || o.preemptedBy.any (fun k => (order? s k).isSome)

/-- Re-adopt one order: the first item of R94 that fits. -/
def readopt (id : Nat) (s : State) : State :=
  match order? s id with
  | none => s
  | some o =>
    let s := updOrder id (fun x => { x with preemptedBy := none }) s
    if o.stage = .closing then readoptClosing o s
    else if o.localFailure then
      updOrder id (fun x => { x with localFailure := false }) s |> enterClosing id .failed
    else if o.ends ≤ now s then conclude id (if o.firstOnAir.isSome then .ended else .expired) s
    else if expiryDue s o then conclude id .expired s
    else if readoptPreempts s o then preempt id s
    else if staysHeld s o then restartHeld o s
    else restartStage o s

/-- HELD is cleared, except on the orders that stay held (R94). -/
def releaseHeld (s : State) : State :=
  forEach (idsWhere s (fun o => !staysHeld s o)) (setHeld false) s

/-- The key returns to REMOTE: the local trip latches are cleared and every live order is re-adopted, in order of start and
then id; the beginning of AUTO comes after it (R94, R167; log 22). -/
def keyToRemote (s : State) : State :=
  let s := s.onPins (fun p => { p with key := .remote }) |> State.onProt (List.map (fun p => { p with latch := false }))
  let s := rest (releaseHeld (forEach ((sortedOrders s.chg.orders).map (·.id)) readopt s))
  let s := hallReport .hallKey s
  if isAuto s then beginAuto s else s

/-- The key turns to LOCAL: every live order carries HELD (R93). -/
def keyToLocal (s : State) : State :=
  let s := s.onPins (fun p => { p with key := .local })
  forEach (idsWhere s (fun _ => true)) (setHeld true) s |> hallReport .hallKey

/-! ### The events -/

/-- HALL_KEY_CHANGE (R54, R93, R94). Without supply only the line changes (log 6). -/
def execHallKeyChange (position : Control) (s : State) : Out :=
  if !s.pins.powered then .next (s.onPins (fun p => { p with key := position }))
  else if s.pins.key = position then .next s
  else match position with
    | .remote => event keyToRemote s
    | .local => event keyToLocal s

/-- The Safety Chain opens (R95, R137, R190). -/
def chainOpens (s : State) : State :=
  let s := s.onPins (fun p => { p with chainClosed := false }) |> hallReport .safetyChain
    |> makeFault .safetyOpen .hall none
  let s := if isLocal s then s else forEach (s.chg.orders.filter (fun o => o.stage.carrier)) recoverSafety s
  forEach ((upTo 16).filter (searching s)) holdSearch s

/-- A search held in TUNING resumes (R96, R137). -/
def resumeHeld (n : Nat) (s : State) : State :=
  match (txCtl s n).tune with
  | some t => if t.kind = .search && t.held then resumeSearch n s else s
  | none => s

/-- The Safety Chain closes (R96, R137). -/
def chainCloses (s : State) : State :=
  let s := s.onPins (fun p => { p with chainClosed := true }) |> hallReport .safetyChain
  if isLocal s then s
  else
    forEach (idsWhere s (fun o => o.stage == .recovering && o.recovery == some .safety && decide (now s < o.ends)))
      enterProving s
    |> forEach (idsWhere s (fun o => o.stage == .poised)) (fun id => emit (.advance id))
    |> forEach (upTo 16) resumeHeld

/-- SAFETY_CHAIN_OPEN (R95). Without supply only the line changes (log 6). -/
def execSafetyChainOpen (s : State) : Out :=
  if !s.pins.powered then .next (s.onPins (fun p => { p with chainClosed := false }))
  else if s.pins.chainClosed then event chainOpens s
  else .next s

/-- SAFETY_CHAIN_CLOSE (R96). Without supply only the line changes (log 6). -/
def execSafetyChainClose (s : State) : Out :=
  if !s.pins.powered then .next (s.onPins (fun p => { p with chainClosed := true }))
  else if s.pins.chainClosed then .next s
  else event chainCloses s

end Sys2Proof.Machine
end

