-- ==== Sys2Proof/Decode.lean ====
section
/-! DEFINITION. The command that a word spells by the table's bits (none: the table gives no row any bits), and the
command that the body of a received frame spells (R182, R189). -/

namespace Sys2Proof

/-- The opcode table gives no row any bits, so no word spells a command. -/
def decodeTableWord (_nbits _w : Nat) : Option Instr := none

/-- What the body of a frame comes to (R182): a request, or the check that refuses it. `badValue` is a choice that no
request of the kind carries, or a required value sent as absent (RESTART, PRESET-PURGE, ORDER-MANUAL). -/
inductive Reading where
  | request (i : Instr)
  | badKind
  | badLength
  | badValue
  deriving DecidableEq, Repr

/-! ### Fields (R189) -/

/-- The number that bytes give, high byte first. -/
def numberOf (l : List Byte) : Nat := l.foldl (fun n b => n * 256 + b.toNat) 0

/-- Cut a body into numbers of the widths given; absent when the body is shorter. The rest of the body comes with them. -/
def takeFields : List Nat → List Byte → Option (List Nat × List Byte)
  | [], body => some ([], body)
  | w :: ws, body =>
    if body.length < w then none
    else (takeFields ws (body.drop w)).map (fun x => (numberOf (body.take w) :: x.1, x.2))

/-- Cut a whole body into numbers: its length is exactly that of the widths. -/
def fieldsOf (widths : List Nat) (body : List Byte) : Option (List Nat) :=
  match takeFields widths body with
  | some (l, []) => some l
  | _ => none

/-- An optional number whose range leaves 0 out: 0 is absent. -/
def absentZero (n : Nat) : Option Nat := if n = 0 then none else some n

/-- An optional number whose range holds 0: all ones in its width is absent. -/
def absentOnes (width n : Nat) : Option Nat := if n = 256 ^ width - 1 then none else some n

/-- A date of year, month and day; year 0 is absent. -/
def dateOf (year month day : Nat) : Option Date := if year = 0 then none else some { year, month, day }

/-! ### Requests with a form of their own -/

/-- TX-DEFINE (R2): fields 2 to 13 follow when defined is "yes". -/
def readTxDefine (tag : Nat) (body : List Byte) : Reading :=
  match takeFields [1, 1] body with
  | some ([n, d], rest) =>
    if d = 1 then
      match fieldsOf [1, 1, 2, 2, 2, 1, 1, 2, 1, 2, 1, 2] rest with
      | some [tlu, mdu, low, high, rated, modes, standby, warm, preset, search, ramp, power] =>
        .request (.txDefine tag n d
          { tlu := absentZero tlu, mdu := absentZero mdu, low := absentZero low, high := absentZero high
            rated := absentZero rated, modes := absentZero modes, standby := absentZero standby
            warmUp := absentZero warm, presetEst := absentZero preset, searchEst := absentZero search
            ramp := absentZero ramp, searchPower := absentZero power })
      | _ => .badLength
    else if rest.isEmpty then .request (.txDefine tag n d {})
    else .badLength
  | _ => .badLength

/-- The segments of an ANT-DEFINE: `count` of them, 6 bytes each. -/
def takeSegments : Nat → List Byte → Option (List Segment × List Byte)
  | 0, body => some ([], body)
  | k + 1, body =>
    match takeFields [2, 2, 2] body with
    | some ([low, high, rating], rest) =>
      (takeSegments k rest).map (fun x => ({ low, high, rating } :: x.1, x.2))
    | _ => none

/-- The rotator part of an ANT-DEFINE: an ARU address of 0 is absent, and nothing follows it. -/
def readRotator (body : List Byte) : Option (Option RotatorFields) :=
  match takeFields [1] body with
  | some ([0], []) => some none
  | some ([0], _ :: _) => none
  | some ([aru], rest) =>
    match fieldsOf [1, 2, 2, 1] rest with
    | some [continuous, lo, hi, rate] =>
      some (some { aru := aru, continuous := absentZero continuous, stopLow := absentOnes 2 lo
                   stopHigh := absentOnes 2 hi, rate := rate })
    | _ => none
  | _ => none

/-- Fields 2 to 6 of an ANT-DEFINE (R10). -/
def readAntFields (body : List Byte) : Option AntFields :=
  match takeFields [1, 1] body with
  | some ([kind, count], rest) =>
    match takeSegments count rest with
    | some (segments, rest) =>
      match takeFields [2, 2] rest with
      | some ([warn, trip], rest) =>
        (readRotator rest).map (fun r =>
          { kind := absentZero kind, segments := segments, warn := absentZero warn, trip := absentZero trip, rotator := r })
      | _ => none
    | none => none
  | _ => none

/-- ANT-DEFINE (R10, R13): a load carries its rating alone. -/
def readAntDefine (tag : Nat) (body : List Byte) : Reading :=
  match takeFields [1, 1] body with
  | some ([a, d], rest) =>
    if d ≠ 1 then (if rest.isEmpty then .request (.antDefine tag a d {}) else .badLength)
    else if (a = 33 || a = 34) && rest.length == 2 then
      .request (.antDefine tag a d { rating := absentZero (numberOf rest) })
    else match readAntFields rest with
      | some f => .request (.antDefine tag a d f)
      | none => .badLength
  | _ => .badLength

/-! ### Requests of one fixed form -/

/-- HALL-SET (R14). -/
def readHallSet (tag : Nat) (body : List Byte) : Reading :=
  match fieldsOf [1, 1, 1, 1, 1, 1, 1, 2, 1, 1, 1, 1, 4] body with
  | some [w, lead, move, credits, prove, off, recovery, window, limit, cool, blind, cutoff, life] =>
    .request (.hallSet tag
      { lookAhead := absentZero w, leadMargin := absentOnes 1 lead, moveEst := absentZero move
        credits := absentZero credits, proveTime := absentZero prove, offConfirm := absentZero off
        recovery := absentZero recovery, tripWindow := absentZero window, tripLimit := absentZero limit
        coolHold := absentOnes 1 cool, blindHold := absentZero blind, cutoff := absentZero cutoff
        opLife := absentZero life })
  | _ => .badLength

/-- BANK-HEADER (R20). -/
def readBankHeader (tag : Nat) (body : List Byte) : Reading :=
  match fieldsOf [1, 2, 2, 1, 1, 2, 1, 1] body with
  | some [bank, season, y1, m1, d1, y2, m2, d2] =>
    .request (.bankHeader tag bank (absentOnes 2 season) (dateOf y1 m1 d1) (dateOf y2 m2 d2))
  | _ => .badLength

/-- ENTRY-PUT: a bank and the 29 bytes of an entry (R22). -/
def readEntryPut (tag : Nat) (body : List Byte) : Reading :=
  match fieldsOf [1, 2, 2, 1, 2, 2, 1, 2, 1, 1, 2, 2, 1, 1, 2, 1, 1, 2, 1, 1, 1] body with
  | some [bank, number, service, days, start, duration, tx, freq, primary, alternate, azimuth, power, mode, priority,
      y1, m1, d1, y2, m2, d2, suspended] =>
    .request (.entryPut tag
      { bank := bank, number := number, service := service, days := days, start := start, duration := duration, tx := tx
        freq := freq, primary := primary, alternate := absentZero alternate, azimuth := absentOnes 2 azimuth
        power := power, mode := mode, priority := priority, validFrom := dateOf y1 m1 d1, validTo := dateOf y2 m2 d2
        suspended := suspended })
  | _ => .badLength

/-- TIME-SET (R47). -/
def readTimeSet (tag : Nat) (body : List Byte) : Reading :=
  match fieldsOf [2, 1, 1, 1, 1, 1] body with
  | some [year, month, day, hour, minute, second] => .request (.timeSet tag { year, month, day } hour minute second)
  | _ => .badLength

/-- ORDER-MANUAL (R90): a start of all ones is the word NOW, and an end of all ones is absent, which BAD-FIELD refuses
(R189; log 15). -/
def readOrderManual (tag : Nat) (body : List Byte) : Reading :=
  match fieldsOf [2, 1, 2, 1, 1, 2, 2, 1, 1, 4, 4] body with
  | some [service, tx, freq, primary, alternate, azimuth, power, mode, priority, start, ends] =>
    if ends = 0xFFFFFFFF then .badValue
    else .request (.orderManual tag
      { service := service, tx := tx, freq := freq, primary := primary, alternate := absentZero alternate
        azimuth := absentOnes 2 azimuth, power := power, mode := mode, priority := priority
        start := absentOnes 4 start, ends := ends })
  | _ => .badLength

/-- PRESET-PURGE (R147): the word ALL is 1. -/
def readPresetPurge (tag : Nat) (body : List Byte) : Reading :=
  match fieldsOf [1, 2, 1] body with
  | some [n, freq, all] => if 1 < all then .badValue else .request (.presetPurge tag n (absentZero freq) (all == 1))
  | _ => .badLength

/-- RESTART (R186). -/
def readRestart (tag : Nat) (body : List Byte) : Reading :=
  match fieldsOf [1] body with
  | some [1] => .request (.restartOrderly tag)
  | some [2] => .request (.restartImmediate tag)
  | some _ => .badValue
  | none => .badLength

/-- A request of an empty body. -/
def readEmpty (i : Instr) (body : List Byte) : Reading := if body.isEmpty then .request i else .badLength

/-- A request of one number. -/
def readOne (width : Nat) (i : Nat → Instr) (body : List Byte) : Reading :=
  match fieldsOf [width] body with
  | some [x] => .request (i x)
  | _ => .badLength

/-- A request of two numbers. -/
def readTwo (w1 w2 : Nat) (i : Nat → Nat → Instr) (body : List Byte) : Reading :=
  match fieldsOf [w1, w2] body with
  | some [x, y] => .request (i x y)
  | _ => .badLength

/-- A request of three numbers. -/
def readThree (w1 w2 w3 : Nat) (i : Nat → Nat → Nat → Instr) (body : List Byte) : Reading :=
  match fieldsOf [w1, w2, w3] body with
  | some [x, y, z] => .request (i x y z)
  | _ => .badLength

/-- A request of four numbers. -/
def readFour (w1 w2 w3 w4 : Nat) (i : Nat → Nat → Nat → Nat → Instr) (body : List Byte) : Reading :=
  match fieldsOf [w1, w2, w3, w4] body with
  | some [x, y, z, u] => .request (i x y z u)
  | _ => .badLength

/-- The request that a frame spells, by the request catalogue (section 9.5) and R189. -/
def readBody (kind tag : Nat) (body : List Byte) : Reading :=
  match kind with
  | 0x01 => readTxDefine tag body
  | 0x02 => readOne 1 (.txRead tag) body
  | 0x03 => readAntDefine tag body
  | 0x04 => readOne 1 (.antRead tag) body
  | 0x05 => readHallSet tag body
  | 0x06 => readEmpty (.hallRead tag) body
  | 0x07 => readTwo 1 1 (fun rate window => .lineSet tag (absentOnes 1 rate) (absentZero window)) body
  | 0x08 => readEmpty (.lineRead tag) body
  | 0x10 => readBankHeader tag body
  | 0x11 => readEntryPut tag body
  | 0x12 => readTwo 1 2 (.entryDelete tag) body
  | 0x13 => readThree 1 2 1 (.entryRead tag) body
  | 0x14 => readFour 1 2 4 1 (.entrySuspend tag) body
  | 0x15 => readOne 1 (.bankClear tag) body
  | 0x16 => readTwo 1 4 (.bankArm tag) body
  | 0x17 => readOne 1 (.bankDisarm tag) body
  | 0x18 => readEmpty (.bankStatus tag) body
  | 0x20 => readTimeSet tag body
  | 0x21 => readEmpty (.timeRead tag) body
  | 0x22 => readOne 1 (.automation tag) body
  | 0x28 => readOrderManual tag body
  | 0x29 => readOne 2 (.orderCancel tag) body
  | 0x2A => readOne 2 (.orderAdvance tag) body
  | 0x2B => readOne 1 (.orderList tag) body
  | 0x2C => readOne 2 (.orderRead tag) body
  | 0x30 => readThree 1 1 5 (.antFlags tag) body
  | 0x31 => readThree 1 1 1 (.xpClear tag) body
  | 0x32 => readTwo 1 1 (.xpService tag) body
  | 0x33 => readTwo 1 1 (.matrixRead tag) body
  | 0x38 => readTwo 1 2 (.txInhibit tag) body
  | 0x39 => readOne 1 (.txLockClear tag) body
  | 0x3A => readPresetPurge tag body
  | 0x3B => readThree 1 1 2 (fun n i f => .presetRead tag n (absentOnes 1 i) (absentZero f)) body
  | 0x40 => readTwo 1 2 (.reportSelect tag) body
  | 0x41 => readThree 1 1 2 (.counterSet tag) body
  | 0x42 => readTwo 1 1 (.counterRead tag) body
  | 0x43 => readOne 1 (.faultRead tag) body
  | 0x44 => readEmpty (.faultClear tag) body
  | 0x48 => readEmpty (.store tag) body
  | 0x49 => readRestart tag body
  | 0x4A => readEmpty (.identify tag) body
  | _ => .badKind

end Sys2Proof
end

