-- ==== Sys2Proof/Machine/ReportRequests.lean ====
section
/-! DEFINITION. The requests on reporting (09, 10): REPORT_SELECT, COUNTER_SET, COUNTER_READ, FAULT_READ, FAULT_CLEAR,
IDENTIFY. -/

namespace Sys2Proof.Machine

/-- The selection set after an action on the positions of a mask (R185). -/
def selectReports (action mask : Nat) (x : BitVec 12) : BitVec 12 :=
  let m := BitVec.ofNat 12 mask
  match action with
  | 1 => x ||| m
  | 2 => x &&& ~~~m
  | _ => x ^^^ m

def execReportSelect (tag action mask : Nat) (s : State) : Out :=
  request 0x40 tag (fun s =>
    checks [(!within 1 3 action || decide (4096 ≤ mask), .badField, .none)]
      (accept (s.onPort (fun p => { p with selected := selectReports action mask p.selected }))
        (fun t => .selection t.port.selected))) s

/-- Classes by their code (R193). -/
def StatClass.ofCode : Nat → Option StatClass
  | 1 => some .none
  | 2 => some .directory
  | 3 => some .outcome
  | 4 => some .trip
  | 5 => some .tune
  | 6 => some .drive
  | 7 => some .line
  | 8 => some .onAir
  | _ => none

/-- Qualifier positions of a class (R193). -/
def StatClass.width : StatClass → Nat
  | .none => 0
  | .directory => 9
  | .outcome => 8
  | .trip => 2
  | .tune => 3
  | .drive => 2
  | .line => 2
  | .onAir => 16

def execCounterSet (tag n cls mask : Nat) (s : State) : Out :=
  request 0x41 tag (fun s =>
    match StatClass.ofCode cls with
    | none => refuse .badField
    | some k =>
      checks
        [(!within 1 8 n, .badField, .none), (decide (2 ^ k.width ≤ mask), .badField, .none),
         (mask == 0 && k != .none, .badField, .none)]
        (accept (s.onStats (fun l => updNth l n (fun _ => { cls := k, mask := mask, value := 0 }))))) s

def execCounterRead (tag mask zeroing : Nat) (s : State) : Out :=
  request 0x42 tag (fun s =>
    checks [(!within 1 255 mask || !within 1 2 zeroing, .badField, .none)]
      (let named := (upTo 8).filter (fun k => maskBit mask (k - 1))
       let read := named.filterMap (nth s.stats)
       accept
        (if zeroing = 1 then
           forEach named (fun k => State.onStats (fun l => updNth l k (fun c => { c with value := 0 }))) s
         else s)
        (fun _ => .counters read))) s

def execFaultRead (tag skip : Nat) (s : State) : Out :=
  readRequest 0x43 tag (fun s =>
    if !within 0 31 skip then .error (.badField, .none)
    else .ok (.faults s.log.ring.length (s.log.ring.head?.map (·.number)) s.log.next ((s.log.ring.drop skip).take 8))) s

def execFaultClear (tag : Nat) (s : State) : Out :=
  request 0x44 tag (fun s =>
    let k := s.log.ring.length
    accept (s.onLog (fun l => { l with ring := [] })) (fun _ => .faultsCleared k)) s

def execIdentify (tag : Nat) (s : State) : Out :=
  readRequest 0x4A tag (fun s =>
    let p := s.port
    .ok (.identify { part := Config.partCode, revision := Config.revision, maxBody := Config.maxBody
                     badCheck := p.badCheck, badLength := p.badLength, gap := p.gap, overrun := p.overrun
                     totalLoss := p.totalLoss, reports := p.reports, sequence := p.sequence, selected := p.selected })) s

end Sys2Proof.Machine
end

