-- ==== Sys2Proof/Machine/StoreRequests.lean ====
section
/-! DEFINITION. The Table Store, power and the restarts (09, 10): STORE, STORE_WRITE_COMPLETE, POWER_ON, POWER_LOSS,
RESTART_ORDERLY, RESTART_IMMEDIATE. -/

namespace Sys2Proof.Machine

/-! ### Images and slots (R195 to R197) -/

/-- The image of the tables as they stand (R196). -/
def imageOf (s : State) : Image where
  tx := s.hall.tx
  ant := s.hall.ant
  loads := s.hall.loads
  par := s.hall.par
  rate := s.line.rate
  window := s.line.window
  banks := s.banks
  memories := s.tx.map (·.memory)
  counts := s.mx.rows.map (List.map (fun x => (x.remaining, x.serviceDue)))
  inhibited := s.dir.cols.map (·.inhibited)
  suspect := s.dir.cols.map (·.suspect)

/-- The first generation is later than the second (R197). -/
def laterGeneration (g h : Nat) : Bool :=
  if g = 1 && h = 4294967295 then true
  else if g = 4294967295 && h = 1 then false
  else decide (h < g)

/-- The first slot holds the good image of the latest generation; its generation and image (R197). -/
def Store.latest (t : Store) : Option (Bool × Nat × Image) :=
  match t.slot1, t.slot2 with
  | .good g i, .good h j => if laterGeneration g h then some (true, g, i) else some (false, h, j)
  | .good g i, .bad => some (true, g, i)
  | .bad, .good h j => some (false, h, j)
  | .bad, .bad => none

/-- The slot and the generation of the next write (R196). -/
def Store.nextWrite (t : Store) : Bool × Nat :=
  match t.latest with
  | none => (true, 1)
  | some (first, g, _) => (!first, if g = 4294967295 then 1 else g + 1)

/-- Put a value into one of the slots. -/
def Store.setSlot (first : Bool) (x : Slot) (t : Store) : Store :=
  if first then { t with slot1 := x } else { t with slot2 := x }

/-- A STORE is taken: the image is fixed, and its slot is bad until the write completes (R195, R196). -/
def beginStore (tag : Nat) (s : State) : State :=
  let w := s.store.nextWrite
  s.onStore (fun t => { t.setSlot w.1 .bad with
    writing := some { first := w.1, generation := w.2, image := imageOf s, tag := tag } })

/-- STORE (R196): refused at once, or answered when the write completes. -/
def execStore (tag : Nat) (s : State) : Out :=
  if !s.pins.powered then .next s
  else if storeBusy s then .next (queueReply 0x48 tag .busy .none .none s)
  else .next (beginStore tag s)

/-- STORE_WRITE_COMPLETE (R196). -/
def execStoreWriteComplete (s : State) : Out :=
  event (fun s =>
    match s.store.writing with
    | none => s
    | some w =>
      s.onStore (fun t => { t.setSlot w.first (.good w.generation w.image) with writing := none })
      |> queueReply 0x48 w.tag .ok .none (.stored w.generation)
      |> offerReport (.store (.written w.generation))) s

/-! ### POWER_ON and POWER_LOSS (R18, R44, R67, R125, R149, R168, R180, R188, R194, R197) -/

/-- Bind the addresses of the Hall Description (R18, R170). -/
def bindAll (s : State) : State :=
  let bind_ (addr : Nat) (kind : UnitKind) (owner : Nat) : State → State :=
    updUnit addr (fun _ => { kind := some kind, state := .alive, owner := owner })
  let s := forEach (upTo 16) (fun n t => match txRec? t n with
    | some r => bind_ r.tlu .tlu n t |> bind_ r.mdu .mdu n
    | none => t) s
  forEach (upTo 32) (fun a t => match rotatorPart? t a with
    | some p => bind_ p.aru .aru a t
    | none => t) s

/-- The crosspoints of a row at power-on (R125). -/
def powerOnRow (bound : Bool) (counts : List (Nat × Bool)) : List Xp :=
  counts.map (fun k => { state := if bound then .unknown else .opened, remaining := k.1, serviceDue := k.2 })

/-- The directory records at power-on: UNRESOLVED where the column holds an UNKNOWN crosspoint (R125). -/
def powerOnDir (s : State) (flags : List (Bool × Bool)) : List DirRec :=
  ((upTo 34).zip flags).map (fun x =>
    { state := if (colWhere s x.1 (· == .unknown)).isEmpty then .free else .unresolved
      inhibited := x.2.1, suspect := x.2.2 })

/-- The matrix at power-on, with the counts of an image (R125). -/
def powerOnMatrix (i : Image) : Matrix where
  rows := (i.tx.zip i.counts).map (fun (x : Option TxRec × List (Nat × Bool)) => powerOnRow x.1.isSome x.2)
  rotators := i.ant.map (fun (a : Option AntRec) => (a.bind (·.rotator)).map (fun _ => {}))

/-- Load a good image into the blocks (R18, R44, R125, R149, R180, R197). -/
def loadImage (i : Image) (s : State) : State :=
  let s := { s with
    hall := { tx := i.tx, ant := i.ant, loads := i.loads, par := i.par }
    banks := i.banks
    tx := i.memories.map (fun m => { memory := m })
    line := { s.line with rate := i.rate, window := i.window }
    mx := powerOnMatrix i }
  s.onDir (fun d => { d with cols := powerOnDir s (i.inhibited.zip i.suspect) }) |> bindAll |> startPoll

/-- The state right after power returns, with the image slots and the inputs as they stand (R197). -/
def powerUp (s : State) : State :=
  let fresh := { State.blank with
    pins := { State.blank.pins with key := s.pins.key, chainClosed := s.pins.chainClosed }
    store := { s.store with writing := none }
    pending := s.pending }
  match s.store.slot1, s.store.slot2, s.store.latest with
  | .good _ _, .good _ _, some (_, _, i) => loadImage i fresh
  | _, _, some (_, g, i) => loadImage i fresh |> offerReport (.store (.singleImage g))
  | _, _, none => offerReport (.store .badImage) fresh

/-- POWER_ON (R197): power comes back to a controller without it (log 6). -/
def execPowerOn (s : State) : Out := if s.pins.powered then .next s else .next (judgePermits (powerUp s))

/-- POWER_LOSS (R195, R196; log 6): the permits fall, and a write in flight leaves its slot bad. -/
def execPowerLoss (s : State) : Out :=
  .next (judgePermits (s.onPins (fun p => { p with powered := false }) |> State.onStore (fun t => { t with writing := none })))

/-! ### The restarts (R186) -/

/-- Both restarts turn the enable OFF and set the staged-through instant (R58, R67). -/
def restartClock (s : State) : State :=
  s.onClock (fun c => { c with enable := false })
  |> State.onStaging (fun g => { g with through := if s.clock.time.isSome then s.clock.time else g.through })

/-- The protection record after a restart (R168). -/
def ProtRec.restarted (p : ProtRec) : ProtRec :=
  { p with base := none, permit := none, sent := 0, acked := 0, rise := none, trips := [], recovery := none
           unproven := false, latch := false }

/-- RESTART ORDERLY on the orders (R97): the marks go, STAGED orders are CANCELLED, the others close, and none is
rescued. -/
def cancelAll (s : State) : State :=
  let s := forEach (idsWhere s (fun o => o.preempting.isSome)) (fun id => setMark id none) s
  let ids := idsWhere s (fun _ => true)
  let s := s.onChg (fun c => { c with orders := c.orders.map (fun o => { o with noRescue := true }) })
  forEach ids (fun id => conclude id .cancelled) s

/-- The effects of RESTART ORDERLY, its reports in the order of R186. -/
def restartOrderly (s : State) : State :=
  let was := isAuto s
  let gone := s.staging.deferred
  let s := flushOrders (rest (cancelAll (restartClock s)))
  let s := s.onStaging (fun g => { g with deferred := [] })
    |> forEach gone (fun d => stagingReport d.bank d.entry d.start .droppedRestart)
    |> forEach (upTo 16) (fun n => setFactor n 1000 none none .reset)
    |> State.onProt (List.map (fun p => { p.restarted with reported := 1000 }))
  if was then hallReport .restartOrderly s else s

/-- RESTART ORDERLY (R186). -/
def execRestartOrderly (tag : Nat) (s : State) : Out :=
  request 0x49 tag (fun s =>
    checks [(storeBusy s, .busy, .none), (isLocal s, .locked, .none)]
      (let k := (idsWhere s (fun o => o.stage != .closing)).length
       accept (restartOrderly s) (fun _ => .restarted k))) s

/-- Every claim, handover and wait is cleared, every moving crosspoint becomes UNKNOWN with its credit, and the columns
follow the law without reports (R126). -/
def releaseAll (s : State) : State :=
  let s := s.onDir (fun d => { cols := d.cols.map (fun e => { e with claiming := none, handover := none, waiting := [] })
                               loadWait := [] })
    |> State.onMx (fun m => { m with
        queue := []
        movements := m.movements.map (fun v => { v with who := [] })
        rows := m.rows.map (List.map (fun x => if x.state.inFlight then { x with state := .unknown } else x))
        rotators := m.rotators.map (Option.map (fun r => { r with order := none, waiting := none })) })
  forEach (upTo 34) (fun c t => updDir c (fun d => { d with state := (lawOf t c).1, owner := (lawOf t c).2 }) t) s

/-- Transmitter Control's record at RESTART IMMEDIATE (R150): waiting orders, waiters and blind timers go, a search ends,
another tune in hand runs on with no order. A carrier-off request without waiters is kept (log 93). -/
def TxCtl.restarted (x : TxCtl) : TxCtl :=
  { x with
    warm := x.warm.map (fun w => { w with waiting := [] })
    tune := (x.tune.filter (fun t => t.kind != .search)).map (fun t => { t with order := none })
    offWaiters := [], blind := none, pastBlind := false }

/-- A transmitter at RESTART IMMEDIATE (R150): it leaves TRIPPED or a search, becomes OFFLINE when its TLU is SILENT, and
its carrier is commanded off. One that a tripped search left TUNING takes its state from its latest reply (log 94). -/
def restartTx (searched : Bool) (n : Nat) (s : State) : State :=
  match txRec? s n with
  | none => s
  | some r =>
    let x := txCtl s n
    let s := if x.state = .tripped || (x.state = .tuning && x.tune.isNone) then takeState n s else s
    if (unitAt s r.tlu).state = .silent then goOffline n s
    else if reportsOn s n || searched then carrierOffRequest n none s
    else s

/-- The effects of RESTART IMMEDIATE (R97, R126, R150, R168, R180, R186). A cool-down command that the emptied queue fails sets its
idle clock to 0 (R131; log 92). -/
def restartImmediate (s : State) : State :=
  let searched := (upTo 16).filter (searching s)
  let s := restartClock s |> State.onStaging (fun g => { g with deferred := [] })
    |> State.onChg (fun c => { c with orders := [] })
    |> State.onNotes (fun _ => [])
    |> releaseAll
    |> State.onProt (List.map (fun p => { p.restarted with factor := 1000, reported := 1000 }))
    |> State.onTx (List.map TxCtl.restarted)
  let s := rest (failCmds (fun _ => true) s)
  forEach (upTo 16) (fun n => restartTx (searched.contains n) n) s |> hallReport .restartImmediate |> emit .offerLoads

/-- RESTART IMMEDIATE (R186). -/
def execRestartImmediate (tag : Nat) (s : State) : Out :=
  request 0x49 tag (fun s =>
    checks [(storeBusy s, .busy, .none)]
      (let k := s.chg.orders.length
       accept (restartImmediate s) (fun _ => .restarted k))) s

end Sys2Proof.Machine
end

