-- ==== Sys2Proof/Machine/Wire.lean ====
section
/-! DEFINITION. The bytes of the Control Link (R181, R189): the check, the frame, and the bodies of replies and reports
(log 15). -/

namespace Sys2Proof.Machine

/-! ### Numbers, choices, absent values (R189) -/

/-- A number in `k` bytes, high byte first. -/
def bytesOf : Nat → Nat → List Byte
  | 0, _ => []
  | k + 1, n => bytesOf k (n / 256) ++ [BitVec.ofNat 8 n]

def b1 (n : Nat) : List Byte := bytesOf 1 n
def b2 (n : Nat) : List Byte := bytesOf 2 n
def b4 (n : Nat) : List Byte := bytesOf 4 n

/-- An optional number whose range leaves 0 out: absent is 0. -/
def z1 (n : Option Nat) : List Byte := b1 (n.getD 0)
def z2 (n : Option Nat) : List Byte := b2 (n.getD 0)

/-- An optional number whose range holds 0: absent is all ones. -/
def f1 (n : Option Nat) : List Byte := b1 (n.getD 0xFF)
def f2 (n : Option Nat) : List Byte := b2 (n.getD 0xFFFF)
def f4 (n : Option Nat) : List Byte := b4 (n.getD 0xFFFFFFFF)

/-- A choice of two: 1 for the first named, 2 for the second. -/
def yn (v : Bool) : List Byte := b1 (if v then 1 else 2)

/-- A set of flags, the first named at bit 0. -/
def bits (l : List Bool) : Nat := l.foldr (fun v n => (if v then 1 else 0) + 2 * n) 0

/-- A list of varying length: its count and its members. -/
def listOf {α : Type} (l : List α) (f : α → List Byte) : List Byte := b1 l.length ++ l.flatMap f

/-- A date from a hall day. -/
def dateBytes (day : Nat) : List Byte :=
  let d := dateOfDay day
  b2 d.year ++ b1 d.month ++ b1 d.day

/-- An optional date: absent has year 0. -/
def optDateBytes (day : Option Nat) : List Byte := (day.map dateBytes).getD (b4 0)

/-! ### Codes of the named values, numbered from 1 in the manual's order -/

def Mode.code : Mode → Nat
  | .am => 1
  | .rcam => 2
  | .dig => 3

def Priority.code (p : Priority) : Nat := p.rank + 1

def BankId.code : BankId → Nat
  | .a => 1
  | .b => 2

def BankState.code : BankState → Nat
  | .empty => 1
  | .loaded => 2
  | .armed => 3
  | .active => 4

def ClockState.code : ClockState → Nat
  | .unset => 1
  | .valid => 2
  | .holdover => 3

def OrderOutcome.code : OrderOutcome → Nat
  | .ended => 1
  | .failed => 2
  | .expired => 3
  | .cancelled => 4
  | .preempted => 5
  | .withdrawn => 6

def FailCause.code : FailCause → Nat
  | .noAntenna => 1
  | .warmUpFailed => 2
  | .tuneFailed => 3
  | .routeStuck => 4
  | .slewFailed => 5
  | .vswrLockout => 6
  | .txLockout => 7
  | .txLost => 8

def TuneKind.code : TuneKind → Nat
  | .none => 1
  | .preset => 2
  | .search => 3

def RecoveryCause.code : RecoveryCause → Nat
  | .trip => 1
  | .safety => 2

def DirState.code : DirState → Nat
  | .free => 1
  | .reserved => 2
  | .assigned => 3
  | .parked => 4
  | .unresolved => 5

def XpState.code : XpState → Nat
  | .opened => 1
  | .closing => 2
  | .closed => 3
  | .opening => 4
  | .unknown => 5
  | .stuck => 6

def Direction.code : Direction → Nat
  | .close => 1
  | .opens => 2

def SlewState.code : SlewState → Nat
  | .idle => 1
  | .slewing => 2
  | .failed => 3

def TxState.code : TxState → Nat
  | .offline => 1
  | .cold => 2
  | .warming => 3
  | .standby => 4
  | .tuning => 5
  | .on => 6
  | .tripped => 7
  | .lockedOut => 8

def InHandKind.code : InHandKind → Nat
  | .mode => 1
  | .preset => 2
  | .search => 3

def TripKind.code : TripKind → Nat
  | .vswr => 1
  | .txFault => 2

def UnitKind.code : UnitKind → Nat
  | .tlu => 1
  | .mdu => 2
  | .aru => 3

def UnitState.code : UnitState → Nat
  | .unbound => 1
  | .alive => 2
  | .silent => 3

def StatClass.code : StatClass → Nat
  | .none => 1
  | .directory => 2
  | .outcome => 3
  | .trip => 4
  | .tune => 5
  | .drive => 6
  | .line => 7
  | .onAir => 8

def FaultKind.code : FaultKind → Nat
  | .tripVswr => 1
  | .tripTx => 2
  | .vswrLockout => 3
  | .txLockout => 4
  | .xpStuck => 5
  | .slewFail => 6
  | .tuneFail => 7
  | .unitSilent => 8
  | .carrierOffTimeout => 9
  | .safetyOpen => 10
  | .txLost => 11

def TripResult.code : TripResult → Nat
  | .taken => 1
  | .reProve => 2
  | .lockout => 3
  | .notTaken => 4

def FoldCause.code : FoldCause → Nat
  | .sample => 1
  | .trip => 2
  | .preparation => 3
  | .rescue => 4
  | .lockClear => 5
  | .reset => 6

def XpCause.code : XpCause → Nat
  | .serviceDue => 1
  | .serviceRefused => 2
  | .timeout => 3
  | .noReply => 4
  | .poll => 5
  | .doubleClosed => 6
  | .claimedColumn => 7
  | .declared => 8
  | .serviced => 9

def AntCause.code : AntCause → Nat
  | .host => 1
  | .definition => 2
  | .lockout => 3
  | .fault => 4
  | .unresolved => 5
  | .resolved => 6

def ClockCause.code : ClockCause → Nat
  | .timeSet => 1
  | .markWatch => 2
  | .mark => 3

def HallCause.code : HallCause → Nat
  | .hallKey => 1
  | .safetyChain => 2
  | .automation => 3
  | .clock => 4
  | .restartOrderly => 5
  | .restartImmediate => 6

def SwitchPos.code : SwitchPos → Nat
  | .opened => 1
  | .closed => 2
  | .between => 3

def MissCause.code : MissCause → Nat
  | .noAnswer => 1
  | .badCheck => 2
  | .badReply => 3

def Control.code : Control → Nat
  | .remote => 1
  | .local => 2

def TuneStatus.code : TuneStatus → Nat
  | .idle => 1
  | .busy => 2
  | .done => 3
  | .failed => 4

def Filament.code : Filament → Nat
  | .off => 1
  | .heating => 2
  | .ready => 3

/-- Functions of the line: POLL 1, then the functions of R178 in their order. -/
def CmdFn.code : CmdFn → Nat
  | .filament _ => 2
  | .mode _ => 3
  | .tunePreset _ _ _ => 4
  | .tuneSearch _ _ _ => 5
  | .tuneResult => 6
  | .carrierOn _ => 7
  | .carrierOff => 7
  | .setpoint _ => 8
  | .move _ _ => 9
  | .slew _ => 10
  | .stop => 11

/-- Statuses, codes 0 to 16 (R183). -/
def Status.code : Status → Nat
  | .ok => 0
  | .badKind => 1
  | .badLength => 2
  | .badField => 3
  | .inconsistent => 4
  | .conflict => 5
  | .busy => 6
  | .locked => 7
  | .activeBank => 8
  | .armed => 9
  | .notReady => 10
  | .tooSoon => 11
  | .tooLate => 12
  | .full => 13
  | .notFound => 14
  | .unavailable => 15
  | .stateRefused => 16

/-- The four detail bytes (R183; log 13). -/
def Detail.bytes : Detail → List Byte
  | .none => b4 0
  | .field n sub pos => b1 n ++ b1 sub ++ b1 pos ++ b1 0
  | .entry bank n => b1 bank.code ++ b2 n ++ b1 0
  | .number n => b2 n ++ b2 0
  | .position n => b1 n ++ b1 0 ++ b2 0

/-! ### Records -/

/-- The telemetry of one poll reply in 15 bytes (R189). -/
def telemetryBytes : Option Telemetry → List Byte
  | some t =>
    yn t.reply.carrierOn ++ b2 t.reply.pf ++ b2 t.reply.pr ++ z2 t.reply.tuned ++ b1 (TuneStatus.code t.reply.tuneStatus) ++
    b1 (Filament.code t.reply.filament) ++ b1 t.reply.fault ++ b1 (Control.code t.reply.control) ++ f4 t.second
  | none => List.replicate 11 0 ++ f4 none

/-- The schedule entry in 29 bytes (R189). -/
def entryBytes (e : Entry) : List Byte :=
  b2 e.number ++ b2 e.service ++ b1 e.days.toNat ++ b2 e.start ++ b2 e.duration ++ b1 e.tx ++ b2 e.freq ++ b1 e.primary ++
  z1 e.alternate ++ f2 e.azimuth ++ b2 e.power ++ b1 (Mode.code e.mode) ++ b1 e.priority.code ++
  optDateBytes e.validFrom ++ optDateBytes e.validTo ++ b1 (bits [e.suspended])

/-- Fields 2 to 14 of a transmitter record. -/
def txRecBytes (r : TxRec) : List Byte :=
  b1 r.tlu ++ b1 r.mdu ++ b2 r.low ++ b2 r.high ++ b2 r.rated ++ b1 (bits [r.modes.am, r.modes.rcam, r.modes.dig]) ++
  z1 r.standby ++ b2 r.warmUp ++ b1 r.presetEst ++ b2 r.searchEst ++ b1 r.ramp ++ b2 r.searchPower ++ b1 (bits [r.inhibited])

/-- Fields 2 to 6 of an antenna record; a FIXED antenna has an absent ARU address and no more. -/
def antRecBytes (r : AntRec) : List Byte :=
  b1 (if r.kind = .fixed then 1 else 2) ++ listOf r.segments (fun g => b2 g.low ++ b2 g.high ++ b2 g.rating) ++
  b2 r.warn ++ b2 r.trip ++
  (match r.rotator with
    | some p => b1 p.aru ++ yn p.continuous ++ f2 p.stopLow ++ f2 p.stopHigh ++ b1 p.rate
    | none => b1 0)

def hallParamBytes (p : HallParams) : List Byte :=
  b1 p.lookAhead ++ b1 p.leadMargin ++ b1 p.moveEst ++ b1 p.credits ++ b1 p.proveTime ++ b1 p.offConfirm ++ b1 p.recovery ++
  b2 p.tripWindow ++ b1 p.tripLimit ++ b1 p.coolHold ++ b1 p.blindHold ++ b1 p.cutoff ++ b4 p.opLife

def cmdBytes (c : Cmd) : List Byte := b1 c.addr ++ b1 c.fn.code ++ b1 (if c.urgent then 1 else 2)

def unitBytes (x : Nat × UnitEntry) : List Byte :=
  b1 x.1 ++ z1 (x.2.kind.map UnitKind.code) ++ b1 x.2.owner ++ b1 x.2.state.code ++ b1 x.2.misses ++ f4 x.2.lastGood

def txnBytes : Option Txn → List Byte
  | some t => b1 t.addr ++ b1 (match t.fn with
      | .poll => 1
      | .command c => c.fn.code) ++ b1 (if t.retry then 2 else 1)
  | none => List.replicate 3 0

def summaryBytes (x : BankSummary) : List Byte :=
  b1 x.state.code ++
  (match x.header with
    | some h => b1 1 ++ b2 h.season ++ dateBytes h.validFrom ++ dateBytes h.validTo
    | none => b1 2) ++
  f4 x.activation ++ b2 x.occupied ++ b2 x.suspended

/-- Time of day: hour, minute, second. -/
def timeOfDayBytes (t : Nat) : List Byte := b1 (t % 86400 / 3600) ++ b1 (t % 3600 / 60) ++ b1 (t % 60)

/-- A date and time of day, absent or from a hall second. -/
def dateTimeBytes : Option Nat → List Byte
  | some t => dateBytes (hallDay t) ++ timeOfDayBytes t
  | none => b4 0 ++ f1 none ++ f1 none ++ f1 none

def timeReadBytes (r : TimeReply) : List Byte :=
  f4 r.time ++ dateTimeBytes r.time ++ f2 (r.time.map hallDay) ++ f1 (r.time.map (fun t => weekday (hallDay t))) ++
  f2 (r.time.map minuteOfDay) ++ b1 r.state.code ++ dateTimeBytes r.setting ++ f4 r.through ++ yn r.enable ++
  b1 (Control.code r.key) ++ yn r.auto ++ b1 r.deferred

/-- The flags of an order, LATE-START at bit 0 (R189). -/
def orderFlags (o : Order) : Nat :=
  bits [o.lateStart, o.lateness.isSome, o.held, o.blind, o.alternateUsed, o.rescued, o.continued, o.preempting.isSome]

def originBytes : Origin → List Byte
  | .schedule bank entry start => b1 1 ++ b1 bank.code ++ b2 entry ++ b4 start
  | .manual => b1 2 ++ b1 0 ++ b2 0 ++ f4 none

def workBits (w : WorkSet) : Nat := bits [w.claim, w.load, w.move, w.slew, w.warmUp, w.tune, w.carrierOff]

def snapshotBytes (p : Snapshot) : List Byte :=
  b2 p.service ++ b1 p.tx ++ b2 p.freq ++ b1 p.primary ++ z1 p.alternate ++ f2 p.azimuth ++ b2 p.power ++
  b1 (Mode.code p.mode) ++ b1 p.priority.code

/-- The whole record of R68 (R91). -/
def orderBytes (o : Order) : List Byte :=
  b2 o.id ++ originBytes o.origin ++ snapshotBytes o.snap ++ b4 o.start ++ b4 o.ends ++ b4 o.prepare ++
  b1 o.stage.number ++ z1 o.antenna ++ z1 o.load ++ z1 (o.tuneKind.map TuneKind.code) ++ b1 (workBits o.work) ++
  f4 o.firstOnAir ++ b4 (o.lateness.getD 0) ++ listOf o.tripTimes b4 ++ z1 (o.recovery.map RecoveryCause.code) ++
  b1 o.rescues ++ b1 (orderFlags o) ++ z2 o.preempting ++ z1 (o.failure.map FailCause.code) ++
  z1 (o.outcomeDue.map OrderOutcome.code)

/-- An order in the reply of ORDER-LIST (R91). -/
def orderLineBytes (o : Order) : List Byte :=
  b2 o.id ++ b1 o.snap.tx ++ b1 o.stage.number ++ b4 o.start ++ b4 o.ends ++ b1 o.snap.priority.code ++ b1 (orderFlags o)

def xpBytes (x : Xp) : List Byte := b1 x.state.code ++ b4 x.remaining ++ b1 (bits [x.serviceDue])

/-- A movement's crosspoint and direction. -/
def movementBytes (m : Nat × Nat × Direction) : List Byte := b1 m.1 ++ b1 m.2.1 ++ b1 m.2.2.code

/-- The movement in flight on a row, or none, with the seconds left on its timer (R124). -/
def rowMovementBytes : Option MovementReply → List Byte
  | some m => movementBytes (m.row, m.col, m.dir) ++ b1 m.timer
  | none => List.replicate 3 0 ++ f1 none

def requesterBytes : Requester → List Byte
  | .order id => b1 1 ++ b2 id
  | .release id => b1 2 ++ b2 id
  | .handover id => b1 3 ++ b2 id
  | .parkedLoad => b1 4 ++ b2 0

def driveReqBytes (q : DriveReq) : List Byte :=
  b1 q.row ++ b1 q.col ++ b1 q.dir.code ++ b1 (if q.essential then 1 else 2) ++ b4 q.arrival ++ listOf q.who requesterBytes

def rotatorBytes (r : Rotator) : List Byte :=
  f2 r.azimuth ++ yn r.moving ++ yn r.fault ++ b1 r.slew.code ++ f2 r.target ++ z2 r.order ++
  f2 (r.waiting.map (·.1)) ++ z2 (r.waiting.map (·.2)) ++ f2 r.timer

def dirRecBytes (d : DirRec) : List Byte :=
  b1 d.state.code ++ z1 d.owner ++ z2 d.claiming ++ z2 d.handover ++ b1 (bits [d.inhibited, d.suspect, d.faulted]) ++
  b1 (bits [d.faultStuck, d.faultDouble, d.faultRotator])

def presetBytes (r : PresetReply) : List Byte :=
  (r.index.map b1).getD [] ++
  (match r.preset with
    | some p => yn true ++ b2 p.freq ++ listOf p.positions b2 ++ b1 (bits [p.verified])
    | none => yn false ++ b2 0 ++ b1 0 ++ b1 0) ++
  b1 r.state.code ++ z2 r.tuned ++ z1 (r.mode.map Mode.code) ++ telemetryBytes r.telemetry

def counterBytes (c : Counter) : List Byte := b1 c.cls.code ++ b2 c.mask ++ b4 c.value

def subjectBytes : Subject → List Byte
  | .transmitter n => b1 1 ++ b1 n ++ b1 0
  | .antenna a => b1 2 ++ b1 a ++ b1 0
  | .crosspoint r c => b1 3 ++ b1 r ++ b1 c
  | .unit a k => b1 4 ++ b1 a ++ z1 (k.map UnitKind.code)
  | .hall => b1 5 ++ b1 0 ++ b1 0

/-- A fault record (R190). -/
def faultBytes (r : FaultRecord) : List Byte :=
  b2 r.number ++ f4 r.second ++ b1 r.kind.code ++ subjectBytes r.subject ++ z2 (r.order.map (·.1)) ++
  z1 (r.order.map (fun x => x.2.number)) ++
  listOf r.inFlight.movements (fun m => b1 m.1 ++ b1 m.2.1 ++ b1 m.2.2.code) ++
  listOf r.inFlight.slews (fun x => b1 x.1 ++ b2 x.2) ++
  listOf r.inFlight.tunes (fun x => b1 x.1 ++ b1 x.2.1.code ++ b2 x.2.2) ++
  listOf r.inFlight.commands cmdBytes ++ b1 r.inFlight.commandCount ++
  telemetryBytes (r.telemetry.map (·.sample)) ++ f2 (r.telemetry.bind (·.rho)) ++ z2 (r.telemetry.map (·.factor)) ++
  b1 r.trips

/-! ### Bodies of replies and reports -/

/-- The data of a reply, as the owning chapters give them (R182), none cut for its length (log 99). -/
def ReplyData.bytes : ReplyData → List Byte
  | .none => []
  | .txRec (some r) => yn true ++ txRecBytes r
  | .txRec Option.none => yn false
  | .antRec (some r) => yn true ++ antRecBytes r
  | .antRec Option.none => yn false
  | .loadRating r => b2 r
  | .hallParams p => hallParamBytes p
  | .lineSettings r w => b1 r ++ b1 w
  | .lineState r w units txn queue held =>
    b1 r ++ b1 w ++ listOf units unitBytes ++ txnBytes txn ++ listOf queue cmdBytes ++ listOf held cmdBytes
  | .entry e => entryBytes e
  | .suspensions l => b4 (bits l)
  | .bankStatus x y inForce => summaryBytes x ++ summaryBytes y ++ z1 (inForce.map BankId.code)
  | .timeSet st t => b1 st.code ++ f4 t
  | .timeRead r => timeReadBytes r
  | .automation enable auto => yn enable ++ yn auto
  | .orderMade id prepare => b2 id ++ b4 prepare
  | .orderCancelled st out => z1 (st.map Stage.number) ++ z1 (out.map OrderOutcome.code)
  | .orderAdvanced prepare st => b4 prepare ++ z1 (st.map Stage.number)
  | .orderList l => listOf l orderLineBytes
  | .orderRecord o => orderBytes o
  | .antFlags l => l.flatMap (fun x => b1 (bits [x.inhibited, x.suspect, x.faulted]))
  | .matrixRow xps permit m q =>
    xps.flatMap xpBytes ++ yn permit ++ rowMovementBytes m ++ listOf q driveReqBytes
  | .matrixColumn d w xps r =>
    dirRecBytes d ++ listOf w b2 ++ xps.flatMap xpBytes ++ (r.map rotatorBytes).getD []
  | .matrixDrive credits free ms q => b1 credits ++ b1 free ++ listOf ms movementBytes ++ listOf q driveReqBytes
  | .txInhibit l => l.flatMap (fun x => b1 (bits [x.1]) ++ b1 x.2.code)
  | .txState st => b1 st.code
  | .purged k => b1 k
  | .preset r => presetBytes r
  | .selection x => b2 x.toNat
  | .counters l => listOf l counterBytes
  | .faults held oldest next l => b1 held ++ f2 oldest ++ b2 next ++ listOf l faultBytes
  | .faultsCleared k => b1 k
  | .stored g => b4 g
  | .restarted k => b1 k
  | .identify r =>
    b2 r.part ++ b1 r.revision ++ b2 r.maxBody ++ b2 r.badCheck ++ b2 r.badLength ++ b2 r.gap ++ b2 r.overrun ++
    b2 r.totalLoss ++ b1 r.reports ++ b1 r.sequence ++ b2 r.selected.toNat

/-- The 32 bytes of an ORDER report (R189). -/
def orderReportBytes (r : OrderReport) : List Byte :=
  b2 r.id ++ originBytes r.origin ++ b2 r.service ++ b1 r.tx ++ z1 (r.previous.map Stage.number) ++
  z1 (r.new.map Stage.number) ++
  b1 (bits [r.lateStart, r.late, r.held, r.blind, r.alternateUsed, r.rescued, r.continued, r.preempting.isSome]) ++
  z2 r.preempting ++ z1 r.antenna ++ z1 r.load ++ z1 (r.failure.map FailCause.code) ++
  z1 (r.outcome.map OrderOutcome.code) ++ b4 (r.lateness.getD 0) ++ f4 r.second ++ z1 (r.before.map (·.1)) ++
  z1 (r.before.bind (·.2))

/-- What a STAGING report announces: event, cause, transmitter state, blocking order. -/
def stagingEventBytes : StagingEvent → List Byte
  | .skippedUnavailable st => b1 1 ++ b1 1 ++ b1 st.code ++ b2 0
  | .skippedConflict k => b1 1 ++ b1 2 ++ b1 0 ++ b2 k
  | .deferred => b1 2 ++ b1 0 ++ b1 0 ++ b2 0
  | .droppedSetFull => b1 3 ++ b1 1 ++ b1 0 ++ b2 0
  | .droppedCutoff => b1 3 ++ b1 2 ++ b1 0 ++ b2 0
  | .droppedSuspended => b1 3 ++ b1 3 ++ b1 0 ++ b2 0
  | .droppedRestart => b1 3 ++ b1 4 ++ b1 0 ++ b2 0

/-- A signed number in 8 bytes, two's complement; absent is all ones (R189). -/
def signedBytes : Option Int → List Byte
  | some k => bytesOf 8 (k % 18446744073709551616).toNat
  | none => List.replicate 8 0xFF

/-- The body of a report after its lost count (R184). -/
def ReportBody.bytes : ReportBody → List Byte
  | .order r => orderReportBytes r
  | .trip r =>
    b1 r.tx ++ z2 r.order ++ b1 ((r.stage.map Stage.number).getD 12) ++ b1 r.kind.code ++ f1 r.code ++
    telemetryBytes r.sample ++ f2 r.rho ++ b2 r.factor ++ b1 r.trips ++ b1 r.result.code ++ f4 r.second
  | .foldback r =>
    b1 r.tx ++ z2 r.order ++ b2 r.factor ++ b2 r.before ++ f2 r.rho ++ f2 r.permit ++ b1 r.cause.code
  | .unit r =>
    b1 r.addr ++ z1 (r.kind.map UnitKind.code) ++ b1 r.owner ++ b1 r.new.code ++ b1 r.previous.code ++ b1 r.misses ++
    z1 (r.cause.map MissCause.code) ++ f4 r.second
  | .crosspoint r =>
    b1 r.row ++ b1 r.col ++ b1 r.old.code ++ b1 r.new.code ++ z1 (r.reported.map SwitchPos.code) ++ b1 r.cause.code
  | .antenna r =>
    b1 r.col ++ b1 r.state.code ++ z1 r.owner ++
    b1 (bits [r.inhibited, r.suspect, r.faultStuck || r.faultDouble || r.faultRotator]) ++
    b1 (bits [r.faultStuck, r.faultDouble, r.faultRotator]) ++ b1 r.cause.code
  | .season r =>
    b1 r.active.code ++ b2 r.season ++ z1 (r.loaded.map (fun x => x.1.code)) ++ f2 (r.loaded.map (·.2)) ++ b4 r.armed ++
    b4 r.taken ++ b1 (bits [r.late])
  | .clock r => b1 r.new.code ++ b1 r.previous.code ++ f4 r.time ++ b1 r.cause.code ++ signedBytes r.step
  | .hall r => b1 (Control.code r.key) ++ yn r.chainClosed ++ yn r.enable ++ yn r.auto ++ b1 r.cause.code
  | .staging r => b1 r.bank.code ++ b2 r.entry ++ b4 r.start ++ stagingEventBytes r.event
  | .fault r => faultBytes r
  | .store (.written g) => b1 1 ++ b4 g
  | .store (.singleImage g) => b1 2 ++ b4 g
  | .store .badImage => b1 3 ++ b4 0

/-! ### Frames (R181) -/

/-- One byte into the check: polynomial 1021h, high bit first (R181). -/
def checkByte (c : CheckWord) (b : Byte) : CheckWord :=
  (List.range 8).foldl (fun (x : CheckWord) _ => if x.msb then (x <<< 1) ^^^ 0x1021#16 else x <<< 1)
    (c ^^^ (b.setWidth 16 <<< 8))

/-- The check over the bytes of a frame (R181). -/
def checkOf (l : List Byte) : CheckWord := l.foldl checkByte 0xFFFF#16

/-- A frame: sync, length, kind, tag, body, check (R189). A body of the controller above 1,024 bytes is sent whole (log 99). -/
def frameBytes (kind tag : Nat) (body : List Byte) : List Byte :=
  let l := b2 body.length ++ b1 kind ++ b1 tag ++ body
  Config.sync :: l ++ b2 (checkOf l).toNat

/-- Code of a report kind (R184). -/
def ReportKind.code (k : ReportKind) : Nat := 0xE0 + k.position

/-- An outgoing frame in bytes (R182, R184). -/
def OutFrame.bytes : OutFrame → List Byte
  | .reply kind tag st d data => frameBytes kind tag (b1 st.code ++ d.bytes ++ data.bytes)
  | .report kind seq lost body => frameBytes kind.code seq (b1 lost ++ body.bytes)

end Sys2Proof.Machine
end

