-- ==== Sys2Proof/Machine/LinkEvents.lean ====
section
/-! DEFINITION. The Control Link Port's events (09): CONTROL_LINK_BYTE, GAP_TIMEOUT, FRAME_TAKEN, OUTGOING_FRAME_SENT. -/

namespace Sys2Proof.Machine

/-! ### Receiving (R181) -/

/-- What the bytes read since a sync byte come to. -/
inductive Cut where
  | more
  | tooLong
  | badCheck
  | frame (f : RxFrame)

/-- Judge the bytes read since the sync byte (R181). -/
def cutFrame (got : List Byte) : Cut :=
  if got.length < 4 then .more
  else
    let len := numberOf (got.take 2)
    if Config.maxBody < len then .tooLong
    else if got.length < 6 + len then .more
    else if (checkOf (got.take (4 + len))).toNat = numberOf ((got.drop (4 + len)).take 2) then
      .frame { kind := numberOf ((got.drop 2).take 1), tag := numberOf ((got.drop 3).take 1)
               body := (got.drop 4).take len }
    else .badCheck

/-- One more link count. -/
def bump (n : Nat) : Nat := (n + 1) % 65536

/-- Read bytes; a discarded frame's bytes after its sync byte are read again (R181; log 12). Each discard takes a sync byte
away for good, so the fuel of `receive` is enough. -/
def scanBytes : Nat → List Byte → Port → Port
  | 0, _, p => p
  | _, [], p => p
  | fuel + 1, b :: more, p =>
    match p.framing with
    | .seeking => scanBytes fuel more { p with framing := if b = Config.sync then .reading [] else .seeking }
    | .reading old =>
      let got := old ++ [b]
      match cutFrame got with
      | .more => scanBytes fuel more { p with framing := .reading got }
      | .tooLong => scanBytes fuel (got ++ more) { p with framing := .seeking, badLength := bump p.badLength }
      | .badCheck => scanBytes fuel (got ++ more) { p with framing := .seeking, badCheck := bump p.badCheck }
      | .frame f =>
        if p.rx.length < Config.maxReceived then
          scanBytes fuel more { p with framing := .seeking, rx := p.rx ++ [f] }
        else scanBytes fuel (got ++ more) { p with framing := .seeking, overrun := bump p.overrun }

/-- Bytes read since the sync byte. -/
def Framing.held : Framing → List Byte
  | .seeking => []
  | .reading got => got

/-- Read bytes with the fuel that every rescan needs. -/
def receive (l : List Byte) (p : Port) : Port :=
  let n := p.framing.held.length + l.length + 1
  scanBytes (n * n) l p

def execControlLinkByte (b : Byte) (s : State) : Out := event (State.onPort (receive [b])) s

/-- Discard partial frames until the port is SEEKING (R181; log 12). -/
def gapOut : Nat → Port → Port
  | 0, p => p
  | fuel + 1, p =>
    match p.framing with
    | .seeking => p
    | .reading got => gapOut fuel (receive got { p with framing := .seeking, gap := bump p.gap })

def execGapTimeout (s : State) : Out := event (State.onPort (fun p => gapOut (p.framing.held.length + 1) p)) s

/-! ### Taking a frame (R182) -/

/-- Replies outstanding: unsent in the report queue, and the reply of a STORE in flight (R182). -/
def outstanding (s : State) : Nat := s.port.replies + if storeBusy s then 1 else 0

/-- A request that a frame carries goes through the checks and effects of its own chapter (R182). -/
def carryOut (i : Instr) (s : State) : Out :=
  match i with
  | .txDefine tag n d f => execTxDefine tag n d f s
  | .txRead tag n => execTxRead tag n s
  | .antDefine tag a d f => execAntDefine tag a d f s
  | .antRead tag a => execAntRead tag a s
  | .hallSet tag f => execHallSet tag f s
  | .hallRead tag => execHallRead tag s
  | .lineSet tag r w => execLineSet tag r w s
  | .lineRead tag => execLineRead tag s
  | .bankHeader tag b k vf vt => execBankHeader tag b k vf vt s
  | .entryPut tag f => execEntryPut tag f s
  | .entryDelete tag b n => execEntryDelete tag b n s
  | .entryRead tag b n k => execEntryRead tag b n k s
  | .entrySuspend tag b n m a => execEntrySuspend tag b n m a s
  | .bankClear tag b => execBankClear tag b s
  | .bankArm tag b t => execBankArm tag b t s
  | .bankDisarm tag b => execBankDisarm tag b s
  | .bankStatus tag => execBankStatus tag s
  | .timeSet tag d h m k => execTimeSet tag d h m k s
  | .timeRead tag => execTimeRead tag s
  | .automation tag v => execAutomation tag v s
  | .orderManual tag f => execOrderManual tag f s
  | .orderCancel tag id => execOrderCancel tag id s
  | .orderAdvance tag id => execOrderAdvance tag id s
  | .orderList tag n => execOrderList tag n s
  | .orderRead tag id => execOrderRead tag id s
  | .antFlags tag f a m => execAntFlags tag f a m s
  | .xpClear tag r c p => execXpClear tag r c p s
  | .xpService tag r c => execXpService tag r c s
  | .matrixRead tag k n => execMatrixRead tag k n s
  | .txInhibit tag a m => execTxInhibit tag a m s
  | .txLockClear tag n => execTxLockClear tag n s
  | .presetPurge tag n f all => execPresetPurge tag n f all s
  | .presetRead tag n i f => execPresetRead tag n i f s
  | .reportSelect tag a m => execReportSelect tag a m s
  | .counterSet tag n c m => execCounterSet tag n c m s
  | .counterRead tag m z => execCounterRead tag m z s
  | .faultRead tag k => execFaultRead tag k s
  | .faultClear tag => execFaultClear tag s
  | .store tag => execStore tag s
  | .restartOrderly tag => execRestartOrderly tag s
  | .restartImmediate tag => execRestartImmediate tag s
  | .identify tag => execIdentify tag s
  | _ => .next s

/-- The frame that may be taken now, with the buffer behind it (R182). -/
def takeable (s : State) : Option (RxFrame × List RxFrame) :=
  match s.port.rx with
  | f :: rest => if outstanding s < Config.maxReplies then some (f, rest) else none
  | [] => none

def execFrameTaken (s : State) : Out :=
  if !s.pins.powered then .next s
  else match takeable s with
    | none => .next s
    | some (f, rest) =>
      let s := s.onPort (fun p => { p with rx := rest })
      match readBody f.kind f.tag f.body with
      | .request i => carryOut i s
      | .badKind => .next (queueReply 0 f.tag .badKind .none .none s)
      | .badLength => .next (queueReply f.kind f.tag .badLength .none .none s)
      | .badValue => .next (queueReply f.kind f.tag .badField .none .none s)

/-! ### Sending (R184) -/

/-- The frame whose last byte has been sent leaves the report queue. -/
def sendOne (p : Port) : Port :=
  match p.out with
  | f :: rest => { p with out := rest, lineOut := f.bytes }
  | [] => p

def execOutgoingFrameSent (s : State) : Out := event (State.onPort sendOne) s

end Sys2Proof.Machine
end

