-- ==== Sys2Proof/Machine/TimerEvents.lean ====
section
/-! DEFINITION. The events of the controller's own instants and timers (04 to 07): PREPARATION_BEGIN, MOVEMENT_START,
MOVE_TIMEOUT, SLEW_START, SLEW_TIMEOUT, WARM_UP_TIMEOUT, IDLE_CLOCK_COOL_DOWN, SEARCH_TUNE_TIMEOUT, PRESET_TUNE_TIMEOUT,
BLIND_HOLD_EXPIRY, RECOVERY_DELAY_EXPIRY, RAMP_END, CARRIER_OFF_CONFIRM_TIMEOUT. Each has its effect where the manual's
condition for it holds, and none elsewhere (log 2). -/

namespace Sys2Proof.Machine

/-! ### Orders (R65, R70, R77, R81) -/

/-- PREPARATION_BEGIN (R65, R70): it acts whenever the conditions of R65 hold, also between two second boundaries
(log 65). -/
def execPreparationBegin (id : Nat) (s : State) : Out :=
  event (fun s =>
    match order? s id with
    | some o => if preparesNow s o then beginPreparation id s else s
    | none => s) s

/-- The ramp time has run (R77). -/
def rampOver (s : State) (o : Order) : Bool :=
  o.stage == .ramping && decide (o.stageLen ≤ o.stageSecs) && !isLocal s

/-- RAMP_END (R77). -/
def execRampEnd (id : Nat) (s : State) : Out :=
  event (fun s =>
    match order? s id with
    | some o => if rampOver s o then enterOnAir id s else s
    | none => s) s

/-- The carrier-off confirm timeout of an order in CLOSING has run out (R81). -/
def offTimedOut (o : Order) : Bool := o.stage == .closing && o.work.carrierOff && o.closeTimer == some 0

/-- The order proceeds as though carrier off had been confirmed (R81, R190). A request that nobody waits for any longer is no
carrier-off request waiting, so that carrier still on is unbidden (R141). -/
def proceedUnconfirmed (o : Order) (s : State) : State :=
  let n := o.snap.tx
  makeTxFault .carrierOffTimeout n (some (o.id, o.stage)) s
  |> setWork o.id (fun w => { w with carrierOff := false })
  |> updTx n (fun x =>
      let l := x.offWaiters.filter (· != o.id)
      { x with offWaiters := l, offReq := if l.isEmpty then .none else x.offReq })
  |> emit (.advance o.id)

/-- CARRIER_OFF_CONFIRM_TIMEOUT (R81). -/
def execCarrierOffConfirmTimeout (id : Nat) (s : State) : Out :=
  event (fun s =>
    match order? s id with
    | some o => if offTimedOut o then proceedUnconfirmed o s else s
    | none => s) s

/-! ### Movements and slews (R110, R113, R121, R123) -/

/-- MOVEMENT_START (R109, R110). -/
def execMovementStart (s : State) : Out := event arbiterStart s

/-- MOVE_TIMEOUT (R113). -/
def execMoveTimeout (r c : Nat) (s : State) : Out :=
  event (fun s =>
    match movementAt? s r c with
    | some m => if m.timer = 0 then moveTimedOut m s else s
    | none => s) s

/-- SLEW_START (R121). -/
def execSlewStart (a : Nat) (s : State) : Out :=
  event (fun s =>
    match (rotator? s a).bind (·.waiting) with
    | some (target, id) => if slewMayStart s a id then startSlew a id target s else s
    | none => s) s

/-- SLEW_TIMEOUT (R123). -/
def execSlewTimeout (a : Nat) (s : State) : Out :=
  event (fun s =>
    match rotator? s a with
    | some r => if r.slew = .slewing && r.timer = some 0 then failSlew a s else s
    | none => s) s

/-! ### Transmitters (R130, R131, R134, R136, R143) -/

/-- The warm-up timer runs out: the waiting orders fail and FILAMENT OFF is queued (R130), also to a LOCKED-OUT transmitter
(log 89). -/
def warmUpRanOut (n : Nat) (s : State) : State :=
  let s := warmUpFailed n s
  if isLocal s then s else offerTlu n (.filament false) false s

/-- WARM_UP_TIMEOUT (R130). -/
def execWarmUpTimeout (n : Nat) (s : State) : Out :=
  event (fun s => if ((txCtl s n).warm.bind (·.timer)) = some 0 then warmUpRanOut n s else s) s

/-- A cool-down command is to be sent (R131): the idle clock had reached the hold at the last second boundary, and the hold in force
now is not 0, which stops further cool-downs (R15). -/
def coolDownDue (s : State) (n : Nat) : Bool :=
  let x := txCtl s n
  s.hall.par.coolHold != 0 && x.coolDue && isIdle s n && !isLocal s && tluAlive s n && x.coolDown == .none

/-- Send a cool-down command (R131). -/
def sendCoolDown (n : Nat) (s : State) : State :=
  updTx n (fun x => { x with coolDown := .queued (nextSerial s) }) s |> offerTlu n (.filament false) false

/-- IDLE_CLOCK_COOL_DOWN (R131). -/
def execIdleClockCoolDown (n : Nat) (s : State) : Out :=
  event (fun s => if coolDownDue s n then sendCoolDown n s else s) s

/-- The tune timer of a tune in hand of a kind has run out. -/
def tuneRanOut (s : State) (n : Nat) (kind : InHandKind) : Bool :=
  match (txCtl s n).tune with
  | some t => t.kind == kind && t.timer == some 0 && !t.held
  | none => false

/-- SEARCH_TUNE_TIMEOUT (R134). -/
def execSearchTuneTimeout (n : Nat) (s : State) : Out :=
  event (fun s => if tuneRanOut s n .search then searchFail n true s else s) s

/-- PRESET_TUNE_TIMEOUT (R136). -/
def execPresetTuneTimeout (n : Nat) (s : State) : Out :=
  event (fun s => if tuneRanOut s n .preset then presetFail n true s else s) s

/-- The blind timer runs out: the transmitter is past its blind hold and becomes OFFLINE (R143). -/
def blindRanOut (n : Nat) (s : State) : State :=
  updTx n (fun x => { x with blind := none, pastBlind := true }) s
  |> forEach ((ordersOf s n).map (·.id)) (fun id => updOrder id (fun o => { o with blind := false }))
  |> goOffline n

/-- BLIND_HOLD_EXPIRY (R143). -/
def execBlindHoldExpiry (n : Nat) (s : State) : Out :=
  event (fun s => if (txCtl s n).blind = some 0 then blindRanOut n s else s) s

/-! ### Protection (R164) -/

/-- RECOVERY_DELAY_EXPIRY (R164). -/
def execRecoveryDelayExpiry (n : Nat) (s : State) : Out :=
  event (fun s =>
    match (protRec s n).recovery with
    | some d => if d.timer = 0 then decideRecovery n d s else s
    | none => s) s

end Sys2Proof.Machine
end

