-- ==== Sys2Proof/Machine/Dispatch.lean ====
section
/-! DEFINITION. The command dispatch: one arm for each row of the opcode table. -/

namespace Sys2Proof.Machine

/-- The effect of one command on everything but the queue. -/
def exec (i : Instr) (s : State) : Host.Outcome State Fault Refusal :=
  match i with
  | .txDefine tag n defined f => Sys2Proof.Machine.execTxDefine tag n defined f s
  | .txRead tag n => Sys2Proof.Machine.execTxRead tag n s
  | .antDefine tag n defined f => Sys2Proof.Machine.execAntDefine tag n defined f s
  | .antRead tag n => Sys2Proof.Machine.execAntRead tag n s
  | .hallSet tag f => Sys2Proof.Machine.execHallSet tag f s
  | .hallRead tag => Sys2Proof.Machine.execHallRead tag s
  | .lineSet tag rate window => Sys2Proof.Machine.execLineSet tag rate window s
  | .lineRead tag => Sys2Proof.Machine.execLineRead tag s
  | .bankHeader tag bank season validFrom validTo => Sys2Proof.Machine.execBankHeader tag bank season validFrom validTo s
  | .entryPut tag f => Sys2Proof.Machine.execEntryPut tag f s
  | .entryDelete tag bank number => Sys2Proof.Machine.execEntryDelete tag bank number s
  | .entryRead tag bank number selector => Sys2Proof.Machine.execEntryRead tag bank number selector s
  | .entrySuspend tag bank base mask action => Sys2Proof.Machine.execEntrySuspend tag bank base mask action s
  | .bankClear tag bank => Sys2Proof.Machine.execBankClear tag bank s
  | .bankArm tag bank instant => Sys2Proof.Machine.execBankArm tag bank instant s
  | .bankDisarm tag bank => Sys2Proof.Machine.execBankDisarm tag bank s
  | .bankStatus tag => Sys2Proof.Machine.execBankStatus tag s
  | .timeSet tag date hour minute second => Sys2Proof.Machine.execTimeSet tag date hour minute second s
  | .timeRead tag => Sys2Proof.Machine.execTimeRead tag s
  | .automation tag value => Sys2Proof.Machine.execAutomation tag value s
  | .orderManual tag f => Sys2Proof.Machine.execOrderManual tag f s
  | .orderCancel tag id => Sys2Proof.Machine.execOrderCancel tag id s
  | .orderAdvance tag id => Sys2Proof.Machine.execOrderAdvance tag id s
  | .orderList tag n => Sys2Proof.Machine.execOrderList tag n s
  | .orderRead tag id => Sys2Proof.Machine.execOrderRead tag id s
  | .antFlags tag flag action mask => Sys2Proof.Machine.execAntFlags tag flag action mask s
  | .xpClear tag row col position => Sys2Proof.Machine.execXpClear tag row col position s
  | .xpService tag row col => Sys2Proof.Machine.execXpService tag row col s
  | .matrixRead tag selector n => Sys2Proof.Machine.execMatrixRead tag selector n s
  | .txInhibit tag action mask => Sys2Proof.Machine.execTxInhibit tag action mask s
  | .txLockClear tag n => Sys2Proof.Machine.execTxLockClear tag n s
  | .presetPurge tag n freq all => Sys2Proof.Machine.execPresetPurge tag n freq all s
  | .presetRead tag n index freq => Sys2Proof.Machine.execPresetRead tag n index freq s
  | .reportSelect tag action mask => Sys2Proof.Machine.execReportSelect tag action mask s
  | .counterSet tag n cls mask => Sys2Proof.Machine.execCounterSet tag n cls mask s
  | .counterRead tag mask zeroing => Sys2Proof.Machine.execCounterRead tag mask zeroing s
  | .faultRead tag skip => Sys2Proof.Machine.execFaultRead tag skip s
  | .faultClear tag => Sys2Proof.Machine.execFaultClear tag s
  | .store tag => Sys2Proof.Machine.execStore tag s
  | .restartOrderly tag => Sys2Proof.Machine.execRestartOrderly tag s
  | .restartImmediate tag => Sys2Proof.Machine.execRestartImmediate tag s
  | .identify tag => Sys2Proof.Machine.execIdentify tag s
  | .controlLinkByte b => Sys2Proof.Machine.execControlLinkByte b s
  | .gapTimeout => Sys2Proof.Machine.execGapTimeout s
  | .frameTaken => Sys2Proof.Machine.execFrameTaken s
  | .outgoingFrameSent => Sys2Proof.Machine.execOutgoingFrameSent s
  | .powerOn => Sys2Proof.Machine.execPowerOn s
  | .hallKeyChange position => Sys2Proof.Machine.execHallKeyChange position s
  | .safetyChainOpen => Sys2Proof.Machine.execSafetyChainOpen s
  | .safetyChainClose => Sys2Proof.Machine.execSafetyChainClose s
  | .timeMark early windowClosed => Sys2Proof.Machine.execTimeMark early windowClosed s
  | .internalSecondBoundary => Sys2Proof.Machine.execInternalSecondBoundary s
  | .markWatchExpiry => Sys2Proof.Machine.execMarkWatchExpiry s
  | .preparationBegin id => Sys2Proof.Machine.execPreparationBegin id s
  | .movementStart => Sys2Proof.Machine.execMovementStart s
  | .moveTimeout row col => Sys2Proof.Machine.execMoveTimeout row col s
  | .slewStart ant => Sys2Proof.Machine.execSlewStart ant s
  | .slewTimeout ant => Sys2Proof.Machine.execSlewTimeout ant s
  | .pollReplyTlu addr r => Sys2Proof.Machine.execPollReplyTlu addr r s
  | .pollReplyMdu addr positions => Sys2Proof.Machine.execPollReplyMdu addr positions s
  | .pollReplyAru addr r => Sys2Proof.Machine.execPollReplyAru addr r s
  | .transactionMiss cause => Sys2Proof.Machine.execTransactionMiss cause s
  | .commandReply addr fn answer => Sys2Proof.Machine.execCommandReply addr fn answer s
  | .warmUpTimeout n => Sys2Proof.Machine.execWarmUpTimeout n s
  | .idleClockCoolDown n => Sys2Proof.Machine.execIdleClockCoolDown n s
  | .searchTuneTimeout n => Sys2Proof.Machine.execSearchTuneTimeout n s
  | .presetTuneTimeout n => Sys2Proof.Machine.execPresetTuneTimeout n s
  | .blindHoldExpiry n => Sys2Proof.Machine.execBlindHoldExpiry n s
  | .recoveryDelayExpiry n => Sys2Proof.Machine.execRecoveryDelayExpiry n s
  | .rampEnd id => Sys2Proof.Machine.execRampEnd id s
  | .carrierOffConfirmTimeout id => Sys2Proof.Machine.execCarrierOffConfirmTimeout id s
  | .storeWriteComplete => Sys2Proof.Machine.execStoreWriteComplete s
  | .powerLoss => Sys2Proof.Machine.execPowerLoss s

end Sys2Proof.Machine
end

