-- ==== Sys2Proof/Safety.lean ====
section
/-! DEFINITION. What counts as a safe state of the hall, in the terms the statements use. -/

namespace Sys2Proof.Machine

/-- Between two commands the blocks are at rest: no message and no unsent ORDER report is left (log 4). -/
def State.atRest (s : State) : Prop := s.agenda = [] ∧ s.notes = []

/-- Every RF Permit line stands as R120 gives it. -/
def State.permitsFollow (s : State) : Prop := s.pins.permits = (upTo 16).map (permitRule s)

/-- The state between two commands: the blocks at rest and the RF Permit lines under their rule. -/
def State.settled (s : State) : Prop := s.atRest ∧ s.permitsFollow

/-- A settled state of a controller with supply. -/
def State.running (s : State) : Prop := s.pins.powered = true ∧ s.settled

/-- No RF Permit line is ASSERTED. -/
def State.silent (s : State) : Prop := ∀ n, nth s.pins.permits n ≠ some true

/-! ### What a command leaves alone -/

/-- The sizes of the tables (00, Numbering of equipment; R98, R107, R121, R127, R132, R151, R193). -/
structure Sizes where
  memories : List Nat
  prot : Nat
  cols : Nat
  rows : List Nat
  rotators : Nat
  stats : Nat
  deriving DecidableEq, Repr

def State.sizes (s : State) : Sizes where
  memories := s.tx.map (fun x => x.memory.length)
  prot := s.prot.length
  cols := s.dir.cols.length
  rows := s.mx.rows.map List.length
  rotators := s.mx.rotators.length
  stats := s.stats.length

/-- What no order, movement, tune, trip or line result touches: the queue, the image slots, the Hall Description, the
inputs, the unit table and the line settings, the receiving side of the Control Link and the selection set, and the sizes
of the tables. -/
structure Outer where
  pending : List Instr
  store : Store
  hall : Hall
  key : Control
  chainClosed : Bool
  powered : Bool
  units : List UnitEntry
  rate : Nat
  window : Nat
  framing : Framing
  rx : List RxFrame
  linkCounts : Nat × Nat × Nat × Nat
  selected : BitVec 12
  lineOut : List Byte
  sizes : Sizes
  deriving DecidableEq, Repr

def State.outer (s : State) : Outer where
  pending := s.pending
  store := s.store
  hall := s.hall
  key := s.pins.key
  chainClosed := s.pins.chainClosed
  powered := s.pins.powered
  units := s.line.units
  rate := s.line.rate
  window := s.line.window
  framing := s.port.framing
  rx := s.port.rx
  linkCounts := (s.port.badCheck, s.port.badLength, s.port.gap, s.port.overrun)
  selected := s.port.selected
  lineOut := s.port.lineOut
  sizes := s.sizes

/-- The same with the banks, the clock and the staging set, which only their own requests and the second boundary
change, and the INHIBITED and SUSPECT flags of every column, which only ANT-FLAGS, a removal and a lockout change. -/
structure Given where
  outer : Outer
  banks : Banks
  clock : Clock
  staging : Staging
  flags : List (Bool × Bool)
  deriving DecidableEq, Repr

def State.given (s : State) : Given where
  outer := s.outer
  banks := s.banks
  clock := s.clock
  staging := s.staging
  flags := s.dir.cols.map (fun d => (d.inhibited, d.suspect))

/-- The tables have the sizes of the manual: 16 transmitters with 64 memory entries each, 34 columns, 16 rows of 34
crosspoints, 32 rotator records, 8 counters (00, R98, R107, R121, R127, R132, R151, R193). -/
def Sizes.whole : Sizes where
  memories := List.replicate 16 64
  prot := 16
  cols := 34
  rows := List.replicate 16 34
  rotators := 32
  stats := 8

/-- An image fits the tables (R196). -/
def Image.whole (i : Image) : Prop :=
  i.tx.length = 16 ∧ i.ant.length = 32 ∧ i.loads.length = 2 ∧ i.memories.map List.length = List.replicate 16 64 ∧
  i.counts.map List.length = List.replicate 16 34 ∧ i.inhibited.length = 34 ∧ i.suspect.length = 34

/-- A slot's image, if it is good, fits the tables. -/
def Slot.whole : Slot → Prop
  | .bad => True
  | .good _ i => i.whole

/-- Every table of the state, and every image, has the sizes of the manual. -/
def State.whole (s : State) : Prop :=
  s.sizes = Sizes.whole ∧ s.hall.tx.length = 16 ∧ s.hall.ant.length = 32 ∧ s.hall.loads.length = 2 ∧
  s.line.units.length = 63 ∧ s.store.slot1.whole ∧ s.store.slot2.whole ∧ ∀ w ∈ s.store.writing, w.image.whole

/-! ### Invariants -/

/-- A bank holds at most 400 entries, at the numbers 1 to 400, in ascending order (R19). -/
def Bank.inOrder (b : Bank) : Prop :=
  b.entries.length ≤ 400 ∧ b.entries.Pairwise (fun x y => x.number < y.number) ∧
  ∀ e ∈ b.entries, 1 ≤ e.number ∧ e.number ≤ 400

/-- Both banks of a slot's image, if it is good, are in order. -/
def Slot.banksInOrder : Slot → Prop
  | .bad => True
  | .good _ i => i.banks.a.inOrder ∧ i.banks.b.inOrder

/-- The banks of the controller and of its images are in order (R19, R196). -/
def State.banksInOrder (s : State) : Prop :=
  s.banks.a.inOrder ∧ s.banks.b.inOrder ∧ s.store.slot1.banksInOrder ∧ s.store.slot2.banksInOrder ∧
  ∀ w ∈ s.store.writing, w.image.banks.a.inOrder ∧ w.image.banks.b.inOrder

/-- The wait list of an antenna holds at most 32 ids, none twice, each of a live order in a stage from WARMING to RECOVERING
that has the antenna in use, and neither claims it nor is its handover order (R101). An order is therefore in one such list at
most. -/
def State.waitInOrder (s : State) (c : Nat) : Prop :=
  (dirRec s c).waiting.length ≤ Config.maxOrders ∧ (dirRec s c).waiting.Nodup ∧
  ∀ id ∈ (dirRec s c).waiting, (dirRec s c).claiming ≠ some id ∧ (dirRec s c).handover ≠ some id ∧
    ∃ o ∈ s.chg.orders, o.id = id ∧ o.antenna = some c ∧ Stage.between .warming .recovering o.stage = true

/-- The load wait list holds at most 32 ids, none twice, each of a live order in a stage from WARMING to RECOVERING (R104). -/
def State.loadWaitInOrder (s : State) : Prop :=
  s.dir.loadWait.length ≤ Config.maxOrders ∧ s.dir.loadWait.Nodup ∧
  ∀ id ∈ s.dir.loadWait, ∃ o ∈ s.chg.orders, o.id = id ∧ Stage.between .warming .recovering o.stage = true

/-- At most one request of the drive request queue for each crosspoint and direction, and at most as many movements as there
are drive credits (R108, R109). -/
def State.driveInOrder (s : State) : Prop :=
  s.mx.queue.Pairwise (fun p q => (p.row, p.col, p.dir) ≠ (q.row, q.col, q.dir)) ∧
  s.mx.movements.length ≤ s.hall.par.credits

/-- Every queue, ring, table and list stays within its limit: 64 reports, 4 received frames, 32 fault records, 32 line
commands, 32 orders with ids that differ and 5 trip times each, 16 deferred occurrences, 5 trips in a history, the banks, the
antenna wait lists and the load wait list, the drive requests and the movements (R19, R59, R61, R68, R101, R104, R108, R109,
R151, R175, R181, R184, R191). -/
def State.limits (s : State) : Prop :=
  s.port.reports ≤ Config.maxReports ∧ s.port.rx.length ≤ Config.maxReceived ∧ s.log.ring.length ≤ Config.maxFaults ∧
  s.line.queue.length ≤ Config.maxCommands ∧ s.chg.orders.length ≤ Config.maxOrders ∧ (s.chg.orders.map (·.id)).Nodup ∧
  s.staging.deferred.length ≤ Config.maxDeferred ∧ (∀ o ∈ s.chg.orders, o.tripTimes.length ≤ 5) ∧
  (∀ p ∈ s.prot, p.trips.length ≤ 5) ∧ s.banksInOrder ∧ (∀ c ∈ upTo 32, s.waitInOrder c) ∧ s.loadWaitInOrder ∧
  s.driveInOrder

/-- Every foldback factor lies between 500 and 1000 (R155). -/
def State.factorsInRange (s : State) : Prop := ∀ p ∈ s.prot, 500 ≤ p.factor ∧ p.factor ≤ 1000

/-- A remaining-operations count lies between 0 and the operation life, and SERVICE-DUE is set exactly at 0 (R112). -/
def wearOk (life remaining : Nat) (due : Bool) : Prop := remaining ≤ life ∧ (due = true ↔ remaining = 0)

/-- The counts of an image are in order for the operation life it holds. -/
def Image.wearOk (i : Image) : Prop :=
  0 < i.par.opLife ∧ ∀ row ∈ i.counts, ∀ k ∈ row, Machine.wearOk i.par.opLife k.1 k.2

/-- A slot's image, if it is good, has its counts in order. -/
def Slot.wearOk : Slot → Prop
  | .bad => True
  | .good _ i => i.wearOk

/-- Every count of the matrix and of the images is in order (R112). -/
def State.wearInOrder (s : State) : Prop :=
  0 < s.hall.par.opLife ∧ (∀ row ∈ s.mx.rows, ∀ x ∈ row, wearOk s.hall.par.opLife x.remaining x.serviceDue) ∧
  s.store.slot1.wearOk ∧ s.store.slot2.wearOk ∧ ∀ w ∈ s.store.writing, w.image.wearOk

/-! ### What the statements say of a result -/

/-- The OK reply of a request, with its data, joins the report queue (R182). -/
def okReply (kind tag : Nat) (data : ReplyData) : State → State := queueReply kind tag .ok .none data

/-- The reply of a refused request, with no detail, joins the report queue (R182, R183). -/
def refusal (kind tag : Nat) (st : Status) : State → State := queueReply kind tag st .none .none

/-- Bytes that arrive one after another on the Control Link (R181). -/
def feed (l : List Byte) (s : State) : State :=
  l.foldl (fun t b => match exec (.controlLinkByte b) t with
    | .next u => u
    | .fault _ => t
    | .refused _ => t) s

/-- Commands that may change the Hall Description (R2, R10, R14, R146, R197); FRAME_TAKEN carries any request. -/
def definesHall : Instr → Bool
  | .txDefine _ _ _ _ => true
  | .antDefine _ _ _ _ => true
  | .hallSet _ _ => true
  | .txInhibit _ _ _ => true
  | .powerOn => true
  | .frameTaken => true
  | _ => false

/-- Commands that may change the image slots (R196, R197). -/
def writesStore : Instr → Bool
  | .store _ => true
  | .storeWriteComplete => true
  | .powerOn => true
  | .powerLoss => true
  | .frameTaken => true
  | _ => false

/-- Commands that may change the selection set (R185, R188). -/
def selectsReports : Instr → Bool
  | .reportSelect _ _ _ => true
  | .powerOn => true
  | .frameTaken => true
  | _ => false

/-- Commands that may change the line settings (R169, R180). -/
def setsLine : Instr → Bool
  | .lineSet _ _ _ => true
  | .powerOn => true
  | .frameTaken => true
  | _ => false

/-- A turn of the Hall Key. -/
def turnsKey : Instr → Bool
  | .hallKeyChange _ => true
  | _ => false

/-- A change of the Safety Chain. -/
def movesChain : Instr → Bool
  | .safetyChainOpen => true
  | .safetyChainClose => true
  | _ => false

/-- A change of the supply. -/
def switchesSupply : Instr → Bool
  | .powerOn => true
  | .powerLoss => true
  | _ => false

end Sys2Proof.Machine
end

