-- ==== Sys2Proof/WellFormed.lean ====
section
/-! DEFINITION. Which commands can be spelled at all: a tag and a field fit the bytes that R189 gives them, an event names
equipment, an order or an address that exists (00, Numbering of equipment; R68; R170). A well-formed request may still be
refused. -/

namespace Sys2Proof

/-- A number fits `w` bytes (R189). -/
def fits (w n : Nat) : Bool := decide (n < 256 ^ w)

/-- An optional number, if present, fits `w` bytes. -/
def optFits (w : Nat) (n : Option Nat) : Bool := n.all (fits w)

/-- A number of the numbered equipment: 1 to `top`. -/
def numbered (top n : Nat) : Bool := decide (1 ≤ n) && decide (n ≤ top)

/-- A date fits its 4 bytes (R189). -/
def Date.fits (d : Date) : Bool := Sys2Proof.fits 2 d.year && Sys2Proof.fits 1 d.month && Sys2Proof.fits 1 d.day

def optDateFits (d : Option Date) : Bool := d.all Date.fits

def TxFields.fits (f : TxFields) : Bool :=
  optFits 1 f.tlu && optFits 1 f.mdu && optFits 2 f.low && optFits 2 f.high && optFits 2 f.rated && optFits 1 f.modes &&
  optFits 1 f.standby && optFits 2 f.warmUp && optFits 1 f.presetEst && optFits 2 f.searchEst && optFits 1 f.ramp &&
  optFits 2 f.searchPower

def Segment.fits (g : Segment) : Bool := Sys2Proof.fits 2 g.low && Sys2Proof.fits 2 g.high && Sys2Proof.fits 2 g.rating

def RotatorFields.fits (r : RotatorFields) : Bool :=
  Sys2Proof.fits 1 r.aru && optFits 1 r.continuous && optFits 2 r.stopLow && optFits 2 r.stopHigh && Sys2Proof.fits 1 r.rate

def AntFields.fits (f : AntFields) : Bool :=
  optFits 1 f.kind && decide (f.segments.length < 256) && f.segments.all Segment.fits && optFits 2 f.warn &&
  optFits 2 f.trip && f.rotator.all RotatorFields.fits && optFits 2 f.rating

def HallFields.fits (f : HallFields) : Bool :=
  optFits 1 f.lookAhead && optFits 1 f.leadMargin && optFits 1 f.moveEst && optFits 1 f.credits && optFits 1 f.proveTime &&
  optFits 1 f.offConfirm && optFits 1 f.recovery && optFits 2 f.tripWindow && optFits 1 f.tripLimit &&
  optFits 1 f.coolHold && optFits 1 f.blindHold && optFits 1 f.cutoff && optFits 4 f.opLife

def EntryFields.fits (f : EntryFields) : Bool :=
  Sys2Proof.fits 1 f.bank && Sys2Proof.fits 2 f.number && Sys2Proof.fits 2 f.service && Sys2Proof.fits 1 f.days &&
  Sys2Proof.fits 2 f.start && Sys2Proof.fits 2 f.duration && Sys2Proof.fits 1 f.tx && Sys2Proof.fits 2 f.freq &&
  Sys2Proof.fits 1 f.primary && optFits 1 f.alternate && optFits 2 f.azimuth && Sys2Proof.fits 2 f.power &&
  Sys2Proof.fits 1 f.mode && Sys2Proof.fits 1 f.priority && optDateFits f.validFrom && optDateFits f.validTo &&
  Sys2Proof.fits 1 f.suspended

def ManualFields.fits (f : ManualFields) : Bool :=
  Sys2Proof.fits 2 f.service && Sys2Proof.fits 1 f.tx && Sys2Proof.fits 2 f.freq && Sys2Proof.fits 1 f.primary &&
  optFits 1 f.alternate && optFits 2 f.azimuth && Sys2Proof.fits 2 f.power && Sys2Proof.fits 1 f.mode &&
  Sys2Proof.fits 1 f.priority && optFits 4 f.start && Sys2Proof.fits 4 f.ends

/-- The command can be spelled. -/
def Instr.wellFormed : Instr → Bool
  | .txDefine tag n d f => fits 1 tag && fits 1 n && fits 1 d && f.fits
  | .txRead tag n => fits 1 tag && fits 1 n
  | .antDefine tag n d f => fits 1 tag && fits 1 n && fits 1 d && f.fits
  | .antRead tag n => fits 1 tag && fits 1 n
  | .hallSet tag f => fits 1 tag && f.fits
  | .hallRead tag => fits 1 tag
  | .lineSet tag r w => fits 1 tag && optFits 1 r && optFits 1 w
  | .lineRead tag => fits 1 tag
  | .bankHeader tag b k vf vt => fits 1 tag && fits 1 b && optFits 2 k && optDateFits vf && optDateFits vt
  | .entryPut tag f => fits 1 tag && f.fits
  | .entryDelete tag b n => fits 1 tag && fits 1 b && fits 2 n
  | .entryRead tag b n k => fits 1 tag && fits 1 b && fits 2 n && fits 1 k
  | .entrySuspend tag b n m a => fits 1 tag && fits 1 b && fits 2 n && fits 4 m && fits 1 a
  | .bankClear tag b => fits 1 tag && fits 1 b
  | .bankArm tag b t => fits 1 tag && fits 1 b && fits 4 t
  | .bankDisarm tag b => fits 1 tag && fits 1 b
  | .bankStatus tag => fits 1 tag
  | .timeSet tag d h m k => fits 1 tag && d.fits && fits 1 h && fits 1 m && fits 1 k
  | .timeRead tag => fits 1 tag
  | .automation tag v => fits 1 tag && fits 1 v
  | .orderManual tag f => fits 1 tag && f.fits
  | .orderCancel tag id => fits 1 tag && fits 2 id
  | .orderAdvance tag id => fits 1 tag && fits 2 id
  | .orderList tag n => fits 1 tag && fits 1 n
  | .orderRead tag id => fits 1 tag && fits 2 id
  | .antFlags tag f a m => fits 1 tag && fits 1 f && fits 1 a && fits 5 m
  | .xpClear tag r c p => fits 1 tag && fits 1 r && fits 1 c && fits 1 p
  | .xpService tag r c => fits 1 tag && fits 1 r && fits 1 c
  | .matrixRead tag k n => fits 1 tag && fits 1 k && fits 1 n
  | .txInhibit tag a m => fits 1 tag && fits 1 a && fits 2 m
  | .txLockClear tag n => fits 1 tag && fits 1 n
  | .presetPurge tag n f _ => fits 1 tag && fits 1 n && optFits 2 f
  | .presetRead tag n i f => fits 1 tag && fits 1 n && optFits 1 i && optFits 2 f
  | .reportSelect tag a m => fits 1 tag && fits 1 a && fits 2 m
  | .counterSet tag n c m => fits 1 tag && fits 1 n && fits 1 c && fits 2 m
  | .counterRead tag m z => fits 1 tag && fits 1 m && fits 1 z
  | .faultRead tag k => fits 1 tag && fits 1 k
  | .faultClear tag => fits 1 tag
  | .store tag => fits 1 tag
  | .restartOrderly tag => fits 1 tag
  | .restartImmediate tag => fits 1 tag
  | .identify tag => fits 1 tag
  | .controlLinkByte _ => true
  | .gapTimeout => true
  | .frameTaken => true
  | .outgoingFrameSent => true
  | .powerOn => true
  | .hallKeyChange _ => true
  | .safetyChainOpen => true
  | .safetyChainClose => true
  | .timeMark _ _ => true
  | .internalSecondBoundary => true
  | .markWatchExpiry => true
  | .preparationBegin id => numbered 65535 id
  | .movementStart => true
  | .moveTimeout r c => numbered 16 r && numbered 34 c
  | .slewStart a => numbered 32 a
  | .slewTimeout a => numbered 32 a
  | .pollReplyTlu a _ => numbered 63 a
  | .pollReplyMdu a _ => numbered 63 a
  | .pollReplyAru a _ => numbered 63 a
  | .transactionMiss _ => true
  | .commandReply a _ _ => numbered 63 a
  | .warmUpTimeout n => numbered 16 n
  | .idleClockCoolDown n => numbered 16 n
  | .searchTuneTimeout n => numbered 16 n
  | .presetTuneTimeout n => numbered 16 n
  | .blindHoldExpiry n => numbered 16 n
  | .recoveryDelayExpiry n => numbered 16 n
  | .rampEnd id => numbered 65535 id
  | .carrierOffConfirmTimeout id => numbered 65535 id
  | .storeWriteComplete => true
  | .powerLoss => true

end Sys2Proof
end

