-- ==== Sys2Proof/Certificates/Slice0/Obligations.lean ====
section
/-! DEFINITION. The statements for the provers. -/

open Sys2Proof Sys2Proof.Machine

/-! ### The machine -/

/-- The model's own step (log 1): the command at the front of the queue runs on the state with the queue's rest, and on an
empty queue the block idles. -/
def Obligations.StepTakesTheFrontCommand : Prop :=
  (∀ (c : Instr) (rest : List Instr) (s : State),
    step { s with pending := c :: rest } = exec c { s with pending := rest }) ∧
  ∀ s : State, s.pending = [] → step s = .next s

/-- No command stops the part: every fault of the manual is a record, a flag or a report in the state. The model's choice
(log 6): without supply a command has no effect, but for the inputs, the return of the supply and its loss. -/
def Obligations.EveryCommandAnswersAState : Prop :=
  (∀ (c : Instr) (s : State), ∃ t, exec c s = .next t) ∧
  ∀ (c : Instr) (s : State), s.pins.powered = false → turnsKey c = false → movesChain c = false →
    switchesSupply c = false → exec c s = .next s

/-- Reset as power-on gives it to a new part, whose slots are bad: every table empty or at its default, in the Hall
Description, the banks, the clock, staging, the orders, the directory, the matrix, Transmitter Control with its Tuning
Memories, the protection, the Field Line, the Fault Log, the counters and the port (R18, R44, R67, R97, R125, R149, R168, R180,
R188, R191, R194, R197). That reset is a new part just powered on is the model's choice (log 5). -/
def Obligations.ResetLeavesEveryTableAtItsDefault : Prop :=
  let s := State.reset
  (∀ n, txRec? s n = none) ∧ (∀ a, antRec? s a = none) ∧ s.hall.loads = [500, 500] ∧
  s.hall.par =
    { lookAhead := 20, leadMargin := 20, moveEst := 6, credits := 4, proveTime := 3, offConfirm := 5, recovery := 2
      tripWindow := 60, tripLimit := 3, coolHold := 60, blindHold := 10, cutoff := 2, opLife := 200000 } ∧
  (∀ k, bankOf s k = { state := .empty, header := none, activation := none, entries := [] }) ∧
  s.clock.state = .unset ∧ s.clock.time = none ∧ s.clock.setting = none ∧ s.clock.enable = false ∧
  s.staging.through = none ∧ s.staging.deferred = [] ∧ s.chg.orders = [] ∧ s.chg.lastId = 0 ∧
  (∀ c, dirRec s c =
    { state := .free, owner := none, claiming := none, handover := none, inhibited := false, suspect := false
      faultStuck := false, faultDouble := false, faultRotator := false, waiting := [] }) ∧ s.dir.loadWait = [] ∧
  (∀ r c, xpAt s r c = { state := .opened, remaining := 200000, serviceDue := false }) ∧ (∀ a, rotator? s a = none) ∧
  s.mx.queue = [] ∧ s.mx.movements = [] ∧
  (∀ n, let x := txCtl s n
    x.state = .offline ∧ x.tuned = none ∧ x.mode = none ∧ x.telemetry = none ∧ x.warm = none ∧ x.tune = none ∧
    x.carrier = none ∧ x.offWaiters = [] ∧ x.idle = 0 ∧ x.coolDown = .none ∧ x.blind = none ∧ ∀ i, presetAt s n i = none) ∧
  (∀ n, protRec s n =
    { factor := 1000, reported := 1000, base := none, permit := none, sent := 0, acked := 0, rise := none, trips := []
      recovery := none, unproven := false, latch := false }) ∧
  (∀ a, unitAt s a = { kind := none, state := .unbound, misses := 0, owner := 0, lastGood := none }) ∧
  s.line.rate = 1 ∧ s.line.window = 20 ∧ s.line.txn = none ∧ s.line.queue = [] ∧ s.line.heldBack = [] ∧
  s.log.ring = [] ∧ s.log.next = 0 ∧ s.stats = List.replicate 8 { cls := .none, mask := 0, value := 0 } ∧
  s.store.slot1 = .bad ∧ s.store.slot2 = .bad ∧ s.store.writing = none ∧ s.port.selected = 0xFFF ∧
  s.port.rx = [] ∧ s.port.framing = .seeking ∧ s.port.pendingLoss = 0 ∧ s.port.totalLoss = 0 ∧
  s.port.out = [.report .store 0 0 (.store .badImage)] ∧ s.silent

/-- The invariants of the statements below hold right after reset. -/
def Obligations.ResetMeetsEveryInvariant : Prop :=
  State.reset.running ∧ State.reset.whole ∧ State.reset.limits ∧ State.reset.factorsInRange ∧ State.reset.wearInOrder

/-! ### Invariants that every step keeps -/

/-- Between two commands the blocks are at rest (log 4) and every RF Permit line stands as R120 gives it. -/
def Obligations.EveryStepSettlesThePermits : Prop :=
  ∀ s t : State, s.settled → step s = .next t → t.settled

/-- Every table and every stored image keeps the sizes the manual gives it. -/
def Obligations.EveryStepKeepsTheTableSizes : Prop := ∀ s t : State, s.whole → step s = .next t → t.whole

/-- Every queue, ring, table and list stays within its limit: the reports, received frames, fault records, line commands,
orders, trip times and trips, the deferred set, the entries of the banks and of the images' banks, the antenna wait lists with
each order in one of them at most, the load wait list, the drive requests for one crosspoint and direction, and the movements
against the drive credits. -/
def Obligations.EveryStepKeepsTheLimits : Prop := ∀ s t : State, s.limits → step s = .next t → t.limits

/-- Every foldback factor stays between 500 and 1000 (R155). -/
def Obligations.EveryStepKeepsTheFoldbackFactors : Prop :=
  ∀ s t : State, s.factorsInRange → step s = .next t → t.factorsInRange

/-- Every remaining-operations count stays between 0 and the operation life, and SERVICE-DUE exactly at 0 (R112). -/
def Obligations.EveryStepKeepsTheWearCounts : Prop := ∀ s t : State, s.wearInOrder → step s = .next t → t.wearInOrder

/-! ### Rules of the whole machine -/

/-- R120 after every step of a powered controller: a line is ASSERTED exactly while its conditions hold. While the Safety Chain
is OPEN no transmitter is permitted to radiate. That a controller without supply has every line WITHDRAWN is the model's choice
(log 6). -/
def Obligations.APermitIsAssertedExactlyUnderItsConditions : Prop :=
  ∀ s t : State, s.settled → step s = .next t →
    (t.pins.chainClosed = false ∨ t.pins.powered = false → t.silent) ∧
    (t.pins.powered = true → ∀ n, 1 ≤ n → n ≤ 16 →
      (nth t.pins.permits n = some true ↔
        (∃ c, rowWhere t n (fun x => x != .opened) = [c] ∧ (xpAt t n c).state = .closed ∧
          ∀ r, rotator? t c = some r → r.slew ≠ .slewing) ∧
        t.pins.chainClosed = true ∧ (txCtl t n).state ≠ .lockedOut ∧ (txCtl t n).pastBlind = false ∧
        ∃ o ∈ t.chg.orders, o.snap.tx = n ∧ (o.stage.carrier = true ∨ o.stage = .tuning ∧ searching t n = true)))

/-- Each input, the queue, the Hall Description, the image slots, the selection set and the line settings are changed by
the commands named for them and by no other. -/
def Obligations.OnlyTheNamedCommandsChangeTablesAndInputs : Prop :=
  ∀ (c : Instr) (s t : State), exec c s = .next t →
    t.pending = s.pending ∧
    (turnsKey c = false → t.pins.key = s.pins.key) ∧
    (movesChain c = false → t.pins.chainClosed = s.pins.chainClosed) ∧
    (switchesSupply c = false → t.pins.powered = s.pins.powered) ∧
    (definesHall c = false → t.hall = s.hall) ∧
    (writesStore c = false → t.store = s.store) ∧
    (selectsReports c = false → t.port.selected = s.port.selected) ∧
    (setsLine c = false → t.line.rate = s.line.rate ∧ t.line.window = s.line.window)

/-- R93, R139, R142, R148, R167: while the Hall Key is LOCAL no command is offered to any unit (every offer takes a new serial
number). That the STOP of a failed slew, which R123 queues without naming the key, is withheld too is the model's choice
(log 24). -/
def Obligations.NoCommandIsOfferedUnderLocal : Prop :=
  ∀ (c : Instr) (s t : State), s.pins.key = .local → turnsKey c = false → c ≠ .powerOn → exec c s = .next t →
    t.line.serial = s.line.serial

/-- A STORE in flight refuses with BUSY each of the eighteen requests that the table of R196 names, once the checks that come
before are passed, and the refusal changes nothing but the reply queue (R3, R10, R14, R20, R23, R34, R37, R106, R119, R169, R186,
R196). -/
def Obligations.AStoreInFlightRefusesTableChanges : Prop :=
  ∀ (tag : Nat) (s : State), s.pins.powered = true → s.store.writing.isSome = true →
    (∀ n d f, exec (.txDefine tag n d f) s = .next (refusal 0x01 tag .busy s)) ∧
    (∀ a d f, exec (.antDefine tag a d f) s = .next (refusal 0x03 tag .busy s)) ∧
    (∀ f, exec (.hallSet tag f) s = .next (refusal 0x05 tag .busy s)) ∧
    exec (.store tag) s = .next (refusal 0x48 tag .busy s) ∧
    exec (.restartOrderly tag) s = .next (refusal 0x49 tag .busy s) ∧
    exec (.restartImmediate tag) s = .next (refusal 0x49 tag .busy s) ∧
    (∀ rate window : Option Nat, (∀ r ∈ rate, r ≤ 4) → (∀ w ∈ window, 5 ≤ w ∧ w ≤ 100) → (rate.isSome ∨ window.isSome) →
      exec (.lineSet tag rate window) s = .next (refusal 0x07 tag .busy s)) ∧
    (∀ (bank : Nat) (k : BankId), BankId.ofCode bank = some k →
      (∀ (season : Nat) (vf vt : Date), season ≤ 65535 → Date.valid vf = true → Date.valid vt = true →
        exec (.bankHeader tag bank (some season) (some vf) (some vt)) s = .next (refusal 0x10 tag .busy s)) ∧
      (∀ f : EntryFields, f.bank = bank → firstBad (entryRanges f) = none →
        exec (.entryPut tag f) s = .next (refusal 0x11 tag .busy s)) ∧
      (∀ number, 1 ≤ number → number ≤ 400 → exec (.entryDelete tag bank number) s = .next (refusal 0x12 tag .busy s)) ∧
      (∀ base mask action, 1 ≤ base → base ≤ 400 → mask < 4294967296 →
        (∀ i, i < 32 → maskBit mask i = true → base + i ≤ 400) → 1 ≤ action → action ≤ 3 →
        exec (.entrySuspend tag bank base mask action) s = .next (refusal 0x14 tag .busy s)) ∧
      exec (.bankClear tag bank) s = .next (refusal 0x15 tag .busy s) ∧
      (∀ instant, instant % 60 = 0 → instant < 4294967296 →
        exec (.bankArm tag bank instant) s = .next (refusal 0x16 tag .busy s)) ∧
      exec (.bankDisarm tag bank) s = .next (refusal 0x17 tag .busy s)) ∧
    (∀ flag action mask, 1 ≤ flag → flag ≤ 3 → 1 ≤ action → action ≤ 3 → mask < 17179869184 →
      (flag = 2 → action ≠ 3 ∧ maskBit mask 32 = false ∧ maskBit mask 33 = false) → (flag = 3 → action = 2) →
      exec (.antFlags tag flag action mask) s = .next (refusal 0x30 tag .busy s)) ∧
    (∀ row col, 1 ≤ row → row ≤ 16 → col ≤ 34 → exec (.xpService tag row col) s = .next (refusal 0x32 tag .busy s)) ∧
    (∀ action mask, 1 ≤ action → action ≤ 3 → mask < 65536 →
      exec (.txInhibit tag action mask) s = .next (refusal 0x38 tag .busy s)) ∧
    (∀ n (freq : Option Nat) all, 1 ≤ n → n ≤ 16 → (∀ f ∈ freq, freqOk f = true) → (freq.isSome ∨ all = true) →
      exec (.presetPurge tag n freq all) s = .next (refusal 0x3A tag .busy s))

/-! ### Arithmetic of the rules -/

/-- R153: no ratio below the floor, full reflection where Pr is at least Pf, the per mille ratio rounded down
otherwise. -/
def Obligations.ReflectionRatioIsTheRule : Prop :=
  ∀ pf pr : Nat, (pf < 10 → reflection pf pr = none) ∧ (10 ≤ pf → pf ≤ pr → reflection pf pr = some 1000) ∧
    (10 ≤ pf → pr < pf → reflection pf pr = some (1000 * pr / pf) ∧ 1000 * pr / pf ≤ 1000)

/-- R154, R155: between the thresholds the target lies above 500 and at 1000 at most. F falls to a lower target at once, and
otherwise becomes the lesser of the target and F + 50, so that each step of F lies between 500 and the target. -/
def Obligations.FoldbackMovesBetweenFiveHundredAndOneThousand : Prop :=
  ∀ rho warn trip f : Nat, warn < rho → rho < trip → 500 ≤ f → f ≤ 1000 →
    500 < foldTarget rho warn trip ∧ foldTarget rho warn trip ≤ 1000 ∧
    500 ≤ foldStep (foldTarget rho warn trip) f ∧ foldStep (foldTarget rho warn trip) f ≤ foldTarget rho warn trip ∧
    (f ≤ foldTarget rho warn trip → foldStep (foldTarget rho warn trip) f = min (foldTarget rho warn trip) (f + 50)) ∧
    (foldTarget rho warn trip < f → foldStep (foldTarget rho warn trip) f = foldTarget rho warn trip)

/-- R156, R157: with F at most 1000 the permit, the prove level and every setpoint on the ramp lie at or below the base, and
the ramp ends at the permit. -/
def Obligations.NoSetpointExceedsTheBase : Prop :=
  ∀ base f k len : Nat, f ≤ 1000 → 0 < len →
    permitOf base f ≤ base ∧ proveLevel base ≤ base ∧ rampTo (proveLevel base) (permitOf base f) k len ≤ base ∧
    (len ≤ k → rampTo (proveLevel base) (permitOf base f) k len = permitOf base f)

/-- R53: hall day 0 is 2000-01-01, and the date of a hall day and the hall day of a date are inverse, for every calendar date of
2000 to 2099 and for every hall day up to 36,524. -/
def Obligations.CalendarDatesAndHallDaysAgree : Prop :=
  Date.toDay { year := 2000, month := 1, day := 1 } = 0 ∧
  (∀ d : Date, Date.valid d = true → dateOfDay (Date.toDay d) = d ∧ Date.toDay d ≤ 36524) ∧
  ∀ n : Nat, n ≤ 36524 → Date.valid (dateOfDay n) = true ∧ Date.toDay (dateOfDay n) = n

/-- R132: the index of a frequency is below 64, and is the exclusive-or of the two quotients each taken modulo 64. -/
def Obligations.PresetIndexIsTheRule : Prop :=
  ∀ f : Nat, presetIndex f < 64 ∧ presetIndex f = (f / 5 % 64) ^^^ (f / 320 % 64)

/-! ### The Control Link (09) -/

/-- R181: a frame with the right check, arriving at a port that is SEEKING and has room, is received as it was sent. -/
def Obligations.AWellFormedFrameIsReceived : Prop :=
  ∀ (s : State) (kind tag : Nat) (body : List Byte), s.running → s.port.framing = .seeking → s.port.rx.length < 4 →
    kind < 256 → tag < 256 → body.length ≤ 1024 →
    feed (frameBytes kind tag body) s = s.onPort (fun p => { p with rx := p.rx ++ [{ kind, tag, body }] })

/-- R181, R184: a byte advances the framing alone; a gap leaves the port SEEKING, with one GAP count for a partial frame that
holds no sync byte (one that holds a sync byte is read again, log 12); the oldest frame leaves the report queue when its last
byte has been sent. That a gap while SEEKING and a frame sent from an empty queue change nothing is the model's choice
(log 2). -/
def Obligations.LinkEventsActOnThePortAlone : Prop :=
  ∀ (s : State), s.running →
    (∀ b, exec (.controlLinkByte b) s = .next (s.onPort (receive [b]))) ∧
    (s.port.framing = .seeking → exec .gapTimeout s = .next s) ∧
    (∀ got, s.port.framing = .reading got → Config.sync ∉ got →
      exec .gapTimeout s = .next (s.onPort (fun p => { p with framing := .seeking, gap := (p.gap + 1) % 65536 }))) ∧
    (s.port.out = [] → exec .outgoingFrameSent s = .next s) ∧
    ∀ (f : OutFrame) (more : List OutFrame), s.port.out = f :: more →
      exec .outgoingFrameSent s = .next (s.onPort (fun p => { p with out := more, lineOut := f.bytes }))

/-- R182: the oldest frame leaves the buffer and is answered with BAD-KIND, with BAD-LENGTH or, for a value no request
carries (the model's choice, log 15), with BAD-FIELD, or is carried out as the request it spells, once fewer than 4 replies are
outstanding; until then it waits. That a frame taken from an empty buffer changes nothing is the model's choice (log 2). -/
def Obligations.AFrameTakenIsAnsweredOrCarriedOut : Prop :=
  (∀ s : State, s.port.rx = [] ∨ 4 ≤ outstanding s → exec .frameTaken s = .next s) ∧
  ∀ (s : State) (f : RxFrame) (more : List RxFrame), s.running → s.port.rx = f :: more → outstanding s < 4 →
    (readBody f.kind f.tag f.body = .badKind →
      exec .frameTaken s = .next (refusal 0 f.tag .badKind (s.onPort (fun p => { p with rx := more })))) ∧
    (readBody f.kind f.tag f.body = .badLength →
      exec .frameTaken s = .next (refusal f.kind f.tag .badLength (s.onPort (fun p => { p with rx := more })))) ∧
    (readBody f.kind f.tag f.body = .badValue →
      exec .frameTaken s = .next (refusal f.kind f.tag .badField (s.onPort (fun p => { p with rx := more })))) ∧
    (∀ i, readBody f.kind f.tag f.body = .request i →
      ∃ t, exec .frameTaken s = .next t ∧ exec i (s.onPort (fun p => { p with rx := more })) = .next t)

/-- R184: a report offered is ignored, admitted with the sequence number and the pending loss, or dropped and counted. -/
def Obligations.AReportIsIgnoredAdmittedOrDropped : Prop :=
  ∀ (p : Port) (body : ReportBody),
    (p.selected.getLsbD body.kind.position = false → p.offer body = p) ∧
    (p.selected.getLsbD body.kind.position = true → p.reports < 64 →
      p.offer body = { p with out := p.out ++ [.report body.kind p.sequence p.pendingLoss body]
                              sequence := (p.sequence + 1) % 256, pendingLoss := 0 }) ∧
    (p.selected.getLsbD body.kind.position = true → 64 ≤ p.reports →
      p.offer body = { p with pendingLoss := min 255 (p.pendingLoss + 1), totalLoss := (p.totalLoss + 1) % 65536 })

/-- R189: a frame spells only a request whose fields fit their bytes. -/
def Obligations.AFrameSpellsAWellFormedRequest : Prop :=
  ∀ (kind tag : Nat) (body : List Byte) (i : Instr), tag < 256 → readBody kind tag body = .request i → i.wellFormed = true

/-- R17, R37, R47, R118, R146, R169, R182, R185 to R187, R189: bodies written out byte by byte from the request catalogue spell
their requests. The layouts of the bodies that R189 does not tabulate are the model's choice (log 15). -/
def Obligations.SomeBodiesSpellTheirRequests : Prop :=
  readBody 0x02 7 [0x05] = .request (.txRead 7 5) ∧
  readBody 0x07 7 [0xFF, 0x1E] = .request (.lineSet 7 none (some 30)) ∧
  readBody 0x16 7 [0x01, 0x30, 0x00, 0x00, 0x3C] = .request (.bankArm 7 1 805306428) ∧
  readBody 0x20 7 [0x07, 0xEA, 0x02, 0x1C, 0x17, 0x3B, 0x1E] =
    .request (.timeSet 7 { year := 2026, month := 2, day := 28 } 23 59 30) ∧
  readBody 0x31 7 [0x10, 0x22, 0x02] = .request (.xpClear 7 16 34 2) ∧
  readBody 0x38 7 [0x03, 0x80, 0x01] = .request (.txInhibit 7 3 0x8001) ∧
  readBody 0x40 7 [0x01, 0x08, 0x01] = .request (.reportSelect 7 1 0x801) ∧
  readBody 0x49 7 [0x02] = .request (.restartImmediate 7) ∧
  readBody 0x4A 7 [] = .request (.identify 7) ∧ readBody 0x4A 7 [0x00] = .badLength ∧ readBody 0xE0 7 [] = .badKind

/-! ### Requests that read -/

/-- R17, R32, R33, R179: the reads of the stored tables answer them as they stand, and change nothing else. -/
def Obligations.TableReadsAnswerTheTablesAsTheyStand : Prop :=
  ∀ (tag n : Nat) (s : State), s.pins.powered = true →
    (1 ≤ n → n ≤ 16 → exec (.txRead tag n) s = .next (okReply 0x02 tag (.txRec (txRec? s n)) s)) ∧
    (n = 0 ∨ 16 < n → exec (.txRead tag n) s = .next (refusal 0x02 tag .badField s)) ∧
    (1 ≤ n → n ≤ 32 → exec (.antRead tag n) s = .next (okReply 0x04 tag (.antRec (antRec? s n)) s)) ∧
    (n = 33 ∨ n = 34 → exec (.antRead tag n) s = .next (okReply 0x04 tag (.loadRating (loadRating s n)) s)) ∧
    (n = 0 ∨ 34 < n → exec (.antRead tag n) s = .next (refusal 0x04 tag .badField s)) ∧
    exec (.hallRead tag) s = .next (okReply 0x06 tag (.hallParams s.hall.par) s) ∧
    exec (.lineRead tag) s = .next (okReply 0x08 tag (.lineState s.line.rate s.line.window
      (((upTo 63).zip s.line.units).filter (fun x => x.2.state != .unbound)) s.line.txn s.line.queue s.line.heldBack) s) ∧
    exec (.bankStatus tag) s = .next (okReply 0x18 tag (.bankStatus s.banks.a.summary s.banks.b.summary
      (s.clock.time.bind (bankInForce s))) s) ∧
    (∀ bank selector, BankId.ofCode bank = none →
      exec (.entryRead tag bank n selector) s = .next (queueReply 0x13 tag .badField (.field 0 0 0) .none s)) ∧
    (∀ bank k selector, BankId.ofCode bank = some k → n = 0 ∨ 400 < n →
      exec (.entryRead tag bank n selector) s = .next (refusal 0x13 tag .badField s)) ∧
    ∀ bank k, BankId.ofCode bank = some k → 1 ≤ n → n ≤ 400 →
      (∀ e, (bankOf s k).entries.find? (fun x => x.number == n) = some e →
        exec (.entryRead tag bank n 1) s = .next (okReply 0x13 tag (.entry e) s)) ∧
      (∀ e, (bankOf s k).entries.find? (fun x => decide (n ≤ x.number)) = some e →
        exec (.entryRead tag bank n 2) s = .next (okReply 0x13 tag (.entry e) s)) ∧
      ((∀ x ∈ (bankOf s k).entries, x.number ≠ n) →
        exec (.entryRead tag bank n 1) s = .next (refusal 0x13 tag .notFound s)) ∧
      ((∀ x ∈ (bankOf s k).entries, x.number < n) →
        exec (.entryRead tag bank n 2) s = .next (refusal 0x13 tag .notFound s))

/-- R124, R187, with the reads of R52, R147 and R192: the reads of the running state answer it as it stands, and change nothing
else. -/
def Obligations.StateReadsAnswerTheStateAsItStands : Prop :=
  ∀ (tag : Nat) (s : State), s.pins.powered = true →
    exec (.timeRead tag) s = .next (okReply 0x21 tag (.timeRead
      { time := s.clock.time, state := s.clock.state, setting := s.clock.setting.map (·.value)
        through := s.staging.through, enable := s.clock.enable, key := s.pins.key, auto := isAuto s
        deferred := s.staging.deferred.length }) s) ∧
    (∀ n, 1 ≤ n → n ≤ 16 → exec (.matrixRead tag 1 n) s = .next (okReply 0x33 tag (.matrixRow (rowXps s n)
      ((nth s.pins.permits n).getD false) ((s.mx.movements.find? (fun m => m.row == n)).map Movement.shown)
      (s.mx.queue.filter (fun q => q.row == n))) s)) ∧
    (∀ n, 1 ≤ n → n ≤ 34 → exec (.matrixRead tag 2 n) s = .next (okReply 0x33 tag (.matrixColumn (dirRec s n)
      (if n ≤ 32 then (dirRec s n).waiting else s.dir.loadWait) ((upTo 16).map (fun r => xpAt s r n)) (rotator? s n)) s)) ∧
    exec (.matrixRead tag 3 0) s = .next (okReply 0x33 tag (.matrixDrive s.hall.par.credits (creditsFree s)
      (s.mx.movements.map Movement.place) (grantOrder s)) s) ∧
    (∀ k n, k = 0 ∨ 3 < k ∨ k = 1 ∧ (n = 0 ∨ 16 < n) ∨ k = 2 ∧ (n = 0 ∨ 34 < n) ∨ k = 3 ∧ n ≠ 0 →
      exec (.matrixRead tag k n) s = .next (refusal 0x33 tag .badField s)) ∧
    (∀ n i, 1 ≤ n → n ≤ 16 → i ≤ 63 →
      exec (.presetRead tag n (some i) none) s = .next (okReply 0x3B tag (.preset (presetReply s n i none)) s)) ∧
    (∀ n f p, 1 ≤ n → n ≤ 16 → freqOk f = true → presetHit s n f = some p →
      exec (.presetRead tag n none (some f)) s =
        .next (okReply 0x3B tag (.preset (presetReply s n (presetIndex f) (some (presetIndex f)))) s)) ∧
    (∀ skip, skip ≤ 31 → exec (.faultRead tag skip) s = .next (okReply 0x43 tag (.faults s.log.ring.length
      (s.log.ring.head?.map (·.number)) s.log.next ((s.log.ring.drop skip).take 8)) s)) ∧
    exec (.identify tag) s = .next (okReply 0x4A tag (.identify
      { part := 0x7420, revision := 3, maxBody := 1024
        badCheck := s.port.badCheck, badLength := s.port.badLength, gap := s.port.gap, overrun := s.port.overrun
        totalLoss := s.port.totalLoss, reports := s.port.reports, sequence := s.port.sequence
        selected := s.port.selected }) s)

/-- R91: ORDER-LIST lists every live order, or those of the transmitter named, in ascending order of start and then of id;
ORDER-READ returns the whole record of a live order, and NOT-FOUND where no live order has the id; the id 0, which spells an absent
one (R189), is refused with BAD-FIELD. -/
def Obligations.OrderListIsCompleteAndSorted : Prop :=
  ∀ (tag n : Nat) (s : State), s.pins.powered = true →
    (16 < n → exec (.orderList tag n) s = .next (refusal 0x2B tag .badField s)) ∧
    (n ≤ 16 → ∃ l, exec (.orderList tag n) s = .next (okReply 0x2B tag (.orderList l) s) ∧
      l.Perm (if n = 0 then s.chg.orders else s.chg.orders.filter (fun o => o.snap.tx == n)) ∧
      l.Pairwise (fun x y => x.start < y.start ∨ x.start = y.start ∧ x.id ≤ y.id)) ∧
    (∀ id o, id ≠ 0 → order? s id = some o → exec (.orderRead tag id) s = .next (okReply 0x2C tag (.orderRecord o) s)) ∧
    (∀ id, id ≠ 0 → order? s id = none → exec (.orderRead tag id) s = .next (refusal 0x2C tag .notFound s)) ∧
    exec (.orderRead tag 0) s = .next (refusal 0x2C tag .badField s)

/-! ### The Hall Description and the settings (01, 08) -/

/-- R14, R15, R169: LINE-SET and HALL-SET change the settings they carry and keep the others; a lowered operation life cuts
the counts above it. -/
def Obligations.SettingsTakeTheValuesGiven : Prop :=
  ∀ (tag : Nat) (s : State), s.running → s.store.writing = none →
    (∀ rate window : Option Nat, (∀ r ∈ rate, r ≤ 4) → (∀ w ∈ window, 5 ≤ w ∧ w ≤ 100) →
      (rate.isSome ∨ window.isSome) →
      exec (.lineSet tag rate window) s = .next (okReply 0x07 tag
        (.lineSettings (rate.getD s.line.rate) (window.getD s.line.window))
        (s.onLine (fun l => { l with rate := rate.getD l.rate, window := window.getD l.window })))) ∧
    (∀ f : HallFields, firstBad (hallRanges f) = none → HallFields.empty f = false →
      (f.credits = none ∨ s.mx.movements = []) →
      ∃ t, exec (.hallSet tag f) s = .next (okReply 0x05 tag .none t) ∧
        { t with hall := s.hall, mx := s.mx } = s ∧ { t.hall with par := s.hall.par } = s.hall ∧
        { t.mx with rows := s.mx.rows } = s.mx ∧ t.hall.par = HallParams.set s.hall.par f ∧
        t.mx.rows = if t.hall.par.opLife < s.hall.par.opLife then
            s.mx.rows.map (List.map (fun x => { x with remaining := min x.remaining t.hall.par.opLife }))
          else s.mx.rows)

/-- R7: an accepted TX-DEFINE writes the record, binds a new address and unbinds the old one, makes the transmitter OFFLINE at
a change of its TLU (R129: unless it is LOCKED-OUT), and keeps exactly the presets inside the new range; a removal clears the
record, its bindings, its Tuning Memory and its protection. That a change of the TLU leaves telemetry and tuned frequency absent
is the model's choice (log 25). -/
def Obligations.ATransmitterIsDefinedOrRemoved : Prop :=
  ∀ (tag n : Nat) (s : State), s.running → s.whole → 1 ≤ n → n ≤ 16 → s.store.writing = none → ordersOf s n = [] →
    (∀ f : TxFields, let r := txRecord f (((txRec? s n).map (·.inhibited)).getD false)
      firstBad (txRanges f) = none → txInconsistent s n r = none →
      failingEntry s (fun e => e.tx == n && (!within r.low r.high e.freq || !ModeSet.has r.modes e.mode)) = none →
      ((∀ o ∈ txRec? s n, o.mdu = r.mdu) ∨ rowWhere s n XpState.inFlight = []) →
      ∃ u, exec (.txDefine tag n 1 f) s = .next (okReply 0x01 tag .none (settle u)) ∧
        { u with line := s.line, tx := s.tx, chg := s.chg, agenda := s.agenda } =
          s.onHall (fun h => { h with tx := updNth h.tx n (fun _ => some r) }) ∧
        (∀ m, m ≠ n → txCtl u m = txCtl s m) ∧
        (∀ i p, presetAt u n i = some p ↔ presetAt s n i = some p ∧ r.low ≤ p.freq ∧ p.freq ≤ r.high) ∧
        ((txRec? s n).map (·.tlu) ≠ some r.tlu →
          unitAt u r.tlu = { kind := some .tlu, state := .alive, owner := n } ∧
          (txCtl u n).telemetry = none ∧ (txCtl u n).tuned = none ∧
          ((txCtl s n).state ≠ .lockedOut → (txCtl u n).state = .offline)) ∧
        (∀ o, txRec? s n = some o →
          (o.tlu ≠ r.tlu → o.tlu ≠ r.mdu → unitAt u o.tlu = {}) ∧ (o.mdu ≠ r.mdu → o.mdu ≠ r.tlu → unitAt u o.mdu = {})) ∧
        ((txRec? s n).map (·.mdu) ≠ some r.mdu →
          unitAt u r.mdu = { kind := some .mdu, state := .alive, owner := n })) ∧
    (∀ f, (∀ r ∈ otherTx s n, r.standby ≠ some n) → failingEntry s (fun e => e.tx == n) = none →
      rowWhere s n XpState.inFlight = [] →
      (txRec? s n = none → exec (.txDefine tag n 2 f) s = .next (okReply 0x01 tag .none s)) ∧
      (∀ o, txRec? s n = some o →
        ∃ u, exec (.txDefine tag n 2 f) s = .next (okReply 0x01 tag .none (settle u)) ∧
          { u with line := s.line, tx := s.tx, chg := s.chg, agenda := s.agenda, prot := s.prot, port := s.port } =
            s.onHall (fun h => { h with tx := updNth h.tx n (fun _ => none) }) ∧
          (∀ m, m ≠ n → txCtl u m = txCtl s m ∧ protRec u m = protRec s m) ∧
          (∀ i, presetAt u n i = none) ∧ (txCtl u n).state = .offline ∧ (protRec u n).factor = 1000 ∧
          (protRec u n).trips = [] ∧ unitAt u o.tlu = {} ∧ unitAt u o.mdu = {}))

/-- R9, R12, R13: an accepted ANT-DEFINE writes the record; a changed ARU address unbinds the old unit, binds the new one and
clears the last azimuth, and the rotator keeps its slew state and target (that its moving and fault indications stay too is the
model's choice, log 57); a removal clears the record, its rotator, its binding and its INHIBITED and SUSPECT flags (also those of
an antenna undefined already: the model's choice, log 58); a load takes its rating. -/
def Obligations.AnAntennaIsDefinedOrRemoved : Prop :=
  ∀ (tag a : Nat) (s : State), s.running → s.whole → s.store.writing = none →
    (∀ f : AntFields, 1 ≤ a → a ≤ 32 → antRangeFault f = none → antInconsistent s a f = none →
      failingEntry s (entryFailsAnt a (antRecord f)) = none → antBusy s a (antRecord f).rotator = false →
      ∃ u, exec (.antDefine tag a 1 f) s = .next (okReply 0x03 tag .none (settle u)) ∧
        { u with line := s.line, mx := s.mx, agenda := s.agenda } =
          s.onHall (fun h => { h with ant := updNth h.ant a (fun _ => some (antRecord f)) }) ∧
        { u.mx with rotators := s.mx.rotators } = s.mx ∧ (∀ b, b ≠ a → rotator? u b = rotator? s b) ∧
        (rotatorPart? s a = none → (antRecord f).rotator.isSome → rotator? u a = some {}) ∧
        (∀ p, rotatorPart? s a = some p →
          ((antRecord f).rotator = none → rotator? u a = none ∧ unitAt u p.aru = {}) ∧
          ∀ q, (antRecord f).rotator = some q →
            (p.aru ≠ q.aru → unitAt u p.aru = {} ∧
              rotator? u a = (rotator? s a).map (fun k => { k with azimuth := none })) ∧
            (p.aru = q.aru → rotator? u a = rotator? s a ∧ u.line = s.line)) ∧
        (∀ q, (antRecord f).rotator = some q → (rotatorPart? s a).map (·.aru) ≠ some q.aru →
          unitAt u q.aru = { kind := some .aru, state := .alive, owner := a })) ∧
    (∀ f : AntFields, 1 ≤ a → a ≤ 32 → failingEntry s (fun e => e.primary == a || e.alternate == some a) = none →
      antBusy s a none = false →
      ∃ u, exec (.antDefine tag a 2 f) s = .next (okReply 0x03 tag .none (settle u)) ∧
        { u with line := s.line, mx := s.mx, agenda := s.agenda, dir := s.dir, port := s.port } =
          s.onHall (fun h => { h with ant := updNth h.ant a (fun _ => none) }) ∧
        (∀ b, b ≠ a → dirRec u b = dirRec s b) ∧
        dirRec u a = { dirRec s a with inhibited := false, suspect := false } ∧
        (∀ p, rotatorPart? s a = some p → rotator? u a = none ∧ unitAt u p.aru = {})) ∧
    (∀ k, a = 33 ∨ a = 34 → 100 ≤ k → k ≤ 1000 → (∀ n r, txRec? s n = some r → r.searchPower ≤ k) →
      (dirRec s a).state ≠ .reserved → (dirRec s a).state ≠ .assigned →
      exec (.antDefine tag a 1 { rating := some k }) s = .next (okReply 0x03 tag .none
        (s.onHall (fun h => { h with loads := updNth h.loads (a - 32) (fun _ => k) }))))

/-! ### The Schedule Banks (02) -/

/-- R20, R30, R31: BANK-HEADER, ENTRY-DELETE and BANK-CLEAR change their bank alone; an ARMED or ACTIVE bank refuses each of
the three. -/
def Obligations.BankEditsChangeTheirBankAlone : Prop :=
  ∀ (tag bank : Nat) (k : BankId) (s : State), s.running → s.store.writing = none → BankId.ofCode bank = some k →
    ((bankOf s k).state = .armed →
      exec (.bankClear tag bank) s = .next (refusal 0x15 tag .armed s) ∧
      (∀ number, 1 ≤ number → number ≤ 400 →
        exec (.entryDelete tag bank number) s = .next (refusal 0x12 tag .armed s)) ∧
      ∀ (season : Nat) (vf vt : Date), season ≤ 65535 → Date.valid vf = true → Date.valid vt = true →
        exec (.bankHeader tag bank (some season) (some vf) (some vt)) s = .next (refusal 0x10 tag .armed s)) ∧
    ((bankOf s k).state = .active →
      exec (.bankClear tag bank) s = .next (refusal 0x15 tag .activeBank s) ∧
      (∀ number, 1 ≤ number → number ≤ 400 →
        exec (.entryDelete tag bank number) s = .next (refusal 0x12 tag .activeBank s)) ∧
      ∀ (season : Nat) (vf vt : Date), season ≤ 65535 → Date.valid vf = true → Date.valid vt = true →
        exec (.bankHeader tag bank (some season) (some vf) (some vt)) s = .next (refusal 0x10 tag .activeBank s)) ∧
    ((bankOf s k).state ≠ .armed → (bankOf s k).state ≠ .active →
      exec (.bankClear tag bank) s = .next (okReply 0x15 tag .none
        (updBank k (fun x => { x with entries := [], header := none, state := .empty }) s)) ∧
      (∀ number, 1 ≤ number → number ≤ 400 → (∃ e ∈ (bankOf s k).entries, e.number = number) →
        exec (.entryDelete tag bank number) s = .next (okReply 0x12 tag .none
          (updBank k (fun x => { x with entries := x.entries.filter (fun e => e.number != number) }) s))) ∧
      (∀ (season : Nat) (vf vt : Date), season ≤ 65535 → Date.valid vf = true → Date.valid vt = true →
        Date.toDay vf ≤ Date.toDay vt →
        headerConflict (some { season := season, validFrom := Date.toDay vf, validTo := Date.toDay vt })
          (bankOf s k).entries = none →
        exec (.bankHeader tag bank (some season) (some vf) (some vt)) s = .next (okReply 0x10 tag .none
          (updBank k (fun x => { x with
            header := some { season := season, validFrom := Date.toDay vf, validTo := Date.toDay vt }
            state := .loaded }) s))))

/-- R25: an accepted ENTRY-PUT fills its number, or replaces the entry there whole, with its SUSPENDED flag, and leaves every
other entry of the bank, in ascending order, and the rest of the state as they were; an alternate equal to the primary and
absent dates are stored as absent, and the bank is LOADED. -/
def Obligations.AnEntryIsPutAtItsNumber : Prop :=
  ∀ (tag : Nat) (f : EntryFields) (k : BankId) (s : State), s.running → s.store.writing = none →
    BankId.ofCode f.bank = some k → (bankOf s k).state ≠ .armed → (bankOf s k).state ≠ .active →
    firstBad (entryRanges f) = none →
    programmeFault s { (entryRecord f).snapshot with alternate := f.alternate } = none →
    (∀ a ∈ f.validFrom, ∀ z ∈ f.validTo, Date.toDay a ≤ Date.toDay z) →
    (∀ x ∈ (bankOf s k).entries, x.number ≠ f.number →
      entriesConflict (bankOf s k).header (entryRecord f) x = false) →
    (bankOf s k).entries.Pairwise (fun x y => x.number < y.number) →
    ∃ l, exec (.entryPut tag f) s = .next (okReply 0x11 tag .none
        (updBank k (fun x => { x with entries := l, state := .loaded }) s)) ∧
      l.Pairwise (fun x y => x.number < y.number) ∧
      (∀ x, x ∈ l ↔ x = entryRecord f ∨ x ∈ (bankOf s k).entries ∧ x.number ≠ f.number) ∧
      (entryRecord f).alternate = (if f.alternate = some f.primary then none else f.alternate) ∧
      (entryRecord f).validFrom = f.validFrom.map Date.toDay ∧ (entryRecord f).validTo = f.validTo.map Date.toDay ∧
      (entryRecord f).suspended = decide (f.suspended = 1)

/-- R37, R38: a LOADED bank with a header is armed for a whole minute that lies far enough ahead, and an ARMED bank is
disarmed until the staged-through instant reaches its activation. -/
def Obligations.ABankIsArmedAndDisarmed : Prop :=
  ∀ (tag bank : Nat) (k : BankId) (s : State), s.running → s.store.writing = none → BankId.ofCode bank = some k →
    (∀ (instant h : Nat) (hd : Header), instant % 60 = 0 → instant < 4294967296 → s.clock.time = some h →
      (bankOf s k).state = .loaded → (bankOf s k).header = some hd → (bankOf s k.other).state ≠ .armed →
      instant / 86400 ≤ hd.validTo → h + 60 * s.hall.par.lookAhead + 60 ≤ instant →
      (∀ t ∈ s.staging.through, t < instant) →
      exec (.bankArm tag bank instant) s = .next (okReply 0x16 tag .none
        (updBank k (fun x => { x with state := .armed, activation := some instant }) s))) ∧
    (∀ a, (bankOf s k).state = .armed → (bankOf s k).activation = some a →
      ((∀ t ∈ s.staging.through, t < a) →
        exec (.bankDisarm tag bank) s = .next (okReply 0x17 tag .none
          (updBank k (fun x => { x with state := .loaded, activation := none }) s))) ∧
      (∀ t, s.staging.through = some t → a ≤ t →
        exec (.bankDisarm tag bank) s = .next (refusal 0x17 tag .tooLate s))) ∧
    ((bankOf s k).state ≠ .armed → exec (.bankDisarm tag bank) s = .next (refusal 0x17 tag .stateRefused s))

/-- R34 to R36: ENTRY-SUSPEND changes the SUSPENDED flag of the entries named and nothing else of the banks; a SET withdraws
the STAGED orders and drops the deferred occurrences of every entry it suspends. The resume of an entry whose bank is ARMED or
ACTIVE stages at once its occurrence from now + 1 minute up to the staged-through instant, for which its bank is in force, unless
a live order has its origin; also where the deferred set holds that origin, which then leaves it. In an EMPTY or LOADED bank, or
while the clock or the staged-through instant is unset, a resume stages nothing. -/
def Obligations.SuspensionActsOnTheEntriesNamed : Prop :=
  ∀ (tag bank base mask action : Nat) (k : BankId) (s : State), s.running → s.store.writing = none →
    BankId.ofCode bank = some k → 1 ≤ base → base ≤ 400 → mask < 4294967296 →
    (∀ i, i < 32 → maskBit mask i = true → base + i ≤ 400) → 1 ≤ action → action ≤ 3 →
    ((bankOf s k).entries.map (·.number)).Nodup →
    let named (e : Entry) : Prop := base ≤ e.number ∧ e.number < base + 32 ∧ maskBit mask (e.number - base) = true
    ∃ u, exec (.entrySuspend tag bank base mask action) s =
        .next (okReply 0x14 tag (.suspensions (suspensions k base (settle u))) (settle u)) ∧
      u.given.outer = s.given.outer ∧ u.clock = s.clock ∧ bankOf u k.other = bankOf s k.other ∧
      { bankOf u k with entries := (bankOf s k).entries } = bankOf s k ∧
      (bankOf u k).entries.length = (bankOf s k).entries.length ∧
      (∀ e ∈ (bankOf s k).entries, named e → { e with suspended := applyAction action e.suspended } ∈ (bankOf u k).entries) ∧
      (∀ e ∈ (bankOf s k).entries, ¬ named e → e ∈ (bankOf u k).entries) ∧
      (action = 1 → ∀ e ∈ (bankOf s k).entries, e.suspended = false → named e →
        (∀ o ∈ u.chg.orders, o.stage = .staged → ∀ st, o.origin ≠ .schedule k e.number st) ∧
        ∀ d ∈ u.staging.deferred, ¬ (d.bank = k ∧ d.entry = e.number)) ∧
      (action = 2 → (bankOf s k).state ≠ .armed ∧ (bankOf s k).state ≠ .active ∨ s.clock.time = none ∨
          s.staging.through = none → u.chg = s.chg ∧ u.staging = s.staging) ∧
      ∀ (e : Entry) (h through day : Nat), action = 2 → mask = 1 → base = e.number → e ∈ (bankOf s k).entries →
        e.suspended = true → (bankOf s k).state = .armed ∨ (bankOf s k).state = .active → s.clock.time = some h →
        s.staging.through = some through → e.start < 1440 →
        let due (d : Nat) : Prop := occursOn (bankOf s k).header e d = true ∧ h + 60 ≤ occurrenceStart e d ∧
          occurrenceStart e d ≤ through ∧ bankInForce s (occurrenceStart e d) = some k
        let start := occurrenceStart e day
        due day → (∀ d, due d → d = day) → (∀ o ∈ s.chg.orders, o.origin ≠ .schedule k e.number start) →
        admissionFault s (occurrence k e start).candidate = none →
        ∃ o, order? u (newId s) = some o ∧ o.origin = .schedule k e.number start ∧ o.snap = e.snapshot ∧ o.start = start ∧
          o.ends = start + 60 * e.duration ∧ o.stage = .staged ∧ o.prepare = start - leadTime s e.snapshot ∧
          u.chg.orders.length = s.chg.orders.length + 1 ∧
          ∀ d ∈ u.staging.deferred, d.origin ≠ .schedule k e.number start

/-! ### The clock and AUTO (03) -/

/-- R47, R55, R56, R63: TIME-SET sets the pending time setting; AUTOMATION sets the enable, and nothing else when it repeats the
value held. Where it begins AUTO, staging has scanned up to now + the look-ahead, an unset staged-through instant counting as now
- 1 second (at hall time 0 as 0: the model's choice, log 63); and catch-up has staged, with LATE-START and a prepare instant of
now, an occurrence of the bank in force whose start has passed and whose end lies beyond the late-start cutoff. Catch-up
considers the whole minutes before now and later than now + the cutoff - 1,440 minutes. -/
def Obligations.ClockRequestsSetTheClock : Prop :=
  ∀ (tag : Nat) (s : State), s.running →
    (∀ (d : Date) (hour minute second : Nat), Date.valid d = true → hour ≤ 23 → minute ≤ 59 → second ≤ 59 →
      let value := Date.toDay d * 86400 + hour * 3600 + minute * 60 + second
      let p : PendingSetting := { value := value, takenAt := s.clock.time, boundaries := 0 }
      exec (.timeSet tag d hour minute second) s = .next (okReply 0x20 tag (.timeSet s.clock.state s.clock.time)
        (s.onClock (fun c => { c with setting := some p })))) ∧
    (∀ v, 1 ≤ v → v ≤ 2 → ∃ t, exec (.automation tag v) s =
        .next (okReply 0x22 tag (.automation (decide (v = 1)) (isAuto t)) t) ∧
      t.clock = { s.clock with enable := decide (v = 1) } ∧ t.banks = s.banks ∧ t.given.outer = s.given.outer ∧
      (s.clock.enable = decide (v = 1) → t = s) ∧
      (isAuto s = true → v = 2 →
        ∀ o ∈ t.chg.orders, isScheduled o = true → Stage.between .staged .poised o.stage = true → o.held = true) ∧
      (isAuto s = false → isAuto t = true →
        t.staging.through = some (max (s.staging.through.getD (now s - 1)) (now s + 60 * s.hall.par.lookAhead)) ∧
        (∀ o ∈ t.chg.orders, o.held = false) ∧
        ∀ (k : BankId) (e : Entry) (start : Nat), (bankOf s k).state = .active → (bankOf s k).entries = [e] →
          (bankOf s k.other).state = .empty → s.chg.orders = [] → s.staging.deferred = [] → e.suspended = false →
          occursOn (bankOf s k).header e (hallDay start) = true → e.start = minuteOfDay start →
          start ∈ catchMinutes (now s) (cutoffSecs s) → now s + cutoffSecs s < start + 60 * e.duration →
          admissionFault s (occurrence k e start).candidate = none →
          ∃ o ∈ t.chg.orders, o.origin = .schedule k e.number start ∧ o.snap = e.snapshot ∧ o.start = start ∧
            o.ends = start + 60 * e.duration ∧ o.lateStart = true ∧ o.prepare = now s ∧ o.stage = .staged)) ∧
    ∀ h c m : Nat, m ∈ catchMinutes h c ↔ m % 60 = 0 ∧ m < h ∧ h + c < m + 86400

/-- R39, R45, R46, R48, R57, R62: every Time Mark and every internal second boundary leaves the clock as the rules give it: the
hall time, the clock state, a pending setting, the mark watch. A mark that comes less than half a second after an internal
boundary advances nothing, however many come. At a boundary an ARMED bank whose instant has come becomes ACTIVE; at a minute
boundary the deferred occurrences too near their end are dropped, and in AUTO the bank in force is scanned up to now + the
look-ahead; any other boundary stages nothing. The two bits of TIME_MARK and the set window counted in boundaries are the model's
choice (log 7), as are the hall time modulo 2^32 (log 10) and a watch expiry that has not run out changing nothing (log 2). -/
def Obligations.TheClockFollowsMarksAndBoundaries : Prop :=
  ∀ s : State, s.running →
    (∀ early closed, early = false ∨ s.clock.lastInternal = false → s.clock.setting = none →
      ∃ t, exec (.timeMark early closed) s = .next t ∧ t.given.outer = s.given.outer ∧
        t.clock = { s.clock with
          time := s.clock.time.map (fun h => (h + 1) % 4294967296)
          state := if s.clock.state = .holdover then .valid else s.clock.state
          watch := 3, lastInternal := false } ∧
        ∀ h, s.clock.time = some h → h + 1 < 4294967296 →
          (∀ (k : BankId) (at_ : Nat), (bankOf s k).state = .armed → (bankOf s k).activation = some at_ → at_ ≤ h + 1 →
            (bankOf s k.other).state ≠ .armed →
            bankOf t k = { bankOf s k with state := .active, activation := none } ∧
            bankOf t k.other = if (bankOf s k.other).state = .active then { bankOf s k.other with state := .loaded }
              else bankOf s k.other) ∧
          ((h + 1) % 60 ≠ 0 → t.staging = s.staging) ∧
          ((h + 1) % 60 = 0 → isAuto s = false →
            let stays (d : Deferred) : Bool := decide (h + 1 + 60 * s.hall.par.cutoff < d.ends)
            t.staging = { s.staging with deferred := s.staging.deferred.filter stays }) ∧
          ((h + 1) % 60 = 0 → isAuto s = true →
            t.staging.through = some (max (s.staging.through.getD 0) (h + 1 + 60 * s.hall.par.lookAhead)) ∧
            ∀ (k : BankId) (e : Entry) (through start : Nat), (bankOf s k).state = .active → (bankOf s k).entries = [e] →
              (bankOf s k.other).state = .empty → s.chg.orders = [] → s.staging.deferred = [] → e.suspended = false →
              s.hall.par.lookAhead ≤ 60 → s.staging.through = some through →
              occursOn (bankOf s k).header e (hallDay start) = true → e.start = minuteOfDay start → start % 60 = 0 →
              through < start → h + 1 ≤ start → start ≤ h + 1 + 60 * s.hall.par.lookAhead →
              h + 1 + 60 * s.hall.par.cutoff < start + 60 * e.duration →
              admissionFault s (occurrence k e start).candidate = none →
              ∃ o ∈ t.chg.orders, o.origin = .schedule k e.number start ∧ o.snap = e.snapshot ∧ o.start = start ∧
                o.ends = start + 60 * e.duration ∧ o.lateStart = false ∧ o.stage = .staged)) ∧
    (∀ closed, s.clock.lastInternal = true → s.clock.setting = none →
      ∃ t, exec (.timeMark true closed) s = .next t ∧ { t with clock := s.clock, port := s.port } = s ∧
        t.clock = { s.clock with
          state := if s.clock.state = .holdover then .valid else s.clock.state
          watch := 3 }) ∧
    (∀ early closed p, s.clock.setting = some p →
      ∃ t, exec (.timeMark early closed) s = .next t ∧ t.given.outer = s.given.outer ∧
        t.clock = { s.clock with
          time := some ((if windowShut p closed then p.value + 2 else p.value) % 4294967296)
          state := .valid, setting := none, watch := 3, lastInternal := early && s.clock.lastInternal }) ∧
    (s.clock.setting = none →
      ∃ t, exec .internalSecondBoundary s = .next t ∧ t.given.outer = s.given.outer ∧
        t.clock = { s.clock with
          time := s.clock.time.map (fun h => (h + 1) % 4294967296)
          watch := s.clock.watch - 1, lastInternal := true }) ∧
    (∀ p, s.clock.setting = some p →
      ∃ t, exec .internalSecondBoundary s = .next t ∧ t.given.outer = s.given.outer ∧
        (2 ≤ p.boundaries → t.clock = { s.clock with
          time := some ((p.value + 2) % 4294967296), state := .holdover, setting := none
          watch := s.clock.watch - 1, lastInternal := true }) ∧
        (p.boundaries < 2 → t.clock = { s.clock with
          time := s.clock.time.map (fun h => (h + 1) % 4294967296)
          setting := some { p with boundaries := p.boundaries + 1 }
          watch := s.clock.watch - 1, lastInternal := true })) ∧
    (s.clock.state = .valid → s.clock.watch = 0 →
      exec .markWatchExpiry s =
        .next (clockReport .valid .markWatch none (s.onClock (fun c => { c with state := .holdover })))) ∧
    (s.clock.state ≠ .valid ∨ s.clock.watch ≠ 0 → exec .markWatchExpiry s = .next s)

/-! ### Orders (03, 04) -/

/-- R57, R59 to R62, R68, R90: an ORDER-MANUAL that passes its checks and admission creates one STAGED order with a new id, the
snapshot and the interval asked for, and its prepare instant; every order it conflicts with carries a mark. Admission passes
exactly a candidate whose transmitter is defined, neither INHIBITED nor LOCKED-OUT, whose conflicts are all of lower priority,
and for which the table has room. An occurrence whose origin a live order or the deferred set holds is passed over; any other
becomes an order, is skipped with its report, is deferred, or is dropped from a full set. Retries come in the order of start, bank
and entry; an occurrence without room stays, any other leaves the set. -/
def Obligations.AManualOrderIsCreated : Prop :=
  (∀ (tag : Nat) (f : ManualFields) (h : Nat) (s : State), s.running → s.pins.key = .remote → s.clock.time = some h →
    (s.chg.orders.map (·.id)).Nodup →
    let start := f.start.getD h
    let c : Candidate := { origin := .manual, snap := manualSnapshot f, start := start, ends := f.ends }
    firstBad (snapRanges f.service f.tx f.freq f.primary f.alternate f.azimuth f.power f.mode f.priority) = none →
    programmeFault s { manualSnapshot f with alternate := f.alternate } = none →
    h ≤ start → start ≤ h + 86400 → start < f.ends → f.ends ≤ start + 86400 → h + 60 * s.hall.par.cutoff < f.ends →
    admissionFault s c = none →
    ∃ u o, exec (.orderManual tag f) s = .next (okReply 0x28 tag (.orderMade (newId s) o.prepare) (settle u)) ∧
      order? u (newId s) = some o ∧ order? s (newId s) = none ∧ o.origin = .manual ∧ o.snap = manualSnapshot f ∧
      o.start = start ∧ o.ends = f.ends ∧ o.stage = .staged ∧ o.prepare = start - leadTime s (manualSnapshot f) ∧
      o.held = false ∧ u.chg.lastId = newId s ∧ u.chg.orders.length = s.chg.orders.length + 1 ∧
      u.given.outer = s.given.outer ∧ u.banks = s.banks ∧ u.clock = s.clock ∧ u.dir = s.dir ∧ u.mx = s.mx ∧
      (∀ p ∈ s.chg.orders, conflicts f.tx f.primary start f.ends p = true →
        ∃ q, order? u p.id = some q ∧ q.preempting.isSome)) ∧
  ∀ s : State,
    (∀ x : Candidate,
      let clash (p : Order) : Prop := conflicts x.snap.tx x.snap.primary x.start x.ends p = true
      (admissionFault s x = none ↔
        (∃ r, txRec? s x.snap.tx = some r ∧ r.inhibited = false) ∧ (txCtl s x.snap.tx).state ≠ .lockedOut ∧
        (∀ p ∈ s.chg.orders, clash p → p.snap.priority.below x.snap.priority = true) ∧ s.chg.orders.length < 32) ∧
      ∀ blocking, admissionFault s x = some (.conflict blocking) →
        ∃ p ∈ s.chg.orders, p.id = blocking ∧ clash p ∧ p.snap.priority.below x.snap.priority = false ∧
          ∀ q ∈ s.chg.orders, clash q → q.snap.priority.below x.snap.priority = false → blocking ≤ q.id) ∧
    (∀ d : Deferred,
      let made (t : State) : Prop := ∃ p, order? t (newId s) = some p ∧ p.origin = d.origin ∧ p.snap = d.snap ∧
        p.start = d.start ∧ p.ends = d.ends ∧ p.stage = .staged ∧ (p.lateStart = true ↔ d.start < now s) ∧
        (d.start < now s → p.prepare = now s) ∧ ∀ x ∈ t.staging.deferred, x.origin ≠ d.origin
      let said (ev : StagingEvent) : State → State := stagingReport d.bank d.entry d.start ev
      (deferred? s d.origin = true ∨ live? s d.origin = true → stageUnknown d s = s) ∧
      (deferred? s d.origin = false → live? s d.origin = false →
        (admissionFault s d.candidate = none → made (stageUnknown d s)) ∧
        (∀ st, admissionFault s d.candidate = some (.unavailable st) → stageUnknown d s = said (.skippedUnavailable st) s) ∧
        (∀ k, admissionFault s d.candidate = some (.conflict k) → stageUnknown d s = said (.skippedConflict k) s) ∧
        (admissionFault s d.candidate = some .full → s.staging.deferred.length < 16 →
          stageUnknown d s = said .deferred (s.onStaging (fun g => { g with deferred := g.deferred ++ [d] }))) ∧
        (admissionFault s d.candidate = some .full → 16 ≤ s.staging.deferred.length →
          stageUnknown d s = said .droppedSetFull s)) ∧
      (admissionFault s d.candidate = some .full → retryDeferred d s = s) ∧
      (admissionFault s d.candidate = none → made (retryDeferred d s)) ∧
      (admissionFault s d.candidate ≠ some .full →
        (retryDeferred d s).staging =
          { s.staging with deferred := s.staging.deferred.filter (fun x => decide (x.origin ≠ d.origin)) })) ∧
    (retryOrder s).Perm s.staging.deferred ∧
    (retryOrder s).Pairwise (fun x y => x.start < y.start ∨ x.start = y.start ∧
      ((x.bank = .a ∧ y.bank = .b) ∨ x.bank = y.bank ∧ x.entry ≤ y.entry))

/-- R82, R83, R89: a cancel of a STAGED order takes it from the table; any other order enters CLOSING with CANCELLED due, but for
one in CLOSING already, and for one that the Hall Key LOCAL keeps. An ON-AIR order at its end passes antenna and carrier to its
successor, which is ON-AIR and CONTINUED at once under the foldback factor kept, and leaves the table; without a successor it
enters CLOSING with ENDED due. -/
def Obligations.ACancelEndsOrClosesTheOrder : Prop :=
  ∀ (tag id : Nat) (s : State), s.running → 1 ≤ id → id ≤ 65535 → (s.chg.orders.map (·.id)).Nodup →
    (order? s id = none → exec (.orderCancel tag id) s = .next (refusal 0x29 tag .notFound s)) ∧
    ∀ o, order? s id = some o →
      let answer (t : State) : ReplyData := match order? t id with
        | some p => .orderCancelled (some p.stage) none
        | none => .orderCancelled none (some .cancelled)
      (o.stage = .closing → exec (.orderCancel tag id) s = .next (refusal 0x29 tag .stateRefused s)) ∧
      (o.stage ≠ .closing → o.stage ≠ .staged → s.pins.key = .local →
        exec (.orderCancel tag id) s = .next (refusal 0x29 tag .locked s)) ∧
      (o.stage = .staged →
        ∃ u, exec (.orderCancel tag id) s = .next (okReply 0x29 tag (answer (settle u)) (settle u)) ∧
          u.given = s.given ∧ order? u id = none ∧ u.mx = s.mx ∧ u.tx = s.tx ∧ u.prot = s.prot ∧
          ∀ p ∈ s.chg.orders, p.id ≠ id → ∃ m, order? u p.id = some { p with preempting := m }) ∧
      (o.stage ≠ .closing → o.stage ≠ .staged → s.pins.key = .remote →
        ∃ u p, exec (.orderCancel tag id) s = .next (okReply 0x29 tag (answer (settle u)) (settle u)) ∧
          u.given = s.given ∧ order? u id = some p ∧ p.stage = .closing ∧ p.outcomeDue = some .cancelled ∧
          p.recovery = none ∧ p.snap = o.snap ∧ p.work.claim = false ∧ p.work.load = false ∧
          (reportsOn s o.snap.tx = true ∨ o.stage.carrier = true → p.work.carrierOff = true)) ∧
      (o.stage = .staged → order? (endProgramme id s) id = none) ∧
      (o.stage ≠ .staged → o.stage ≠ .closing → (o.stage = .onAir → successor? s o = none) →
        ∃ p, order? (endProgramme id s) id = some p ∧ p.stage = .closing ∧ p.outcomeDue = some .ended ∧ p.snap = o.snap) ∧
      ∀ (n : Order) (a : Nat), o.stage = .onAir → successor? s o = some n → o.antenna = some a → s.whole →
        1 ≤ o.snap.tx → o.snap.tx ≤ 16 → 1 ≤ a → a ≤ 34 →
        (n.stage = .staged ∧ n.snap.tx = o.snap.tx ∧ n.start = o.ends ∧ n.snap.freq = o.snap.freq ∧
          n.snap.mode = o.snap.mode ∧ n.held = false ∧ chooseAntenna s n = some a ∧ s.pins.chainClosed = true) ∧
        let u := endProgramme id s
        order? u id = none ∧ (dirRec u a).claiming = some n.id ∧
        (∃ p, order? u n.id = some p ∧ p.stage = .onAir ∧ p.continued = true ∧ p.antenna = some a ∧
          p.tuneKind = some .none ∧ p.firstOnAir = some n.start ∧ p.snap = n.snap ∧
          (p.alternateUsed = true ↔ a ≠ n.snap.primary) ∧ (protRec u o.snap.tx).base = some (baseOf u p)) ∧
        (protRec u o.snap.tx).factor = (protRec s o.snap.tx).factor ∧
        (protRec u o.snap.tx).permit =
          (protRec u o.snap.tx).base.map (fun b => permitOf b (protRec s o.snap.tx).factor)

/-- R65, R66, R70, R88: preparation, at its instant or by ORDER-ADVANCE, chooses the antenna and the tune kind and enters WARMING
or CLEARING. With no antenna to choose, or on a transmitter that is OFFLINE or LOCKED-OUT, the order fails at once, and leaves the
table or is rescued. That preparation acts between two second boundaries too, and that a PREPARATION_BEGIN before its instant
changes nothing, is the model's choice (log 65, log 2), as is the reply of ORDER-ADVANCE for an order that has left the table
(log 67). -/
def Obligations.PreparationChoosesAntennaAndTune : Prop :=
  ∀ (id : Nat) (o : Order) (s : State), s.running → order? s id = some o →
    (preparesNow s o = false → exec (.preparationBegin id) s = .next s) ∧
    (preparesNow s o = true → (txCtl s o.snap.tx).state = .offline ∨ (txCtl s o.snap.tx).state = .lockedOut →
      ∃ u, exec (.preparationBegin id) s = .next (settle u) ∧ u.given = s.given ∧
        (order? u id = none ∨ ∃ p, order? u id = some p ∧ p.stage = .staged ∧ p.rescues = o.rescues + 1 ∧
          p.failure = some (if (txCtl s o.snap.tx).state = .offline then .txLost else .txLockout))) ∧
    ((txCtl s o.snap.tx).state ≠ .offline → (txCtl s o.snap.tx).state ≠ .lockedOut →
      let chosen := if o.keepAntenna then o.antenna else chooseAntenna s o
      let cold : Prop := (txCtl s o.snap.tx).state = .cold ∨ (txCtl s o.snap.tx).state = .warming
      let begun (u : State) (a : Nat) : Prop := u.given = s.given ∧ ∃ p, order? u id = some p ∧ p.antenna = some a ∧
        p.tuneKind = some (tuneKindFor s o.snap.tx o.snap.freq) ∧ p.snap = o.snap ∧
        (o.keepAntenna = false → (p.alternateUsed = true ↔ a ≠ o.snap.primary)) ∧
        (cold → p.stage = .warming) ∧ (¬ cold → p.stage = .clearing)
      (preparesNow s o = true → chosen = none →
        ∃ u, exec (.preparationBegin id) s = .next (settle u) ∧ u.given = s.given ∧ order? u id = none) ∧
      (∀ a, preparesNow s o = true → chosen = some a →
        ∃ u, exec (.preparationBegin id) s = .next (settle u) ∧ begun u a) ∧
      (∀ tag a, chosen = some a → 1 ≤ id → id ≤ 65535 → o.stage = .staged → s.pins.key = .remote →
        (o.origin = .manual ∨ isAuto s = true) → isFree s o.snap.tx id = true →
        (∀ p ∈ ordersOf s o.snap.tx, p.id ≠ id → p.stage = .staged → o.start ≤ p.start) →
        ∃ u, exec (.orderAdvance tag id) s = .next (okReply 0x2A tag
            (.orderAdvanced o.prepare ((order? (settle u) id).map (·.stage))) (settle u)) ∧ begun u a))

/-- R77, R78, R81: at the end of its ramp an order enters ON-AIR, and its first arrival is timed; at its carrier-off confirm
timeout an order in CLOSING proceeds as though carrier off had been confirmed, with a fault record. Under LOCAL a RAMPING order
keeps its stage (R93). That nothing happens elsewhere, for a timer that has not run out or an order in another stage, is the
model's choice (log 2). -/
def Obligations.RampEndAndCarrierOffTimeoutActOnTheirOrder : Prop :=
  ∀ (id : Nat) (o : Order) (s : State), s.running → order? s id = some o →
    (o.stage ≠ .ramping ∨ o.stageSecs < o.stageLen ∨ s.pins.key = .local → exec (.rampEnd id) s = .next s) ∧
    (o.stage = .ramping → o.stageLen ≤ o.stageSecs → s.pins.key = .remote →
      ∃ u p, exec (.rampEnd id) s = .next (settle u) ∧ u.given = s.given ∧ order? u id = some p ∧ p.stage = .onAir ∧
        p.firstOnAir = some (o.firstOnAir.getD (now s)) ∧
        p.lateness = (if o.firstOnAir = none ∧ o.start < now s then some (now s - o.start) else o.lateness)) ∧
    (o.stage ≠ .closing ∨ o.work.carrierOff = false ∨ o.closeTimer ≠ some 0 →
      exec (.carrierOffConfirmTimeout id) s = .next s) ∧
    (o.stage = .closing → o.work.carrierOff = true → o.closeTimer = some 0 →
      ∃ u r, exec (.carrierOffConfirmTimeout id) s = .next (settle u) ∧ u.given = s.given ∧
        order? u id = some { o with work := { o.work with carrierOff := false } } ∧
        u.log.ring.getLast? = some r ∧ r.kind = .carrierOffTimeout ∧ r.subject = .transmitter o.snap.tx ∧
        u.log.next = (s.log.next + 1) % 65536)

/-- R72 to R77: the step an order takes when nothing blocks it: from WARMING when its transmitter is warm; from CLEARING, which
fails on a STUCK crosspoint and asks for carrier off while the TLU reports carrier on, when its row is clear; from TUNING when the
tune is complete and the claim held; from ROUTING when its crosspoint stands CLOSED and its slew has ended; and from POISED at its
proving instant under a closed Safety Chain. At entry into TUNING a frequency or mode that the transmitter lacks fails the order,
a preset that is gone becomes a search, and a search joins the load wait list. A claim granted leaves the work in hand, and the
slew is asked for at that grant. -/
def Obligations.AnOrderTakesTheStepItsStageCallsFor : Prop :=
  ∀ (id : Nat) (o : Order) (s : State), order? s id = some o → blocked s o = false →
    let n := o.snap.tx
    let goesTo (st : Stage) : Prop := ∃ p, order? (advance id s) id = some p ∧ p.stage = st
    (o.slewAsked = true ∨ claimHeld s o = false →
      (o.stage = .warming → o.work.warmUp = true → advance id s = s) ∧
      (o.stage = .warming → o.work.warmUp = false → goesTo .clearing) ∧
      (o.stage = .clearing → rowWhere s n (· == .stuck) ≠ [] → advance id s = emit (.fail id .routeStuck) s) ∧
      (o.stage = .clearing → rowWhere s n (· == .stuck) = [] → reportsOn s n = true → o.work.carrierOff = false →
        s.whole → 1 ≤ n → n ≤ 16 →
        (∃ p, order? (advance id s) id = some p ∧ p.stage = .clearing ∧ p.work.carrierOff = true) ∧
        id ∈ (txCtl (advance id s) n).offWaiters ∧ (txCtl (advance id s) n).offReq = .command) ∧
      (o.stage = .clearing → rowWhere s n (· == .stuck) = [] → rowWhere s n (· == .unknown) = [] →
        reportsOff s n = true → moveOutstanding s id = false →
        (∀ c ∈ rowWhere s n XpState.moving,
          (xpAt s n c).state = .closed ∧ o.tuneKind ≠ some .search ∧ o.antenna = some c) →
        goesTo (if o.tuneKind = some .none ∧ claimHeld s o = true then .routing else .tuning)) ∧
      (o.stage = .tuning → o.work.tune = false → o.work.load = false → o.tuneKind ≠ some .search ∨ o.tuneDone = true →
        moveOutstanding s id = false → o.load = none → o.claimDue = false →
        goesTo (if claimHeld s o = true then .routing else .tuning)) ∧
      (∀ a, o.stage = .routing → o.antenna = some a → (xpAt s n a).state = .closed → moveOutstanding s id = false →
        o.work.slew = false → goesTo .poised) ∧
      (o.stage = .poised → now s + s.hall.par.proveTime + rampOf s n < o.start ∨ s.pins.chainClosed = false →
        advance id s = s) ∧
      (o.stage = .poised → o.start ≤ now s + s.hall.par.proveTime + rampOf s n → s.pins.chainClosed = true →
        ∃ p, order? (advance id s) id = some p ∧ p.stage = .proving ∧ p.stageLen = s.hall.par.proveTime ∧
          p.sampled = false)) ∧
    (∀ r, txRec? s n = some r →
      (within r.low r.high o.snap.freq = false ∨ ModeSet.has r.modes o.snap.mode = false →
        .fail id .tuneFailed ∈ (enterTuning id s).agenda) ∧
      (within r.low r.high o.snap.freq = true → ModeSet.has r.modes o.snap.mode = true →
        o.tuneKind = some .search ∨ o.tuneKind = some .preset ∧ presetHit s n o.snap.freq = none →
        id ∈ (enterTuning id s).dir.loadWait ∧ .offerLoads ∈ (enterTuning id s).agenda ∧
        ∃ p, order? (enterTuning id s) id = some p ∧ p.stage = .tuning ∧ p.tuneKind = some .search ∧ p.work.load = true)) ∧
    (Stage.between .warming .poised o.stage = true → o.claimDue = false →
      ∃ p, order? (claimGranted id s) id = some p ∧ p.work.claim = false ∧
        ∀ a az k, o.antenna = some a → o.snap.azimuth = some az → claimHeld s o = true → (rotatorPart? s a).isSome →
          rotator? s a = some k → p.slewAsked = true ∧
          (k.slew = .idle → (∀ q ∈ rotatorPart? s a, atTarget q k az = false) →
            rotator? (claimGranted id s) a = some { k with waiting := some (az, id) }))

/-- R86 to R88, R93: a failure closes a working order with its cause, or under LOCAL is kept for re-adoption; at the end of its
closing the order leaves the table, or returns to STAGED on the first feasible candidate. -/
def Obligations.AFailedOrderClosesAndMayBeRescued : Prop :=
  ∀ (id : Nat) (cause : FailCause) (o : Order) (s : State), order? s id = some o →
    (o.stage = .staged → failOrder id cause s = s) ∧
    (o.stage ≠ .staged → o.stage ≠ .closing → s.pins.key = .local →
      order? (failOrder id cause s) id = some { o with failure := some cause, localFailure := true }) ∧
    (o.stage ≠ .staged → o.stage ≠ .closing → s.pins.key = .remote →
      ∃ p, order? (failOrder id cause s) id = some p ∧ p.stage = .closing ∧ p.outcomeDue = some .failed ∧
        p.failure = some cause) ∧
    (rescueFor s o = none → order? (finishClosing id s) id = none) ∧
    (∀ n a, rescueFor s o = some (n, a) → feasible s o (n, a) = true ∧
      ∃ p, order? (finishClosing id s) id = some p ∧ p.stage = .staged ∧ p.snap = { o.snap with tx := n } ∧
        p.antenna = some a ∧ p.rescues = o.rescues + 1 ∧ p.rescued = true ∧ p.tripTimes = [] ∧ p.prepare = now s)

/-! ### Directory and matrix (05) -/

/-- R106: ANT-FLAGS changes the flag it names at the positions of its mask, and no other part of a directory record; clearing
FAULTED takes a FAILED rotator out of FAILED. R100 to R104: a claim fails on a STUCK column, is granted on a FREE one and on one
PARKED on the order's own row, makes the order the handover order of one PARKED elsewhere, and joins the wait list otherwise; the
lists stand in the order of priority, start and id; a column that becomes FREE goes to the head of its list; a plain release frees
the column, parks it, whatever its crosspoint does (R98), or hands it over to a head on another row; a grantable load goes to the
head of the load wait list. -/
def Obligations.AntFlagsChangesTheFlagNamed : Prop :=
  (∀ (tag flag action mask : Nat) (s : State), s.running → s.whole → s.store.writing = none →
    1 ≤ flag → flag ≤ 3 → 1 ≤ action → action ≤ 3 → mask < 17179869184 →
    (flag = 2 → action ≠ 3 ∧ maskBit mask 32 = false ∧ maskBit mask 33 = false) →
    (flag = 3 → action = 2 ∧ ∀ c, 1 ≤ c → c ≤ 34 → maskBit mask (c - 1) = true → faultPersists s c = false) →
    ∃ u, exec (.antFlags tag flag action mask) s = .next (okReply 0x30 tag (.antFlags (allFlags (settle u))) (settle u)) ∧
      { u with dir := s.dir, mx := s.mx, port := s.port, agenda := s.agenda } = s ∧ u.dir.loadWait = s.dir.loadWait ∧
      { u.mx with rotators := s.mx.rotators } = s.mx ∧
      ∀ c, 1 ≤ c → c ≤ 34 →
        (maskBit mask (c - 1) = false → dirRec u c = dirRec s c ∧ rotator? u c = rotator? s c) ∧
        (maskBit mask (c - 1) = true →
          (flag = 1 → dirRec u c = { dirRec s c with inhibited := applyAction action (dirRec s c).inhibited }) ∧
          (flag = 2 → dirRec u c = { dirRec s c with suspect := applyAction action (dirRec s c).suspect }) ∧
          (flag = 3 → dirRec u c = { dirRec s c with faultStuck := false, faultDouble := false, faultRotator := false } ∧
            ∀ r ∈ rotator? u c, r.slew ≠ .failed))) ∧
  (∀ (c : Nat) (o : Order) (s : State), s.whole → 1 ≤ c → c ≤ 32 → order? s o.id = some o →
    let d := dirRec s c
    let u := requestClaim c o s
    let granted (t : State) : Prop := (dirRec t c).claiming = some o.id ∧ .granted o.id ∈ t.agenda
    d.claiming ≠ some o.id → d.handover ≠ some o.id → o.id ∉ d.waiting →
    (colWhere s c (· == .stuck) ≠ [] → u = emit (.claimFailed o.id) s) ∧
    (colWhere s c (· == .stuck) = [] →
      (d.state = .free → granted u) ∧
      (d.state = .parked → d.handover = none → d.claiming = none →
        (d.owner = some o.snap.tx → granted u) ∧
        (d.owner ≠ some o.snap.tx → colWhere s c (· == .unknown) = [] →
          dirRec u c = { d with handover := some o.id }) ∧
        (d.owner ≠ some o.snap.tx → colWhere s c (· == .unknown) ≠ [] →
          u = updDir c (fun e => { e with waiting := insertWaiting s o d.waiting }) s)) ∧
      (d.state = .reserved ∨ d.state = .assigned ∨ d.state = .unresolved ∨ d.state = .parked ∧ d.handover.isSome →
        u = updDir c (fun e => { e with waiting := insertWaiting s o d.waiting }) s)) ∧
    (∀ rest, d.claiming = none → d.handover = none → colWhere s c (· == .stuck) = [] →
      let t := offerColumn c (updDir c (fun e => { e with waiting := o.id :: rest }) s)
      (d.state = .free → o.id ∉ rest → granted t ∧ (dirRec t c).waiting = rest))) ∧
  (∀ (s : State) (o : Order) (l : List Nat), order? s o.id = some o → o.id ∉ l → (∀ k ∈ l, (order? s k).isSome) →
    let ahead (x y : Nat) : Prop := ∀ p q, order? s x = some p → order? s y = some q → Order.before p q = true
    (insertWaiting s o l).Perm (o.id :: l) ∧ (l.Pairwise ahead → (insertWaiting s o l).Pairwise ahead)) ∧
  (∀ p q : Order, Order.before p q = true ↔ p.snap.priority.rank < q.snap.priority.rank ∨
    p.snap.priority.rank = q.snap.priority.rank ∧ (p.start < q.start ∨ p.start = q.start ∧ p.id < q.id)) ∧
  (∀ (c id r : Nat) (s : State), s.whole → 1 ≤ c → c ≤ 32 → rowOfOrder s id = some r → 1 ≤ r → r ≤ 16 →
    let d := dirRec s c
    let u := plainRelease c id s
    (d.claiming ≠ some id → u = s) ∧
    (d.claiming = some id → d.handover = none →
      (d.state = .reserved → colWhere s c XpState.active = [] → colWhere s c (· == .unknown) = [] →
        dirRec u c = { d with claiming := none, state := .free, owner := none }) ∧
      (d.state = .assigned → (xpAt s r c).state ≠ .closed → colWhere s c XpState.active = [r] →
        dirRec u c = { d with claiming := none, state := .parked, owner := some r }) ∧
      (d.state = .assigned → (xpAt s r c).state = .closed → colWhere s c XpState.active = [r] →
        (d.waiting = [] → dirRec u c = { d with claiming := none, state := .parked, owner := some r }) ∧
        ∀ h more, d.waiting = h.id :: more → order? s h.id = some h → h.id ∉ more → h.snap.tx ≠ r →
          dirRec u c = { d with claiming := none, handover := some h.id, waiting := more }))) ∧
  ∀ s : State, s.whole →
    (grantable s 33 = false → grantable s 34 = false → grantLoad s = s) ∧
    ∀ (o : Order) (rest : List Nat) (c : Nat), s.dir.loadWait = o.id :: rest → order? s o.id = some o →
      [33, 34].find? (grantable s) = some c →
      (dirRec (grantLoad s) c).claiming = some o.id ∧ (grantLoad s).dir.loadWait = rest ∧
      order? (grantLoad s) o.id = some { o with load := some c, work := { o.work with load := false } }

/-- R118, R119: XP-SERVICE gives the crosspoints named their full count and clears SERVICE-DUE; XP-CLEAR sets a STUCK or
UNKNOWN crosspoint to the position declared and returns its credit; a column declared CLOSED is ASSIGNED where its claiming order is
on that row, and else PARKED. No other crosspoint changes. -/
def Obligations.XpRequestsActOnTheCrosspointsNamed : Prop :=
  ∀ (tag row col : Nat) (s : State), s.running → s.whole → 1 ≤ row → row ≤ 16 →
    (s.store.writing = none → col ≤ 34 →
      ∃ t, exec (.xpService tag row col) s = .next (okReply 0x32 tag .none t) ∧
        { t with mx := s.mx, port := s.port } = s ∧ { t.mx with rows := s.mx.rows } = s.mx ∧
        ∀ r c, 1 ≤ c → c ≤ 34 → xpAt t r c = if r = row ∧ (col = 0 ∨ c = col) then
          { xpAt s r c with remaining := s.hall.par.opLife, serviceDue := false } else xpAt s r c) ∧
    (1 ≤ col → col ≤ 34 → ∀ p, 1 ≤ p → p ≤ 2 →
      ((xpAt s row col).state ≠ .stuck → (xpAt s row col).state ≠ .unknown →
        exec (.xpClear tag row col p) s = .next (refusal 0x31 tag .stateRefused s)) ∧
      ((xpAt s row col).state = .stuck ∨ (xpAt s row col).state = .unknown →
        (p = 2 ∧ closedContradicts s row col = true →
          exec (.xpClear tag row col p) s = .next (refusal 0x31 tag .inconsistent s)) ∧
        (p = 1 ∨ closedContradicts s row col = false →
          ∃ u, exec (.xpClear tag row col p) s = .next (okReply 0x31 tag .none (settle u)) ∧ u.given = s.given ∧
            xpAt u row col = { xpAt s row col with state := if p = 2 then .closed else .opened } ∧
            (∀ r c, (r, c) ≠ (row, col) → xpAt u r c = xpAt s r c) ∧ movementAt? u row col = none ∧
            (p = 2 → (dirRec u col).state =
              if (dirRec s col).claiming.bind (rowOfOrder s) = some row then .assigned else .parked) ∧
            u.chg = s.chg ∧ u.tx = s.tx ∧ u.prot = s.prot ∧ u.log = s.log)))

/-- R109, R110: with a credit free the Arbiter starts the first eligible request, and no other, on a row whose permit is
WITHDRAWN and whose transmitter reports carrier off; without one, nothing starts (that MOVEMENT_START then changes nothing is
the model's choice, log 2). -/
def Obligations.AMovementStartsOnlyForAnEligibleRequest : Prop :=
  ∀ s : State, s.running → s.whole →
    (creditsFree s = 0 ∨ (∀ q ∈ s.mx.queue, eligible s q = false) → exec .movementStart s = .next s) ∧
    ∀ q, 0 < creditsFree s → (grantOrder s).find? (eligible s) = some q → 1 ≤ q.col → q.col ≤ 34 →
      (s.pins.key = .remote ∧ nth s.pins.permits q.row ≠ some true ∧ tluAlive s q.row = true ∧
        reportsOff s q.row = true ∧ ∀ m ∈ s.mx.movements, m.row ≠ q.row) ∧
      ∃ u m, exec .movementStart s = .next (settle u) ∧ u.given = s.given ∧ u.mx.movements = s.mx.movements ++ [m] ∧
        m.row = q.row ∧ m.col = q.col ∧ m.dir = q.dir ∧ m.who = q.who ∧ m.timer = 2 * s.hall.par.moveEst ∧
        u.mx.movements.length ≤ s.hall.par.credits ∧ q ∉ u.mx.queue ∧
        xpAt u q.row q.col = { xpAt s q.row q.col with state := q.dir.moving } ∧
        (∀ r c, (r, c) ≠ (q.row, q.col) → xpAt u r c = xpAt s r c) ∧ u.chg = s.chg ∧ u.tx = s.tx ∧ u.prot = s.prot ∧
        ∀ r, txRec? s q.row = some r → (unitAt s r.mdu).state = .alive →
          ∃ k ∈ u.line.queue ++ u.line.heldBack, k.fn = .move q.col q.dir ∧ k.addr = r.mdu ∧ k.urgent = false

/-- R113: when the timer of a movement runs out its crosspoint is STUCK, its credit is returned, its column is FAULTED with
every waiter gone, its handover order fails, an UNRESOLVED antenna becomes PARKED, and a fault record is made. That the antenna
becomes PARKED also under the claim that it keeps of an order on the row, which the table of R98 calls ASSIGNED, is the model's choice
(log 95), and so is that a MOVE_TIMEOUT before that changes nothing (log 2). -/
def Obligations.AMovementTimesOutIntoStuck : Prop :=
  ∀ (r c : Nat) (s : State), s.running → s.whole → 1 ≤ r → r ≤ 16 → 1 ≤ c → c ≤ 34 →
    (movementAt? s r c = none → exec (.moveTimeout r c) s = .next s) ∧
    ∀ m, movementAt? s r c = some m →
      (0 < m.timer → exec (.moveTimeout r c) s = .next s) ∧
      (m.timer = 0 →
        ∃ u f, exec (.moveTimeout r c) s = .next (settle u) ∧ u.given = s.given ∧
          xpAt u r c = { xpAt s r c with state := .stuck } ∧
          (∀ i j, (i, j) ≠ (r, c) → xpAt u i j = xpAt s i j) ∧ movementAt? u r c = none ∧
          (dirRec u c).faultStuck = true ∧ (dirRec u c).waiting = [] ∧
          (∀ id, (dirRec s c).handover = some id → .claimFailed id ∈ u.agenda ∨ .moved (.handover id) r c false ∈ u.agenda) ∧
          ((dirRec s c).state = .unresolved → (dirRec s c).handover = none → (dirRec u c).state = .parked) ∧
          u.log.ring.getLast? = some f ∧
          f.kind = .xpStuck ∧ f.subject = .crosspoint r c ∧ u.chg = s.chg ∧ u.tx = s.tx ∧ u.prot = s.prot)

/-- R121, R123: a slew starts for the pending request once its start conditions hold; when its timer runs out the rotator is
FAILED, the antenna FAULTED, and a fault record is made. Each queues its command, SLEW or STOP, to an ALIVE ARU (the STOP only
under REMOTE: the model's choice, log 24). That the two events change nothing elsewhere is the model's choice (log 2). -/
def Obligations.ASlewStartsAndTimesOut : Prop :=
  ∀ (a : Nat) (k : Rotator) (s : State), s.running → s.whole → 1 ≤ a → a ≤ 32 → rotator? s a = some k →
    ((∀ target id, k.waiting = some (target, id) → slewMayStart s a id = false) → exec (.slewStart a) s = .next s) ∧
    (∀ target id p, k.waiting = some (target, id) → slewMayStart s a id = true → rotatorPart? s a = some p →
      ∃ u, exec (.slewStart a) s = .next (settle u) ∧ u.given = s.given ∧
        rotator? u a = some { k with slew := .slewing, target := some target, order := some id, waiting := none
                                     timer := some (slewEstimate p k.azimuth target + 30), cmd := s.line.serial + 1 } ∧
        (∀ b, b ≠ a → rotator? u b = rotator? s b) ∧ { u.mx with rotators := s.mx.rotators } = s.mx ∧
        u.chg = s.chg ∧ u.dir = s.dir ∧ u.tx = s.tx ∧
        ((unitAt s p.aru).state = .alive → ∃ c ∈ u.line.queue ++ u.line.heldBack, c.fn = .slew target ∧ c.addr = p.aru ∧
          c.urgent = false ∧ c.serial = s.line.serial + 1)) ∧
    (k.slew ≠ .slewing ∨ k.timer ≠ some 0 → exec (.slewTimeout a) s = .next s) ∧
    (k.slew = .slewing → k.timer = some 0 →
      ∃ u f, exec (.slewTimeout a) s = .next (settle u) ∧ u.given = s.given ∧
        rotator? u a = some { k with slew := .failed, target := none, timer := none, order := none } ∧
        (∀ b, b ≠ a → rotator? u b = rotator? s b) ∧ { u.mx with rotators := s.mx.rotators } = s.mx ∧
        (dirRec u a).faultRotator = true ∧ u.log.ring.getLast? = some f ∧ f.kind = .slewFail ∧ f.subject = .antenna a ∧
        u.tx = s.tx ∧ u.prot = s.prot ∧
        ∀ p, rotatorPart? s a = some p → s.pins.key = .remote → (unitAt s p.aru).state = .alive →
          ∃ c ∈ u.line.queue ++ u.line.heldBack, c.fn = .stop ∧ c.addr = p.aru)

/-! ### Transmitters and protection (06, 07) -/

/-- R145, R146: TX-INHIBIT changes the INHIBITED flag of the defined transmitters named; TX-LOCK-CLEAR gives a LOCKED-OUT
transmitter the state of its latest reply, and empties its trip history; a warm-up record that this starts has the hall second of
that reply as its start instant (R128). -/
def Obligations.TransmitterRequestsActOnTheTransmittersNamed : Prop :=
  ∀ (tag : Nat) (s : State), s.running → s.whole →
    (∀ action mask, s.store.writing = none → 1 ≤ action → action ≤ 3 → mask < 65536 →
      ∃ t, exec (.txInhibit tag action mask) s = .next (okReply 0x38 tag (.txInhibit ((upTo 16).map (fun n =>
          (((txRec? t n).map (·.inhibited)).getD false, (txCtl t n).state)))) t) ∧
        { t with hall := s.hall } = s ∧ { t.hall with tx := s.hall.tx } = s.hall ∧
        ∀ n, 1 ≤ n → n ≤ 16 → txRec? t n = (txRec? s n).map (fun r =>
          if maskBit mask (n - 1) then { r with inhibited := applyAction action r.inhibited } else r)) ∧
    (∀ n, 1 ≤ n → n ≤ 16 →
      ((txCtl s n).state ≠ .lockedOut → exec (.txLockClear tag n) s = .next (refusal 0x39 tag .stateRefused s)) ∧
      ((txCtl s n).state = .lockedOut →
        ∃ u, exec (.txLockClear tag n) s = .next (okReply 0x39 tag (.txState (txCtl (settle u) n).state) (settle u)) ∧
          u.given = s.given ∧ (txCtl u n).state = derivedState s n ∧ (protRec u n).trips = [] ∧
          (derivedState s n = .warming → (txCtl s n).warm = none →
            (txCtl u n).warm.bind (·.start) = (txCtl s n).telemetry.bind (·.second)) ∧
          (protRec u n).factor = 1000 ∧ (∀ m, m ≠ n → txCtl u m = txCtl s m ∧ protRec u m = protRec s m) ∧
          u.chg = s.chg ∧ u.mx = s.mx ∧ u.dir = s.dir ∧ u.log = s.log))

/-- R130, R131, R143: a warm-up that runs out fails its waiting orders, an idle transmitter is cooled down, and a blind one is
past its blind hold and OFFLINE, each when its time has come; a cool-down hold of 0 queues no command. That the event changes nothing
before that is the model's choice (log 2), and so is FILAMENT OFF for a LOCKED-OUT transmitter, to which R144 queues no command but
carrier-off (log 89). -/
def Obligations.TransmitterTimersActWhenTheyRunOut : Prop :=
  ∀ (n : Nat) (s : State), s.running → s.whole → 1 ≤ n → n ≤ 16 →
    ((txCtl s n).warm.bind (·.timer) ≠ some 0 → exec (.warmUpTimeout n) s = .next s) ∧
    (∀ w, (txCtl s n).warm = some w → w.timer = some 0 →
      ∃ u, exec (.warmUpTimeout n) s = .next (settle u) ∧ u.given = s.given ∧ (txCtl u n).warm = none ∧
        (∀ id ∈ w.waiting, .fail id .warmUpFailed ∈ u.agenda) ∧
        (s.pins.key = .remote → tluAlive s n = true →
          cmdWaits u (fun c => c.subject == n && c.fn == .filament false) = true)) ∧
    (coolDownDue s n = false ∨ s.hall.par.coolHold = 0 → exec (.idleClockCoolDown n) s = .next s) ∧
    (coolDownDue s n = true →
      ∃ u, exec (.idleClockCoolDown n) s = .next (settle u) ∧ u.given = s.given ∧ u.chg = s.chg ∧
        txCtl u n = { txCtl s n with coolDown := .queued (s.line.serial + 1) } ∧
        (∀ m, m ≠ n → txCtl u m = txCtl s m) ∧
        cmdWaits u (fun c => c.subject == n && c.fn == .filament false && c.serial == s.line.serial + 1) = true) ∧
    ((txCtl s n).blind ≠ some 0 → exec (.blindHoldExpiry n) s = .next s) ∧
    ((txCtl s n).blind = some 0 →
      ∃ u, exec (.blindHoldExpiry n) s = .next (settle u) ∧ u.given = s.given ∧ (txCtl u n).blind = none ∧
        (txCtl u n).pastBlind = true ∧ ((txCtl s n).state ≠ .lockedOut → (txCtl u n).state = .offline) ∧
        (∀ o ∈ ordersOf u n, o.blind = false) ∧ (∀ m, m ≠ n → txCtl u m = txCtl s m))

/-- R134, R136: a search or a preset tune whose timer has run out fails with a TUNE-FAIL record; the search asks for carrier
off, and the preset's entry is invalidated. A held search keeps its timer (R137). That the event changes nothing for a tune of the
other kind, or whose timer has not run out, is the model's choice (log 2). -/
def Obligations.ATuneTimesOut : Prop :=
  ∀ (n : Nat) (t : TuneInHand) (s : State), s.running → s.whole → 1 ≤ n → n ≤ 16 → (txCtl s n).tune = some t →
    (t.kind ≠ .search ∨ t.timer ≠ some 0 ∨ t.held = true → exec (.searchTuneTimeout n) s = .next s) ∧
    (t.kind ≠ .preset ∨ t.timer ≠ some 0 ∨ t.held = true → exec (.presetTuneTimeout n) s = .next s) ∧
    (t.kind = .search → t.timer = some 0 → t.held = false →
      ∃ u, exec (.searchTuneTimeout n) s = .next (settle u) ∧ u.given = s.given ∧ (txCtl u n).tune = none ∧
        (s.pins.key = .remote → (txCtl u n).offReq ≠ .none) ∧
        (∃ r ∈ u.log.ring, r.kind = .tuneFail ∧ r.subject = .transmitter n ∧ r.number = s.log.next) ∧
        ∀ id ∈ t.order, .tuned id false ∈ u.agenda) ∧
    (t.kind = .preset → t.timer = some 0 → t.held = false →
      ∃ u, exec (.presetTuneTimeout n) s = .next (settle u) ∧ u.given = s.given ∧ (txCtl u n).tune = none ∧
        presetHit u n t.freq = none ∧
        (∃ r ∈ u.log.ring, r.kind = .tuneFail ∧ r.subject = .transmitter n ∧ r.number = s.log.next) ∧
        ∀ id ∈ t.order, .tuned id false ∈ u.agenda)

/-- R164, R165: at the end of a recovery delay an order with fewer trips than the limit proves again, or waits for the Safety
Chain; at the limit its antenna is SUSPECT or its transmitter LOCKED-OUT, and the order fails. Under LOCAL a re-prove keeps the
stage (R167). That the event changes nothing while the delay runs is the model's choice (log 2). R154, R155, R158, R160 to R162:
what a sample of an order in a carrier stage is, and what it brings: a trip is taken, or under LOCAL reported and latched (R167); a
prove passes to RAMPING and verifies the preset; a prove failure goes back to a search; ON-AIR follows the permit. That a sample of
an unproven preset which both reflects and carries a fault code is a prove failure, where R161 and R162 meet, is the model's choice
(log 42, DEDUCED), and so is that a sample with a trip condition under LOCAL moves neither permit nor, but for the 500 of a VSWR
trip, F (log 81, DEDUCED). -/
def Obligations.ARecoveryDelayEndsInProveOrLockout : Prop :=
  (∀ (n : Nat) (d : RecoveryDelay) (o : Order) (s : State), s.running → s.whole → 1 ≤ n → n ≤ 16 →
    (protRec s n).recovery = some d →
    (0 < d.timer → exec (.recoveryDelayExpiry n) s = .next s) ∧
    (d.timer = 0 → order? s d.order = some o →
      ∃ u, exec (.recoveryDelayExpiry n) s = .next (settle u) ∧ u.given.outer = s.given.outer ∧
        (tripCount s n (some d.order) d.kind < s.hall.par.tripLimit → o.stage = .recovering → s.pins.key = .remote →
          ∃ p, order? u d.order = some p ∧
            (s.pins.chainClosed = true → p.stage = .proving ∧ p.recovery = none) ∧
            (s.pins.chainClosed = false → p.stage = .recovering ∧ p.recovery = some .safety)) ∧
        (tripCount s n (some d.order) d.kind < s.hall.par.tripLimit → s.pins.key = .local →
          ∃ p, order? u d.order = some p ∧ p.stage = o.stage ∧ p.recovery = o.recovery) ∧
        (s.hall.par.tripLimit ≤ tripCount s n (some d.order) d.kind → d.kind = .vswr →
          (∀ a, o.antenna = some a → 1 ≤ a → a ≤ 34 → (dirRec u a).suspect = true) ∧
          .fail d.order .vswrLockout ∈ u.agenda) ∧
        (s.hall.par.tripLimit ≤ tripCount s n (some d.order) d.kind → d.kind = .txFault →
          (txCtl u n).state = .lockedOut ∧ .fail d.order .txLockout ∈ u.agenda))) ∧
  ∀ (n : Nat) (r : TluReply) (drop : Bool) (o : Order) (s : State), s.whole → 1 ≤ n → n ≤ 16 → carrierOrder? s n = some o →
    order? s o.id = some o → (txCtl s n).blind = none →
    let u := judgeSample n r drop s
    let rho := reflection r.pf r.pr
    let code := if r.fault = 0 then none else some r.fault
    let later : Prop := o.stage = .proving ∧ o.sampled = true
    let unproven : Prop := o.stage = .proving ∧ (protRec s n).unproven = true
    let judging : Prop := later ∧ o.stageLen ≤ o.stageSecs ∧ s.pins.key = .remote
    (∀ a, antRec? s (o.antenna.getD 0) = some a →
      let reflects : Prop := ∃ x, rho = some x ∧ (a.trip ≤ x ∨ later ∧ a.warn ≤ x)
      (reflects → unproven → verdict s o r drop = .proveFailure) ∧
      (reflects → ¬ unproven → verdict s o r drop = .trip .vswr code) ∧
      (¬ reflects → r.fault ≠ 0 → verdict s o r drop = .trip .txFault code) ∧
      (¬ reflects → r.fault = 0 → drop = true ∨ judging ∧ rho = none → verdict s o r drop = .trip .txFault (some 0)) ∧
      (¬ reflects → r.fault = 0 → drop = false → ¬ (judging ∧ rho = none) → verdict s o r drop = .clean)) ∧
    (∀ kind c, verdict s o r drop = .trip kind c → s.pins.key = .remote →
      (∃ p, order? u o.id = some p ∧ p.stage = .recovering ∧ p.recovery = some .trip ∧ p.lastTrip = some (kind, o.stage) ∧
        p.tripTimes.getLast? = some (now s)) ∧
      (txCtl u n).offReq = .command ∧ ((txCtl s n).state ≠ .lockedOut → (txCtl u n).state = .tripped) ∧
      (protRec u n).recovery = some { order := o.id, kind := kind, stage := o.stage, timer := s.hall.par.recovery } ∧
      (protRec u n).trips.getLast? = some { second := now s, kind := kind } ∧ (protRec u n).sent = 0 ∧
      (protRec u n).factor = (if kind = .vswr then 500 else (protRec s n).factor) ∧
      ∃ f, u.log.ring.getLast? = some f ∧ f.kind = kind.record ∧ f.subject = .transmitter n) ∧
    (∀ kind c, verdict s o r drop = .trip kind c → s.pins.key = .local →
      u.tx = s.tx ∧ u.line = s.line ∧ u.dir = s.dir ∧ u.mx = s.mx ∧ u.stats = s.stats ∧ (protRec u n).latch = true ∧
      (∃ p, order? u o.id = some p ∧ p.stage = o.stage ∧ p.tripTimes = o.tripTimes) ∧
      (protRec u n).trips = (protRec s n).trips ∧
      ((protRec s n).latch = true → u.log = s.log ∧ u.prot = s.prot ∧ u.port = s.port) ∧
      ((protRec s n).latch = false → (kind = .vswr → (protRec u n).factor = 500) ∧
        ∃ f, u.log.ring.getLast? = some f ∧ f.kind = kind.record ∧ f.subject = .transmitter n)) ∧
    (verdict s o r drop = .proveFailure → s.pins.key = .remote →
      (∃ p, order? u o.id = some p ∧ p.stage = .tuning ∧ p.tuneKind = some .search ∧ p.tripTimes = o.tripTimes) ∧
      presetHit u n o.snap.freq = none ∧ (txCtl u n).offReq = .command ∧ (protRec u n).unproven = false ∧
      (protRec u n).factor = (protRec s n).factor ∧ (protRec u n).trips = (protRec s n).trips ∧ u.log = s.log) ∧
    (verdict s o r drop = .clean →
      (∀ x a, rho = some x → antRec? s (o.antenna.getD 0) = some a →
        (protRec u n).factor = foldStep (foldTarget x a.warn a.trip) (protRec s n).factor) ∧
      (rho = none → (protRec u n).factor = (protRec s n).factor) ∧ (protRec u n).latch = false ∧
      (o.stage = .proving → judging → rho.isSome →
        (∃ p, order? u o.id = some p ∧ p.stage = .ramping ∧ p.stageLen = rampOf s n) ∧ (protRec u n).unproven = false ∧
        ∀ q, presetHit s n o.snap.freq = some q → presetHit u n o.snap.freq = some { q with verified := true }) ∧
      (o.stage = .proving → ¬ (judging ∧ rho.isSome) → order? u o.id = some { o with sampled := true }) ∧
      (o.stage ≠ .proving → u.chg = s.chg) ∧
      (o.stage = .onAir → (protRec s n).rise = none → s.pins.key = .remote →
        let permit := permitOf ((protRec s n).base.getD 0) (protRec u n).factor
        (protRec u n).permit = some permit ∧
        (protRec u n).sent = if wantsSetpoint ((protRec s n).base.getD 0) (protRec s n).sent permit then permit
          else (protRec s n).sent))

/-! ### The Field Line (08) -/

/-- R127, R128, R172, R174: a good TLU reply is written as telemetry, revives its unit, and gives a transmitter with nothing in
hand the state of R128's table. -/
def Obligations.ATluReplyIsWrittenAndGivesTheState : Prop :=
  ∀ (addr n : Nat) (rep : TluReply) (t : Txn) (s : State), s.running → s.whole → 1 ≤ addr → addr ≤ 63 →
    1 ≤ n → n ≤ 16 → s.line.txn = some t → t.addr = addr → t.fn = .poll → t.live = true →
    (unitAt s addr).kind = some .tlu → (unitAt s addr).owner = n → tluReplyOk rep = true →
    ∃ w, exec (.pollReplyTlu addr rep) s = .next (settle (commandSlot (rest w))) ∧
      w.banks = s.banks ∧ w.clock = s.clock ∧ w.hall = s.hall ∧
      (txCtl w n).telemetry = some { reply := rep, second := s.clock.time } ∧ (txCtl w n).tuned = rep.tuned ∧
      unitAt w addr = { unitAt s addr with misses := 0, lastGood := s.clock.time, state := .alive } ∧
      (∀ r, txRec? s n = some r → r.tlu = addr → ordersOf s n = [] → (txCtl s n).tune = none → (txCtl s n).warm = none →
        (txCtl s n).offReq = .none → (txCtl s n).state ≠ .lockedOut → (txCtl s n).state ≠ .tripped →
        w.chg = s.chg ∧ w.mx = s.mx ∧ w.dir = s.dir ∧ (∀ m, m ≠ n → txCtl w m = txCtl s m) ∧
        (txCtl w n).state =
          if rep.control = .local then .offline
          else match rep.filament, rep.carrierOn with
            | .off, _ => .cold
            | .heating, _ => .warming
            | .ready, false => .standby
            | .ready, true => .on)

/-- R115, R117, R121 to R123: an MDU reply in which no switch is newly found closed brings each crosspoint record where R115's
table says; a switch found closed is checked, and is CLOSED where the check passes, or STUCK with its column FAULTED where the
column is claimed on another row or where another switch of row or column stands closed (where both hold, the second case alone is
the model's choice, log 61). Of two switches that one reply finds closed, each takes the active crosspoints of its own column with
it (R117, R125). An ARU reply is written, and ends a slew that has reached its target or shows a fault; that a fault
comes before a target reached is the model's choice (log 27). -/
def Obligations.MatrixPollRepliesBringTheRecordsUpToDate : Prop :=
  (∀ (addr n : Nat) (t : Txn) (s : State), s.running → s.whole → 1 ≤ addr → addr ≤ 63 →
    s.line.txn = some t → t.addr = addr → t.fn = .poll → t.live = true → (unitAt s addr).owner = n →
    (∀ positions : List SwitchPos, (unitAt s addr).kind = some .mdu → 1 ≤ n → n ≤ 16 → positions.length = 34 →
      (∀ c, nth positions c = some .closed → (xpAt s n c).state ≠ .opened ∧ (xpAt s n c).state ≠ .unknown) →
      ∃ w, exec (.pollReplyMdu addr positions) s = .next (settle (commandSlot (rest w))) ∧
        w.chg = s.chg ∧ w.tx = s.tx ∧ w.prot = s.prot ∧ (∀ r c, r ≠ n → xpAt w r c = xpAt s r c) ∧
        ∀ c, 1 ≤ c → c ≤ 34 → (xpAt w n c).state =
          match (xpAt s n c).state, nth positions c with
          | .opened, some .between => .unknown
          | .closing, some .closed => ((movementAt? s n c).map (fun m => m.dir.target)).getD .closing
          | .closed, some .opened => .opened
          | .closed, some .between => .unknown
          | .opening, some .opened => ((movementAt? s n c).map (fun m => m.dir.target)).getD .opening
          | .unknown, some .opened => .opened
          | x, _ => x) ∧
    (∀ positions : List SwitchPos, (unitAt s addr).kind = some .mdu → 1 ≤ n → n ≤ 16 → positions.length = 34 →
      ∃ w, exec (.pollReplyMdu addr positions) s = .next (settle (commandSlot (rest w))) ∧
        ∀ c k, c ≠ k → nth positions c = some .closed → nth positions k = some .closed →
          (xpAt s n c).state = .opened ∨ (xpAt s n c).state = .unknown →
          (xpAt w n c).state = .stuck ∧ (xpAt w n k).state = .stuck ∧
          ∀ i, 1 ≤ i → i ≤ 16 → (xpAt s i c).state.active = true → (xpAt w i c).state = .stuck) ∧
    (∀ (rep : AruReply) (p : RotatorPart) (k : Rotator), (unitAt s addr).kind = some .aru → rep.azimuth ≤ 359 →
      rotatorPart? s n = some p → rotator? s n = some k →
      let k' : Rotator := { k with azimuth := some rep.azimuth, moving := rep.moving, fault := rep.fault }
      ∃ w, exec (.pollReplyAru addr rep) s = .next (settle (commandSlot (rest w))) ∧
        w.tx = s.tx ∧ w.prot = s.prot ∧ (∀ b, b ≠ n → rotator? w b = rotator? s b) ∧
        { w.mx with rotators := s.mx.rotators } = s.mx ∧
        (k.slew ≠ .slewing → rotator? w n = some k' ∧ w.chg = s.chg ∧ w.dir = s.dir) ∧
        (k.slew = .slewing → rep.fault = true →
          rotator? w n = some { k' with slew := .failed, target := none, timer := none, order := none } ∧
          (dirRec w n).faultRotator = true) ∧
        (k.slew = .slewing → rep.fault = false → p.distance rep.azimuth (k.target.getD 0) ≤ 1 →
          rotator? w n = some { k' with slew := .idle, target := none, timer := none, order := none } ∧
          w.dir = s.dir) ∧
        (k.slew = .slewing → rep.fault = false → 1 < p.distance rep.azimuth (k.target.getD 0) →
          rotator? w n = some k' ∧ w.chg = s.chg ∧ w.dir = s.dir))) ∧
  ∀ (r c : Nat) (others : List Nat) (s : State), s.whole → 1 ≤ r → r ≤ 16 → 1 ≤ c → c ≤ 34 →
    (xpAt s r c).state = .opened ∨ (xpAt s r c).state = .unknown → (∀ k ∈ others, 1 ≤ k ∧ k ≤ 34 ∧ k ≠ c) →
    let u := foundClosed r c others s
    let rows := (colWhere s c XpState.active).filter (· != r)
    let foreign (id : Nat) : Prop := rowOfOrder s id ≠ some r
    (others = [] → rows = [] → (∀ id ∈ (dirRec s c).claiming, ¬ foreign id) → (∀ id ∈ (dirRec s c).handover, ¬ foreign id) →
      xpAt u r c = { xpAt s r c with state := .closed } ∧ (∀ i j, (i, j) ≠ (r, c) → xpAt u i j = xpAt s i j) ∧
      u.log = s.log ∧ u.chg = s.chg ∧
      ((dirRec s c).claiming.isSome → (dirRec u c).state = .assigned) ∧
      ((dirRec s c).claiming = none → (dirRec s c).handover = none → (dirRec u c).state = .parked) ∧
      (dirRec u c).owner = some r) ∧
    (∀ id, others = [] → rows = [] → (dirRec s c).claiming = some id → foreign id →
      (xpAt u r c).state = .stuck ∧ (∀ i j, (i, j) ≠ (r, c) → xpAt u i j = xpAt s i j) ∧
      (dirRec u c).faultStuck = true ∧ (dirRec u c).waiting = [] ∧ .fail id .routeStuck ∈ u.agenda) ∧
    (others ≠ [] ∨ rows ≠ [] →
      (xpAt u r c).state = .stuck ∧ (∀ k ∈ others, (xpAt u r k).state = .stuck) ∧ (∀ k ∈ rows, (xpAt u k c).state = .stuck) ∧
      (∀ i j, (i, j) ≠ (r, c) → (i = r → j ∉ others) → (j = c → i ∉ rows) → xpAt u i j = xpAt s i j) ∧
      (∀ k ∈ c :: others, (dirRec u k).faultDouble = true ∧ (dirRec u k).waiting = []))

/-- R171, R172, R176: a miss is counted; the third in a row makes the unit SILENT and removes its commands; a command is tried
once more, and then has no reply. A good answer to a command takes its result to the block that offered it. -/
def Obligations.MissesAndCommandAnswersAreTaken : Prop :=
  ∀ (t : Txn) (s : State), s.running → s.whole → s.line.txn = some t → t.live = true → 1 ≤ t.addr → t.addr ≤ 63 →
    (unitAt s t.addr).state = .alive →
    let missed (v : State) : State :=
      updUnit t.addr (fun x => { x with misses := x.misses + 1 }) (count .line 0 v)
    (∀ cause, (unitAt s t.addr).misses < 2 → t.fn = .poll →
      exec (.transactionMiss cause) s = .next (settle (commandSlot (missed (endTxn s))))) ∧
    (∀ cause c, (unitAt s t.addr).misses < 2 → t.fn = .command c → t.retry = false →
      exec (.transactionMiss cause) s =
        .next ((missed s).onLine (fun l => { l with txn := some { t with retry := true } }))) ∧
    (∀ cause c, (unitAt s t.addr).misses < 2 → t.fn = .command c → t.retry = true →
      exec (.transactionMiss cause) s =
        .next (settle (startPoll (rest (missed (emit (.command c .noReply) (endTxn s))))))) ∧
    (∀ cause, 2 ≤ (unitAt s t.addr).misses →
      ∃ w, exec (.transactionMiss cause) s =
          .next (settle ((match t.fn with | .poll => commandSlot | .command _ => startPoll) (rest w))) ∧
        unitAt w t.addr = { unitAt s t.addr with misses := 3, state := .silent } ∧
        (∀ k ∈ w.line.queue ++ w.line.heldBack, k.addr ≠ t.addr) ∧ w.chg = s.chg ∧ w.tx = s.tx ∧ w.mx = s.mx ∧
        ∀ c, t.fn = .command c → .command c .noReply ∈ w.agenda) ∧
    (∀ c a, t.fn = .command c → answerOk c.fn.toCode a = true → 1 ≤ c.subject → c.subject ≤ 16 →
      ∃ w, exec (.commandReply t.addr c.fn.toCode a) s = .next (settle (startPoll (rest w))) ∧
        unitAt w t.addr = { unitAt s t.addr with misses := 0, lastGood := s.clock.time } ∧
        (∀ p, c.fn = .setpoint p → a = .ack [] → (protRec w c.subject).acked = p) ∧
        (∀ p, c.fn = .carrierOn p → a = .ack [] → (protRec w c.subject).acked = p) ∧
        (∀ m, c.fn = .mode m → a = .ack [] → (txCtl w c.subject).mode = some m) ∧
        (∀ col dir code m, c.fn = .move col dir → a = .nak code →
          s.mx.movements.find? (fun v => v.cmd == c.serial) = some m → (xpAt s m.row m.col).state.inFlight = true →
          (xpAt w m.row m.col).state = m.dir.source ∧ movementAt? w m.row m.col = none))

/-! ### Reporting, the Table Store, power and the restarts (09, 10) -/

/-- R147, R185, R192, R194: REPORT-SELECT, COUNTER-SET, COUNTER-READ, FAULT-CLEAR and PRESET-PURGE change what they name and
nothing else. -/
def Obligations.ReportingRequestsChangeWhatTheyName : Prop :=
  ∀ (tag : Nat) (s : State), s.running →
    (∀ action mask, 1 ≤ action → action ≤ 3 → mask < 4096 →
      ∃ x : BitVec 12, exec (.reportSelect tag action mask) s =
          .next (okReply 0x40 tag (.selection x) (s.onPort (fun p => { p with selected := x }))) ∧
        ∀ k, k < 12 → x.getLsbD k = if maskBit mask k then applyAction action (s.port.selected.getLsbD k)
          else s.port.selected.getLsbD k) ∧
    (∀ n cls k mask, 1 ≤ n → n ≤ 8 → StatClass.ofCode cls = some k → mask < 2 ^ k.width → (mask = 0 ↔ k = .none) →
      exec (.counterSet tag n cls mask) s = .next (okReply 0x41 tag .none
        (s.onStats (fun l => updNth l n (fun _ => { cls := k, mask := mask, value := 0 }))))) ∧
    (∀ mask, 1 ≤ mask → mask ≤ 255 →
      let read := ((upTo 8).filter (fun k => maskBit mask (k - 1))).filterMap (nth s.stats)
      exec (.counterRead tag mask 2) s = .next (okReply 0x42 tag (.counters read) s) ∧
      ∃ t, exec (.counterRead tag mask 1) s = .next (okReply 0x42 tag (.counters read) t) ∧
        { t with stats := s.stats } = s ∧
        ∀ k, 1 ≤ k → k ≤ 8 → nth t.stats k =
          (nth s.stats k).map (fun c => if maskBit mask (k - 1) then { c with value := 0 } else c)) ∧
    exec (.faultClear tag) s = .next (okReply 0x44 tag (.faultsCleared s.log.ring.length)
      (s.onLog (fun l => { l with ring := [] }))) ∧
    (∀ n, 1 ≤ n → n ≤ 16 → s.store.writing = none →
      exec (.presetPurge tag n none true) s = .next (okReply 0x3A tag
        (.purged ((txCtl s n).memory.filter (·.isSome)).length)
        (updTx n (fun x => { x with memory := x.memory.map (fun _ => none) }) s)) ∧
      ∀ f, freqOk f = true →
        (presetHit s n f = none → exec (.presetPurge tag n (some f) false) s = .next (refusal 0x3A tag .notFound s)) ∧
        (∀ p, presetHit s n f = some p → exec (.presetPurge tag n (some f) false) s =
          .next (okReply 0x3A tag (.purged 1) (setPreset n (presetIndex f) none s))))

/-- R18, R44, R125, R149, R180, R196, R197: what a completed STORE has written is what comes back at power-on, whatever slot
it went into. -/
def Obligations.ACompletedStoreComesBackAtPowerOn : Prop :=
  ∀ (tag : Nat) (s : State), s.running → s.whole → s.store.writing = none →
    ∃ t1 t2 t3 t4, exec (.store tag) s = .next t1 ∧ t1.store.writing.isSome ∧ { t1 with store := s.store } = s ∧
      exec .storeWriteComplete t1 = .next t2 ∧ { t2 with store := s.store, port := s.port } = s ∧
      t2.store.writing = none ∧ (∃ first g, t2.store.latest = some (first, g, imageOf s)) ∧
      exec .powerLoss t2 = .next t3 ∧ exec .powerOn t3 = .next t4 ∧ t4.settled ∧
      t4.hall = s.hall ∧ t4.banks = s.banks ∧ t4.line.rate = s.line.rate ∧ t4.line.window = s.line.window ∧
      t4.tx.map (·.memory) = s.tx.map (·.memory) ∧
      t4.mx.rows.map (List.map (fun x => (x.remaining, x.serviceDue))) =
        s.mx.rows.map (List.map (fun x => (x.remaining, x.serviceDue))) ∧
      t4.dir.cols.map (fun d => (d.inhibited, d.suspect)) = s.dir.cols.map (fun d => (d.inhibited, d.suspect)) ∧
      t4.chg.orders = [] ∧ t4.clock.state = .unset ∧ t4.clock.enable = false

/-- R67, R97, R168, R180, R188, R191, R194, R196, R197: a loss of power cuts a write short; the return of power starts every block
afresh from the image of the latest good slot, or from the values of R18 when neither slot is good. That the permits are withdrawn
at the loss, that the rest of the state stands unread until power returns, and that POWER_ON with supply present changes nothing
is the model's choice (log 6). -/
def Obligations.PowerIsLostAndReturns : Prop :=
  ∀ s : State,
    (∃ t, exec .powerLoss s = .next t ∧ t.pins.powered = false ∧ t.silent ∧ t.store = { s.store with writing := none } ∧
      { t with pins := s.pins, store := s.store } = s) ∧
    (s.pins.powered = true → exec .powerOn s = .next s) ∧
    (s.pins.powered = false →
      ∃ t, exec .powerOn s = .next t ∧ t.running ∧ t.pins.key = s.pins.key ∧ t.pins.chainClosed = s.pins.chainClosed ∧
        t.pending = s.pending ∧ t.store = { s.store with writing := none } ∧ t.clock = {} ∧ t.staging = {} ∧
        t.chg = {} ∧ t.log = {} ∧ t.stats = List.replicate 8 {} ∧ t.prot = List.replicate 16 {} ∧ t.line.queue = [] ∧
        t.line.heldBack = [] ∧ t.port.selected = 0xFFF ∧
        (s.store.slot1 = .bad → s.store.slot2 = .bad → t.hall = State.blank.hall ∧ t.banks = {} ∧
          t.port.out = [.report .store 0 0 (.store .badImage)]) ∧
        (∀ first g i, s.store.latest = some (first, g, i) →
          t.hall = { tx := i.tx, ant := i.ant, loads := i.loads, par := i.par } ∧ t.banks = i.banks ∧
          (s.store.slot1 = .bad ∨ s.store.slot2 = .bad →
            t.port.out = [.report .store 0 0 (.store (.singleImage g))]) ∧
          (s.store.slot1 ≠ .bad → s.store.slot2 ≠ .bad → t.port.out = [])))

/-- R58, R97, R168, R186: RESTART ORDERLY closes or cancels every order, RESTART IMMEDIATE discards them; both turn the enable
OFF, empty the deferred set and reset the protection; ORDERLY is refused under LOCAL. -/
def Obligations.ARestartClearsTheOrders : Prop :=
  ∀ (tag : Nat) (s : State), s.running → s.whole → s.store.writing = none → (s.chg.orders.map (·.id)).Nodup →
    let cleared (u : State) : Prop := u.given.outer = s.given.outer ∧ u.clock = { s.clock with enable := false } ∧
      u.banks = s.banks ∧ u.staging.deferred = [] ∧ u.staging.through = s.clock.time.or s.staging.through ∧
      ∀ p ∈ u.prot, p.factor = 1000 ∧ p.trips = [] ∧ p.base = none ∧ p.recovery = none
    (s.pins.key = .local → exec (.restartOrderly tag) s = .next (refusal 0x49 tag .locked s)) ∧
    (s.pins.key = .remote →
      ∃ u, exec (.restartOrderly tag) s = .next (okReply 0x49 tag
          (.restarted (s.chg.orders.filter (fun o => o.stage != .closing)).length) (settle u)) ∧
        cleared u ∧ ∀ o ∈ u.chg.orders, o.stage = .closing ∧ o.noRescue = true) ∧
    ∃ u, exec (.restartImmediate tag) s =
        .next (okReply 0x49 tag (.restarted s.chg.orders.length) (settle u)) ∧ cleared u ∧ u.chg.orders = []

/-! ### The inputs (03, 04) -/

/-- R54, R93, R94: the turn to LOCAL makes every order HELD and changes no stage; the turn to REMOTE leaves tables, banks and
clock alone, re-adopts every order, and clears HELD from the manual orders, and from all in AUTO. Re-adoption fails an order whose
failure was recorded, ends or expires one whose instant has passed, preempts one that is due, puts a carrier stage under an OPEN
chain into RECOVERING for safety, proves again an order that waited for the chain, and keeps ON-AIR. That a key that is where it
is asked to turn changes nothing is the model's choice (log 2). -/
def Obligations.TheHallKeyTurns : Prop :=
  ∀ s : State, s.running →
    (∀ p, s.pins.key = p → exec (.hallKeyChange p) s = .next s) ∧
    (s.pins.key = .remote →
      ∃ t, exec (.hallKeyChange .local) s = .next t ∧ { t with pins := s.pins, chg := s.chg, port := s.port } = s ∧
        t.pins = { s.pins with key := .local } ∧ t.chg.lastId = s.chg.lastId ∧
        t.chg.orders = s.chg.orders.map (fun o => { o with held := true })) ∧
    (s.pins.key = .local →
      ∃ t, exec (.hallKeyChange .remote) s = .next t ∧ t.given.outer = { s.given.outer with key := .remote } ∧
        t.banks = s.banks ∧ t.clock = s.clock ∧ (∀ p ∈ t.chg.orders, p.origin = .manual → p.held = false) ∧
        (isAuto t = true → ∀ p ∈ t.chg.orders, p.held = false) ∧ ∀ p ∈ t.prot, p.latch = false) ∧
    ∀ (id : Nat) (o : Order), order? s id = some o → s.pins.key = .remote →
      let u := readopt id s
      let closes (out : OrderOutcome) : Prop :=
        if o.stage = .staged then order? u id = none
        else ∃ p, order? u id = some p ∧ p.stage = .closing ∧ p.outcomeDue = some out
      let passed : Prop := o.ends ≤ now s
      let expired : Prop := o.firstOnAir = none ∧ o.ends ≤ now s + 60 * s.hall.par.cutoff
      (o.stage = .closing → ∃ p, order? u id = some p ∧ p.stage = .closing) ∧
      (o.stage ≠ .closing →
        (o.localFailure = true → ∃ p, order? u id = some p ∧ p.stage = .closing ∧ p.outcomeDue = some .failed ∧
          p.failure = o.failure) ∧
        (o.localFailure = false →
          (passed → closes (if o.firstOnAir = none then .expired else .ended)) ∧
          (¬ passed → expired → closes .expired) ∧
          (¬ passed → ¬ expired → readoptPreempts s o = true → closes .preempted) ∧
          (¬ passed → ¬ expired → readoptPreempts s o = false →
            (s.pins.chainClosed = true → o.stage = .onAir → ∃ p, order? u id = some p ∧ p.stage = .onAir) ∧
            (s.pins.chainClosed = false → o.stage.carrier = true ∨ o.stage = .recovering →
              ∃ p, order? u id = some p ∧ p.stage = .recovering ∧ p.recovery = some .safety) ∧
            (s.pins.chainClosed = true → o.stage = .recovering → o.recovery = some .safety →
              ∃ p, order? u id = some p ∧ p.stage = .proving ∧ p.recovery = none))))

/-- R95, R96, R137: the opening of the Safety Chain takes every order in a carrier stage to RECOVERING for safety and holds every
search in progress; its closing takes the orders to PROVING, before their ends, lets the POISED ones take their step, and runs a
held search again; under LOCAL no stage changes. That a chain that does not change has no effect is the model's choice
(log 2). -/
def Obligations.TheSafetyChainOpensAndCloses : Prop :=
  ∀ s : State, s.running →
    (s.pins.chainClosed = false → exec .safetyChainOpen s = .next s) ∧
    (s.pins.chainClosed = true → exec .safetyChainClose s = .next s) ∧
    (s.pins.chainClosed = true →
      ∃ u, exec .safetyChainOpen s = .next (settle u) ∧
        u.given.outer = { s.given.outer with chainClosed := false } ∧ u.banks = s.banks ∧ u.clock = s.clock ∧
        (∀ n t, 1 ≤ n → n ≤ 16 → (txCtl u n).tune = some t → t.kind = .search → t.held = true) ∧
        (s.pins.key = .local → u.chg = s.chg) ∧
        (s.pins.key = .remote →
          (∀ o ∈ u.chg.orders, o.stage.carrier = false) ∧
          ∀ o ∈ s.chg.orders, o.stage.carrier = true →
            ∃ p ∈ u.chg.orders, p.id = o.id ∧ p.stage = .recovering ∧ p.recovery = some .safety)) ∧
    (s.pins.chainClosed = false →
      ∃ u, exec .safetyChainClose s = .next (settle u) ∧
        u.given.outer = { s.given.outer with chainClosed := true } ∧ u.banks = s.banks ∧ u.clock = s.clock ∧
        (s.pins.key = .local → u.chg = s.chg) ∧
        (s.pins.key = .remote →
          (∀ o ∈ s.chg.orders, o.stage = .recovering → o.recovery = some .safety → now s < o.ends →
            ∃ p ∈ u.chg.orders, p.id = o.id ∧ p.stage = .proving ∧ p.recovery = none) ∧
          ((s.chg.orders.map (·.id)).Nodup → ∀ o ∈ s.chg.orders, o.stage = .poised → .advance o.id ∈ u.agenda) ∧
          ∀ n t r, s.whole → 1 ≤ n → n ≤ 16 → (txCtl s n).tune = some t → (txCtl s n).state = .tuning → t.kind = .search →
            t.held = true → txRec? s n = some r →
            (∃ t', (txCtl u n).tune = some t' ∧ t'.kind = .search ∧ t'.held = false ∧ t'.acked = false) ∧
            ((unitAt s r.tlu).state = .alive → ∃ c ∈ u.line.queue ++ u.line.heldBack,
              c.fn = .tuneSearch t.freq t.mode r.searchPower ∧ c.addr = r.tlu)))
end

