-- ==== Sys2Proof/Laws/State.lean ====
section
/-! SUPPORT. Every field of the state after each of the seventeen block updates. -/

namespace Sys2Proof.Machine

variable (s : State)

section onPins
variable (f : Pins → Pins)
@[simp] theorem onPins_pins : (s.onPins f).pins = f s.pins := rfl
@[simp] theorem onPins_hall : (s.onPins f).hall = s.hall := rfl
@[simp] theorem onPins_banks : (s.onPins f).banks = s.banks := rfl
@[simp] theorem onPins_clock : (s.onPins f).clock = s.clock := rfl
@[simp] theorem onPins_staging : (s.onPins f).staging = s.staging := rfl
@[simp] theorem onPins_chg : (s.onPins f).chg = s.chg := rfl
@[simp] theorem onPins_dir : (s.onPins f).dir = s.dir := rfl
@[simp] theorem onPins_mx : (s.onPins f).mx = s.mx := rfl
@[simp] theorem onPins_tx : (s.onPins f).tx = s.tx := rfl
@[simp] theorem onPins_prot : (s.onPins f).prot = s.prot := rfl
@[simp] theorem onPins_line : (s.onPins f).line = s.line := rfl
@[simp] theorem onPins_log : (s.onPins f).log = s.log := rfl
@[simp] theorem onPins_stats : (s.onPins f).stats = s.stats := rfl
@[simp] theorem onPins_store : (s.onPins f).store = s.store := rfl
@[simp] theorem onPins_port : (s.onPins f).port = s.port := rfl
@[simp] theorem onPins_agenda : (s.onPins f).agenda = s.agenda := rfl
@[simp] theorem onPins_notes : (s.onPins f).notes = s.notes := rfl
@[simp] theorem onPins_pending : (s.onPins f).pending = s.pending := rfl
end onPins

section onHall
variable (f : Hall → Hall)
@[simp] theorem onHall_pins : (s.onHall f).pins = s.pins := rfl
@[simp] theorem onHall_hall : (s.onHall f).hall = f s.hall := rfl
@[simp] theorem onHall_banks : (s.onHall f).banks = s.banks := rfl
@[simp] theorem onHall_clock : (s.onHall f).clock = s.clock := rfl
@[simp] theorem onHall_staging : (s.onHall f).staging = s.staging := rfl
@[simp] theorem onHall_chg : (s.onHall f).chg = s.chg := rfl
@[simp] theorem onHall_dir : (s.onHall f).dir = s.dir := rfl
@[simp] theorem onHall_mx : (s.onHall f).mx = s.mx := rfl
@[simp] theorem onHall_tx : (s.onHall f).tx = s.tx := rfl
@[simp] theorem onHall_prot : (s.onHall f).prot = s.prot := rfl
@[simp] theorem onHall_line : (s.onHall f).line = s.line := rfl
@[simp] theorem onHall_log : (s.onHall f).log = s.log := rfl
@[simp] theorem onHall_stats : (s.onHall f).stats = s.stats := rfl
@[simp] theorem onHall_store : (s.onHall f).store = s.store := rfl
@[simp] theorem onHall_port : (s.onHall f).port = s.port := rfl
@[simp] theorem onHall_agenda : (s.onHall f).agenda = s.agenda := rfl
@[simp] theorem onHall_notes : (s.onHall f).notes = s.notes := rfl
@[simp] theorem onHall_pending : (s.onHall f).pending = s.pending := rfl
end onHall

section onBanks
variable (f : Banks → Banks)
@[simp] theorem onBanks_pins : (s.onBanks f).pins = s.pins := rfl
@[simp] theorem onBanks_hall : (s.onBanks f).hall = s.hall := rfl
@[simp] theorem onBanks_banks : (s.onBanks f).banks = f s.banks := rfl
@[simp] theorem onBanks_clock : (s.onBanks f).clock = s.clock := rfl
@[simp] theorem onBanks_staging : (s.onBanks f).staging = s.staging := rfl
@[simp] theorem onBanks_chg : (s.onBanks f).chg = s.chg := rfl
@[simp] theorem onBanks_dir : (s.onBanks f).dir = s.dir := rfl
@[simp] theorem onBanks_mx : (s.onBanks f).mx = s.mx := rfl
@[simp] theorem onBanks_tx : (s.onBanks f).tx = s.tx := rfl
@[simp] theorem onBanks_prot : (s.onBanks f).prot = s.prot := rfl
@[simp] theorem onBanks_line : (s.onBanks f).line = s.line := rfl
@[simp] theorem onBanks_log : (s.onBanks f).log = s.log := rfl
@[simp] theorem onBanks_stats : (s.onBanks f).stats = s.stats := rfl
@[simp] theorem onBanks_store : (s.onBanks f).store = s.store := rfl
@[simp] theorem onBanks_port : (s.onBanks f).port = s.port := rfl
@[simp] theorem onBanks_agenda : (s.onBanks f).agenda = s.agenda := rfl
@[simp] theorem onBanks_notes : (s.onBanks f).notes = s.notes := rfl
@[simp] theorem onBanks_pending : (s.onBanks f).pending = s.pending := rfl
end onBanks

section onClock
variable (f : Clock → Clock)
@[simp] theorem onClock_pins : (s.onClock f).pins = s.pins := rfl
@[simp] theorem onClock_hall : (s.onClock f).hall = s.hall := rfl
@[simp] theorem onClock_banks : (s.onClock f).banks = s.banks := rfl
@[simp] theorem onClock_clock : (s.onClock f).clock = f s.clock := rfl
@[simp] theorem onClock_staging : (s.onClock f).staging = s.staging := rfl
@[simp] theorem onClock_chg : (s.onClock f).chg = s.chg := rfl
@[simp] theorem onClock_dir : (s.onClock f).dir = s.dir := rfl
@[simp] theorem onClock_mx : (s.onClock f).mx = s.mx := rfl
@[simp] theorem onClock_tx : (s.onClock f).tx = s.tx := rfl
@[simp] theorem onClock_prot : (s.onClock f).prot = s.prot := rfl
@[simp] theorem onClock_line : (s.onClock f).line = s.line := rfl
@[simp] theorem onClock_log : (s.onClock f).log = s.log := rfl
@[simp] theorem onClock_stats : (s.onClock f).stats = s.stats := rfl
@[simp] theorem onClock_store : (s.onClock f).store = s.store := rfl
@[simp] theorem onClock_port : (s.onClock f).port = s.port := rfl
@[simp] theorem onClock_agenda : (s.onClock f).agenda = s.agenda := rfl
@[simp] theorem onClock_notes : (s.onClock f).notes = s.notes := rfl
@[simp] theorem onClock_pending : (s.onClock f).pending = s.pending := rfl
end onClock

section onStaging
variable (f : Staging → Staging)
@[simp] theorem onStaging_pins : (s.onStaging f).pins = s.pins := rfl
@[simp] theorem onStaging_hall : (s.onStaging f).hall = s.hall := rfl
@[simp] theorem onStaging_banks : (s.onStaging f).banks = s.banks := rfl
@[simp] theorem onStaging_clock : (s.onStaging f).clock = s.clock := rfl
@[simp] theorem onStaging_staging : (s.onStaging f).staging = f s.staging := rfl
@[simp] theorem onStaging_chg : (s.onStaging f).chg = s.chg := rfl
@[simp] theorem onStaging_dir : (s.onStaging f).dir = s.dir := rfl
@[simp] theorem onStaging_mx : (s.onStaging f).mx = s.mx := rfl
@[simp] theorem onStaging_tx : (s.onStaging f).tx = s.tx := rfl
@[simp] theorem onStaging_prot : (s.onStaging f).prot = s.prot := rfl
@[simp] theorem onStaging_line : (s.onStaging f).line = s.line := rfl
@[simp] theorem onStaging_log : (s.onStaging f).log = s.log := rfl
@[simp] theorem onStaging_stats : (s.onStaging f).stats = s.stats := rfl
@[simp] theorem onStaging_store : (s.onStaging f).store = s.store := rfl
@[simp] theorem onStaging_port : (s.onStaging f).port = s.port := rfl
@[simp] theorem onStaging_agenda : (s.onStaging f).agenda = s.agenda := rfl
@[simp] theorem onStaging_notes : (s.onStaging f).notes = s.notes := rfl
@[simp] theorem onStaging_pending : (s.onStaging f).pending = s.pending := rfl
end onStaging

section onChg
variable (f : Changeover → Changeover)
@[simp] theorem onChg_pins : (s.onChg f).pins = s.pins := rfl
@[simp] theorem onChg_hall : (s.onChg f).hall = s.hall := rfl
@[simp] theorem onChg_banks : (s.onChg f).banks = s.banks := rfl
@[simp] theorem onChg_clock : (s.onChg f).clock = s.clock := rfl
@[simp] theorem onChg_staging : (s.onChg f).staging = s.staging := rfl
@[simp] theorem onChg_chg : (s.onChg f).chg = f s.chg := rfl
@[simp] theorem onChg_dir : (s.onChg f).dir = s.dir := rfl
@[simp] theorem onChg_mx : (s.onChg f).mx = s.mx := rfl
@[simp] theorem onChg_tx : (s.onChg f).tx = s.tx := rfl
@[simp] theorem onChg_prot : (s.onChg f).prot = s.prot := rfl
@[simp] theorem onChg_line : (s.onChg f).line = s.line := rfl
@[simp] theorem onChg_log : (s.onChg f).log = s.log := rfl
@[simp] theorem onChg_stats : (s.onChg f).stats = s.stats := rfl
@[simp] theorem onChg_store : (s.onChg f).store = s.store := rfl
@[simp] theorem onChg_port : (s.onChg f).port = s.port := rfl
@[simp] theorem onChg_agenda : (s.onChg f).agenda = s.agenda := rfl
@[simp] theorem onChg_notes : (s.onChg f).notes = s.notes := rfl
@[simp] theorem onChg_pending : (s.onChg f).pending = s.pending := rfl
end onChg

section onDir
variable (f : Directory → Directory)
@[simp] theorem onDir_pins : (s.onDir f).pins = s.pins := rfl
@[simp] theorem onDir_hall : (s.onDir f).hall = s.hall := rfl
@[simp] theorem onDir_banks : (s.onDir f).banks = s.banks := rfl
@[simp] theorem onDir_clock : (s.onDir f).clock = s.clock := rfl
@[simp] theorem onDir_staging : (s.onDir f).staging = s.staging := rfl
@[simp] theorem onDir_chg : (s.onDir f).chg = s.chg := rfl
@[simp] theorem onDir_dir : (s.onDir f).dir = f s.dir := rfl
@[simp] theorem onDir_mx : (s.onDir f).mx = s.mx := rfl
@[simp] theorem onDir_tx : (s.onDir f).tx = s.tx := rfl
@[simp] theorem onDir_prot : (s.onDir f).prot = s.prot := rfl
@[simp] theorem onDir_line : (s.onDir f).line = s.line := rfl
@[simp] theorem onDir_log : (s.onDir f).log = s.log := rfl
@[simp] theorem onDir_stats : (s.onDir f).stats = s.stats := rfl
@[simp] theorem onDir_store : (s.onDir f).store = s.store := rfl
@[simp] theorem onDir_port : (s.onDir f).port = s.port := rfl
@[simp] theorem onDir_agenda : (s.onDir f).agenda = s.agenda := rfl
@[simp] theorem onDir_notes : (s.onDir f).notes = s.notes := rfl
@[simp] theorem onDir_pending : (s.onDir f).pending = s.pending := rfl
end onDir

section onMx
variable (f : Matrix → Matrix)
@[simp] theorem onMx_pins : (s.onMx f).pins = s.pins := rfl
@[simp] theorem onMx_hall : (s.onMx f).hall = s.hall := rfl
@[simp] theorem onMx_banks : (s.onMx f).banks = s.banks := rfl
@[simp] theorem onMx_clock : (s.onMx f).clock = s.clock := rfl
@[simp] theorem onMx_staging : (s.onMx f).staging = s.staging := rfl
@[simp] theorem onMx_chg : (s.onMx f).chg = s.chg := rfl
@[simp] theorem onMx_dir : (s.onMx f).dir = s.dir := rfl
@[simp] theorem onMx_mx : (s.onMx f).mx = f s.mx := rfl
@[simp] theorem onMx_tx : (s.onMx f).tx = s.tx := rfl
@[simp] theorem onMx_prot : (s.onMx f).prot = s.prot := rfl
@[simp] theorem onMx_line : (s.onMx f).line = s.line := rfl
@[simp] theorem onMx_log : (s.onMx f).log = s.log := rfl
@[simp] theorem onMx_stats : (s.onMx f).stats = s.stats := rfl
@[simp] theorem onMx_store : (s.onMx f).store = s.store := rfl
@[simp] theorem onMx_port : (s.onMx f).port = s.port := rfl
@[simp] theorem onMx_agenda : (s.onMx f).agenda = s.agenda := rfl
@[simp] theorem onMx_notes : (s.onMx f).notes = s.notes := rfl
@[simp] theorem onMx_pending : (s.onMx f).pending = s.pending := rfl
end onMx

section onTx
variable (f : List TxCtl → List TxCtl)
@[simp] theorem onTx_pins : (s.onTx f).pins = s.pins := rfl
@[simp] theorem onTx_hall : (s.onTx f).hall = s.hall := rfl
@[simp] theorem onTx_banks : (s.onTx f).banks = s.banks := rfl
@[simp] theorem onTx_clock : (s.onTx f).clock = s.clock := rfl
@[simp] theorem onTx_staging : (s.onTx f).staging = s.staging := rfl
@[simp] theorem onTx_chg : (s.onTx f).chg = s.chg := rfl
@[simp] theorem onTx_dir : (s.onTx f).dir = s.dir := rfl
@[simp] theorem onTx_mx : (s.onTx f).mx = s.mx := rfl
@[simp] theorem onTx_tx : (s.onTx f).tx = f s.tx := rfl
@[simp] theorem onTx_prot : (s.onTx f).prot = s.prot := rfl
@[simp] theorem onTx_line : (s.onTx f).line = s.line := rfl
@[simp] theorem onTx_log : (s.onTx f).log = s.log := rfl
@[simp] theorem onTx_stats : (s.onTx f).stats = s.stats := rfl
@[simp] theorem onTx_store : (s.onTx f).store = s.store := rfl
@[simp] theorem onTx_port : (s.onTx f).port = s.port := rfl
@[simp] theorem onTx_agenda : (s.onTx f).agenda = s.agenda := rfl
@[simp] theorem onTx_notes : (s.onTx f).notes = s.notes := rfl
@[simp] theorem onTx_pending : (s.onTx f).pending = s.pending := rfl
end onTx

section onProt
variable (f : List ProtRec → List ProtRec)
@[simp] theorem onProt_pins : (s.onProt f).pins = s.pins := rfl
@[simp] theorem onProt_hall : (s.onProt f).hall = s.hall := rfl
@[simp] theorem onProt_banks : (s.onProt f).banks = s.banks := rfl
@[simp] theorem onProt_clock : (s.onProt f).clock = s.clock := rfl
@[simp] theorem onProt_staging : (s.onProt f).staging = s.staging := rfl
@[simp] theorem onProt_chg : (s.onProt f).chg = s.chg := rfl
@[simp] theorem onProt_dir : (s.onProt f).dir = s.dir := rfl
@[simp] theorem onProt_mx : (s.onProt f).mx = s.mx := rfl
@[simp] theorem onProt_tx : (s.onProt f).tx = s.tx := rfl
@[simp] theorem onProt_prot : (s.onProt f).prot = f s.prot := rfl
@[simp] theorem onProt_line : (s.onProt f).line = s.line := rfl
@[simp] theorem onProt_log : (s.onProt f).log = s.log := rfl
@[simp] theorem onProt_stats : (s.onProt f).stats = s.stats := rfl
@[simp] theorem onProt_store : (s.onProt f).store = s.store := rfl
@[simp] theorem onProt_port : (s.onProt f).port = s.port := rfl
@[simp] theorem onProt_agenda : (s.onProt f).agenda = s.agenda := rfl
@[simp] theorem onProt_notes : (s.onProt f).notes = s.notes := rfl
@[simp] theorem onProt_pending : (s.onProt f).pending = s.pending := rfl
end onProt

section onLine
variable (f : Line → Line)
@[simp] theorem onLine_pins : (s.onLine f).pins = s.pins := rfl
@[simp] theorem onLine_hall : (s.onLine f).hall = s.hall := rfl
@[simp] theorem onLine_banks : (s.onLine f).banks = s.banks := rfl
@[simp] theorem onLine_clock : (s.onLine f).clock = s.clock := rfl
@[simp] theorem onLine_staging : (s.onLine f).staging = s.staging := rfl
@[simp] theorem onLine_chg : (s.onLine f).chg = s.chg := rfl
@[simp] theorem onLine_dir : (s.onLine f).dir = s.dir := rfl
@[simp] theorem onLine_mx : (s.onLine f).mx = s.mx := rfl
@[simp] theorem onLine_tx : (s.onLine f).tx = s.tx := rfl
@[simp] theorem onLine_prot : (s.onLine f).prot = s.prot := rfl
@[simp] theorem onLine_line : (s.onLine f).line = f s.line := rfl
@[simp] theorem onLine_log : (s.onLine f).log = s.log := rfl
@[simp] theorem onLine_stats : (s.onLine f).stats = s.stats := rfl
@[simp] theorem onLine_store : (s.onLine f).store = s.store := rfl
@[simp] theorem onLine_port : (s.onLine f).port = s.port := rfl
@[simp] theorem onLine_agenda : (s.onLine f).agenda = s.agenda := rfl
@[simp] theorem onLine_notes : (s.onLine f).notes = s.notes := rfl
@[simp] theorem onLine_pending : (s.onLine f).pending = s.pending := rfl
end onLine

section onLog
variable (f : FaultLog → FaultLog)
@[simp] theorem onLog_pins : (s.onLog f).pins = s.pins := rfl
@[simp] theorem onLog_hall : (s.onLog f).hall = s.hall := rfl
@[simp] theorem onLog_banks : (s.onLog f).banks = s.banks := rfl
@[simp] theorem onLog_clock : (s.onLog f).clock = s.clock := rfl
@[simp] theorem onLog_staging : (s.onLog f).staging = s.staging := rfl
@[simp] theorem onLog_chg : (s.onLog f).chg = s.chg := rfl
@[simp] theorem onLog_dir : (s.onLog f).dir = s.dir := rfl
@[simp] theorem onLog_mx : (s.onLog f).mx = s.mx := rfl
@[simp] theorem onLog_tx : (s.onLog f).tx = s.tx := rfl
@[simp] theorem onLog_prot : (s.onLog f).prot = s.prot := rfl
@[simp] theorem onLog_line : (s.onLog f).line = s.line := rfl
@[simp] theorem onLog_log : (s.onLog f).log = f s.log := rfl
@[simp] theorem onLog_stats : (s.onLog f).stats = s.stats := rfl
@[simp] theorem onLog_store : (s.onLog f).store = s.store := rfl
@[simp] theorem onLog_port : (s.onLog f).port = s.port := rfl
@[simp] theorem onLog_agenda : (s.onLog f).agenda = s.agenda := rfl
@[simp] theorem onLog_notes : (s.onLog f).notes = s.notes := rfl
@[simp] theorem onLog_pending : (s.onLog f).pending = s.pending := rfl
end onLog

section onStats
variable (f : List Counter → List Counter)
@[simp] theorem onStats_pins : (s.onStats f).pins = s.pins := rfl
@[simp] theorem onStats_hall : (s.onStats f).hall = s.hall := rfl
@[simp] theorem onStats_banks : (s.onStats f).banks = s.banks := rfl
@[simp] theorem onStats_clock : (s.onStats f).clock = s.clock := rfl
@[simp] theorem onStats_staging : (s.onStats f).staging = s.staging := rfl
@[simp] theorem onStats_chg : (s.onStats f).chg = s.chg := rfl
@[simp] theorem onStats_dir : (s.onStats f).dir = s.dir := rfl
@[simp] theorem onStats_mx : (s.onStats f).mx = s.mx := rfl
@[simp] theorem onStats_tx : (s.onStats f).tx = s.tx := rfl
@[simp] theorem onStats_prot : (s.onStats f).prot = s.prot := rfl
@[simp] theorem onStats_line : (s.onStats f).line = s.line := rfl
@[simp] theorem onStats_log : (s.onStats f).log = s.log := rfl
@[simp] theorem onStats_stats : (s.onStats f).stats = f s.stats := rfl
@[simp] theorem onStats_store : (s.onStats f).store = s.store := rfl
@[simp] theorem onStats_port : (s.onStats f).port = s.port := rfl
@[simp] theorem onStats_agenda : (s.onStats f).agenda = s.agenda := rfl
@[simp] theorem onStats_notes : (s.onStats f).notes = s.notes := rfl
@[simp] theorem onStats_pending : (s.onStats f).pending = s.pending := rfl
end onStats

section onStore
variable (f : Store → Store)
@[simp] theorem onStore_pins : (s.onStore f).pins = s.pins := rfl
@[simp] theorem onStore_hall : (s.onStore f).hall = s.hall := rfl
@[simp] theorem onStore_banks : (s.onStore f).banks = s.banks := rfl
@[simp] theorem onStore_clock : (s.onStore f).clock = s.clock := rfl
@[simp] theorem onStore_staging : (s.onStore f).staging = s.staging := rfl
@[simp] theorem onStore_chg : (s.onStore f).chg = s.chg := rfl
@[simp] theorem onStore_dir : (s.onStore f).dir = s.dir := rfl
@[simp] theorem onStore_mx : (s.onStore f).mx = s.mx := rfl
@[simp] theorem onStore_tx : (s.onStore f).tx = s.tx := rfl
@[simp] theorem onStore_prot : (s.onStore f).prot = s.prot := rfl
@[simp] theorem onStore_line : (s.onStore f).line = s.line := rfl
@[simp] theorem onStore_log : (s.onStore f).log = s.log := rfl
@[simp] theorem onStore_stats : (s.onStore f).stats = s.stats := rfl
@[simp] theorem onStore_store : (s.onStore f).store = f s.store := rfl
@[simp] theorem onStore_port : (s.onStore f).port = s.port := rfl
@[simp] theorem onStore_agenda : (s.onStore f).agenda = s.agenda := rfl
@[simp] theorem onStore_notes : (s.onStore f).notes = s.notes := rfl
@[simp] theorem onStore_pending : (s.onStore f).pending = s.pending := rfl
end onStore

section onPort
variable (f : Port → Port)
@[simp] theorem onPort_pins : (s.onPort f).pins = s.pins := rfl
@[simp] theorem onPort_hall : (s.onPort f).hall = s.hall := rfl
@[simp] theorem onPort_banks : (s.onPort f).banks = s.banks := rfl
@[simp] theorem onPort_clock : (s.onPort f).clock = s.clock := rfl
@[simp] theorem onPort_staging : (s.onPort f).staging = s.staging := rfl
@[simp] theorem onPort_chg : (s.onPort f).chg = s.chg := rfl
@[simp] theorem onPort_dir : (s.onPort f).dir = s.dir := rfl
@[simp] theorem onPort_mx : (s.onPort f).mx = s.mx := rfl
@[simp] theorem onPort_tx : (s.onPort f).tx = s.tx := rfl
@[simp] theorem onPort_prot : (s.onPort f).prot = s.prot := rfl
@[simp] theorem onPort_line : (s.onPort f).line = s.line := rfl
@[simp] theorem onPort_log : (s.onPort f).log = s.log := rfl
@[simp] theorem onPort_stats : (s.onPort f).stats = s.stats := rfl
@[simp] theorem onPort_store : (s.onPort f).store = s.store := rfl
@[simp] theorem onPort_port : (s.onPort f).port = f s.port := rfl
@[simp] theorem onPort_agenda : (s.onPort f).agenda = s.agenda := rfl
@[simp] theorem onPort_notes : (s.onPort f).notes = s.notes := rfl
@[simp] theorem onPort_pending : (s.onPort f).pending = s.pending := rfl
end onPort

section onAgenda
variable (f : List Signal → List Signal)
@[simp] theorem onAgenda_pins : (s.onAgenda f).pins = s.pins := rfl
@[simp] theorem onAgenda_hall : (s.onAgenda f).hall = s.hall := rfl
@[simp] theorem onAgenda_banks : (s.onAgenda f).banks = s.banks := rfl
@[simp] theorem onAgenda_clock : (s.onAgenda f).clock = s.clock := rfl
@[simp] theorem onAgenda_staging : (s.onAgenda f).staging = s.staging := rfl
@[simp] theorem onAgenda_chg : (s.onAgenda f).chg = s.chg := rfl
@[simp] theorem onAgenda_dir : (s.onAgenda f).dir = s.dir := rfl
@[simp] theorem onAgenda_mx : (s.onAgenda f).mx = s.mx := rfl
@[simp] theorem onAgenda_tx : (s.onAgenda f).tx = s.tx := rfl
@[simp] theorem onAgenda_prot : (s.onAgenda f).prot = s.prot := rfl
@[simp] theorem onAgenda_line : (s.onAgenda f).line = s.line := rfl
@[simp] theorem onAgenda_log : (s.onAgenda f).log = s.log := rfl
@[simp] theorem onAgenda_stats : (s.onAgenda f).stats = s.stats := rfl
@[simp] theorem onAgenda_store : (s.onAgenda f).store = s.store := rfl
@[simp] theorem onAgenda_port : (s.onAgenda f).port = s.port := rfl
@[simp] theorem onAgenda_agenda : (s.onAgenda f).agenda = f s.agenda := rfl
@[simp] theorem onAgenda_notes : (s.onAgenda f).notes = s.notes := rfl
@[simp] theorem onAgenda_pending : (s.onAgenda f).pending = s.pending := rfl
end onAgenda

section onNotes
variable (f : List OrderNote → List OrderNote)
@[simp] theorem onNotes_pins : (s.onNotes f).pins = s.pins := rfl
@[simp] theorem onNotes_hall : (s.onNotes f).hall = s.hall := rfl
@[simp] theorem onNotes_banks : (s.onNotes f).banks = s.banks := rfl
@[simp] theorem onNotes_clock : (s.onNotes f).clock = s.clock := rfl
@[simp] theorem onNotes_staging : (s.onNotes f).staging = s.staging := rfl
@[simp] theorem onNotes_chg : (s.onNotes f).chg = s.chg := rfl
@[simp] theorem onNotes_dir : (s.onNotes f).dir = s.dir := rfl
@[simp] theorem onNotes_mx : (s.onNotes f).mx = s.mx := rfl
@[simp] theorem onNotes_tx : (s.onNotes f).tx = s.tx := rfl
@[simp] theorem onNotes_prot : (s.onNotes f).prot = s.prot := rfl
@[simp] theorem onNotes_line : (s.onNotes f).line = s.line := rfl
@[simp] theorem onNotes_log : (s.onNotes f).log = s.log := rfl
@[simp] theorem onNotes_stats : (s.onNotes f).stats = s.stats := rfl
@[simp] theorem onNotes_store : (s.onNotes f).store = s.store := rfl
@[simp] theorem onNotes_port : (s.onNotes f).port = s.port := rfl
@[simp] theorem onNotes_agenda : (s.onNotes f).agenda = s.agenda := rfl
@[simp] theorem onNotes_notes : (s.onNotes f).notes = f s.notes := rfl
@[simp] theorem onNotes_pending : (s.onNotes f).pending = s.pending := rfl
end onNotes

/-! ### The idle clock and the state of a transmitter -/

@[simp] theorem TxCtl.awake_state (x : TxCtl) : x.awake.state = x.state := rfl
@[simp] theorem TxCtl.awake_tuned (x : TxCtl) : x.awake.tuned = x.tuned := rfl
@[simp] theorem TxCtl.awake_mode (x : TxCtl) : x.awake.mode = x.mode := rfl
@[simp] theorem TxCtl.awake_telemetry (x : TxCtl) : x.awake.telemetry = x.telemetry := rfl
@[simp] theorem TxCtl.awake_warm (x : TxCtl) : x.awake.warm = x.warm := rfl
@[simp] theorem TxCtl.awake_tune (x : TxCtl) : x.awake.tune = x.tune := rfl
@[simp] theorem TxCtl.awake_carrier (x : TxCtl) : x.awake.carrier = x.carrier := rfl
@[simp] theorem TxCtl.awake_offWaiters (x : TxCtl) : x.awake.offWaiters = x.offWaiters := rfl
@[simp] theorem TxCtl.awake_offReq (x : TxCtl) : x.awake.offReq = x.offReq := rfl
@[simp] theorem TxCtl.awake_coolDown (x : TxCtl) : x.awake.coolDown = x.coolDown := rfl
@[simp] theorem TxCtl.awake_blind (x : TxCtl) : x.awake.blind = x.blind := rfl
@[simp] theorem TxCtl.awake_filOffAcked (x : TxCtl) : x.awake.filOffAcked = x.filOffAcked := rfl
@[simp] theorem TxCtl.awake_pastBlind (x : TxCtl) : x.awake.pastBlind = x.pastBlind := rfl
@[simp] theorem TxCtl.awake_memory (x : TxCtl) : x.awake.memory = x.memory := rfl
@[simp] theorem TxCtl.awake_idle (x : TxCtl) : x.awake.idle = 0 := rfl
@[simp] theorem TxCtl.awake_coolDue (x : TxCtl) : x.awake.coolDue = false := rfl

@[simp] theorem TxCtl.to_state (st : TxState) (x : TxCtl) : (x.to st).state = st := by unfold TxCtl.to; split <;> simp_all
@[simp] theorem TxCtl.to_tuned (st : TxState) (x : TxCtl) : (x.to st).tuned = x.tuned := by unfold TxCtl.to; split <;> rfl
@[simp] theorem TxCtl.to_mode (st : TxState) (x : TxCtl) : (x.to st).mode = x.mode := by unfold TxCtl.to; split <;> rfl
@[simp] theorem TxCtl.to_telemetry (st : TxState) (x : TxCtl) : (x.to st).telemetry = x.telemetry := by unfold TxCtl.to; split <;> rfl
@[simp] theorem TxCtl.to_warm (st : TxState) (x : TxCtl) : (x.to st).warm = x.warm := by unfold TxCtl.to; split <;> rfl
@[simp] theorem TxCtl.to_tune (st : TxState) (x : TxCtl) : (x.to st).tune = x.tune := by unfold TxCtl.to; split <;> rfl
@[simp] theorem TxCtl.to_carrier (st : TxState) (x : TxCtl) : (x.to st).carrier = x.carrier := by unfold TxCtl.to; split <;> rfl
@[simp] theorem TxCtl.to_offWaiters (st : TxState) (x : TxCtl) : (x.to st).offWaiters = x.offWaiters := by unfold TxCtl.to; split <;> rfl
@[simp] theorem TxCtl.to_offReq (st : TxState) (x : TxCtl) : (x.to st).offReq = x.offReq := by unfold TxCtl.to; split <;> rfl
@[simp] theorem TxCtl.to_coolDown (st : TxState) (x : TxCtl) : (x.to st).coolDown = x.coolDown := by unfold TxCtl.to; split <;> rfl
@[simp] theorem TxCtl.to_blind (st : TxState) (x : TxCtl) : (x.to st).blind = x.blind := by unfold TxCtl.to; split <;> rfl
@[simp] theorem TxCtl.to_filOffAcked (st : TxState) (x : TxCtl) : (x.to st).filOffAcked = x.filOffAcked := by unfold TxCtl.to; split <;> rfl
@[simp] theorem TxCtl.to_pastBlind (st : TxState) (x : TxCtl) : (x.to st).pastBlind = x.pastBlind := by unfold TxCtl.to; split <;> rfl
@[simp] theorem TxCtl.to_memory (st : TxState) (x : TxCtl) : (x.to st).memory = x.memory := by unfold TxCtl.to; split <;> rfl

/-- Outside STANDBY the idle clock stands at 0 (R131). -/
theorem TxCtl.to_idle {st : TxState} (h : st ≠ .standby) (x : TxCtl) : (x.to st).idle = 0 := by
  unfold TxCtl.to; rw [if_neg h]; rfl

end Sys2Proof.Machine
end

