-- ==== Sys2Proof/Laws/Frames.lean ====
section
/-! SUPPORT. What the shared operations leave alone: `State.given` after each of them. -/

namespace Sys2Proof.Machine

theorem updNth_length {α : Type} (l : List α) (n : Nat) (f : α → α) : (updNth l n f).length = l.length := by
  unfold updNth; split <;> simp

theorem updNth_map_same {α β : Type} (l : List α) (n : Nat) (f : α → α) (g : α → β) (h : ∀ x, g (f x) = g x) :
    (updNth l n f).map g = l.map g := by
  unfold updNth
  split
  · rfl
  · apply List.ext_getElem?
    intro i
    simp only [List.getElem?_map, List.getElem?_modify]
    cases l[i]? <;> simp
    split <;> simp [h]

@[simp] theorem onAgenda_given (s : State) (f) : (s.onAgenda f).given = s.given := rfl
@[simp] theorem onNotes_given (s : State) (f) : (s.onNotes f).given = s.given := rfl
@[simp] theorem onChg_given (s : State) (f) : (s.onChg f).given = s.given := rfl
@[simp] theorem onLog_given (s : State) (f) : (s.onLog f).given = s.given := rfl
@[simp] theorem onStats_given (s : State) (f) (h : (f s.stats).length = s.stats.length) : (s.onStats f).given = s.given := by
  simp [State.given, State.outer, State.sizes, h]
@[simp] theorem onProt_given (s : State) (f) (h : (f s.prot).length = s.prot.length) : (s.onProt f).given = s.given := by
  simp [State.given, State.outer, State.sizes, h]
@[simp] theorem onTx_given (s : State) (f) (h : (f s.tx).map (fun x => x.memory.length) = s.tx.map (fun x => x.memory.length)) :
    (s.onTx f).given = s.given := by
  simp [State.given, State.outer, State.sizes, h]
@[simp] theorem onDir_given (s : State) (f)
    (h : (f s.dir).cols.map (fun d => (d.inhibited, d.suspect)) = s.dir.cols.map (fun d => (d.inhibited, d.suspect))) :
    (s.onDir f).given = s.given := by
  have h2 := congrArg List.length h
  simp only [List.length_map] at h2
  simp [State.given, State.outer, State.sizes, h, h2]
@[simp] theorem onMx_given (s : State) (f) (h : (f s.mx).rows.map List.length = s.mx.rows.map List.length)
    (h2 : (f s.mx).rotators.length = s.mx.rotators.length) : (s.onMx f).given = s.given := by
  simp [State.given, State.outer, State.sizes, h, h2]
@[simp] theorem onLine_given (s : State) (f) (h : (f s.line).units = s.line.units) (h2 : (f s.line).rate = s.line.rate)
    (h3 : (f s.line).window = s.line.window) : (s.onLine f).given = s.given := by
  simp [State.given, State.outer, State.sizes, h, h2, h3]

@[simp] theorem updTx_given (n : Nat) (f : TxCtl → TxCtl) (s : State)
    (h : (∀ x, (f x).memory.length = x.memory.length) = True) : (updTx n f s).given = s.given :=
  onTx_given s _ (updNth_map_same _ _ _ _ (of_eq_true h))
@[simp] theorem updProt_given (n : Nat) (f) (s : State) : (updProt n f s).given = s.given :=
  onProt_given s _ (updNth_length ..)
@[simp] theorem updDir_given (n : Nat) (f : DirRec → DirRec) (s : State)
    (h : (∀ d, ((f d).inhibited, (f d).suspect) = (d.inhibited, d.suspect)) = True) : (updDir n f s).given = s.given :=
  onDir_given s _ (updNth_map_same _ _ _ _ (of_eq_true h))
@[simp] theorem updXp_given (r c : Nat) (f) (s : State) : (updXp r c f s).given = s.given :=
  onMx_given s _ (updNth_map_same _ _ _ _ (fun _ => updNth_length ..)) rfl
@[simp] theorem updRotator_given (n : Nat) (f) (s : State) : (updRotator n f s).given = s.given :=
  onMx_given s _ rfl (updNth_length ..)
@[simp] theorem updOrder_given (n : Nat) (f) (s : State) : (updOrder n f s).given = s.given := rfl
@[simp] theorem emit_given (g) (s : State) : (emit g s).given = s.given := rfl

@[simp] theorem forEach_given {α : Type} (l : List α) (f : α → State → State) (s : State)
    (h' : (∀ x t, (f x t).given = t.given) = True) : (forEach l f s).given = s.given := by
  have h := of_eq_true h'
  unfold forEach
  induction l generalizing s with
  | nil => rfl
  | cons a l ih => simp only [List.foldl_cons]; rw [ih, h]

theorem offer_outer (b : ReportBody) (s : State) : (offerReport b s).given = s.given := by
  unfold offerReport Port.offer
  simp only [State.given, State.outer, State.sizes, onPort_port, onPort_pins, onPort_hall, onPort_banks, onPort_clock,
    onPort_staging, onPort_dir, onPort_mx, onPort_tx, onPort_prot, onPort_line, onPort_stats, onPort_store, onPort_pending]
  split
  · rfl
  · split <;> rfl
@[simp] theorem setPreset_given (n i : Nat) (p : Option Preset) (s : State) : (setPreset n i p s).given = s.given :=
  updTx_given _ _ _ (by simp)
theorem place_lines (c : Cmd) (l : Line) :
    (l.place c).units = l.units ∧ (l.place c).rate = l.rate ∧ (l.place c).window = l.window := by
  unfold Line.place; (repeat' split) <;> simp
@[simp] theorem withFault_flags (k : FaultFlag) (d : DirRec) :
    ((d.withFault k).inhibited, (d.withFault k).suspect) = (d.inhibited, d.suspect) := by cases k <;> rfl

/-! ### Reports -/

@[simp] theorem offerReport_given (body : ReportBody) (s : State) : (offerReport body s).given = s.given := offer_outer body s
@[simp] theorem queueReply_given (kind tag : Nat) (st : Status) (d : Detail) (data : ReplyData) (s : State) : (queueReply kind tag st d data s).given = s.given := rfl
@[simp] theorem count_given (cls : StatClass) (q : Nat) (s : State) : (count cls q s).given = s.given := by
  unfold count; simp
@[simp] theorem countDir_given (t : DirTransition) (s : State) : (countDir t s).given = s.given := by
  unfold countDir; simp
@[simp] theorem countOutcome_given (x : OrderOutcome) (s : State) : (countOutcome x s).given = s.given := by
  unfold countOutcome; (repeat' split) <;> simp
@[simp] theorem logFault_given (r : FaultRecord) (s : State) : (logFault r s).given = s.given := by
  unfold logFault; simp
@[simp] theorem makeFaultWith_given (kind : FaultKind) (sub : Subject) (order : Option (Nat × Stage)) (fl : InFlight) (tele : Option TeleSnap) (trips : Nat) (s : State) : (makeFaultWith kind sub order fl tele trips s).given = s.given := by
  unfold makeFaultWith; simp
@[simp] theorem makeTxFault_given (kind : FaultKind) (n : Nat) (order : Option (Nat × Stage)) (s : State) : (makeTxFault kind n order s).given = s.given := by
  unfold makeTxFault; simp
@[simp] theorem makeFault_given (kind : FaultKind) (sub : Subject) (order : Option (Nat × Stage)) (s : State) : (makeFault kind sub order s).given = s.given := by
  unfold makeFault; simp
@[simp] theorem hallReport_given (cause : HallCause) (s : State) : (hallReport cause s).given = s.given := by
  unfold hallReport; simp
@[simp] theorem noteOrder_given (id : Nat) (s : State) : (noteOrder id s).given = s.given := by
  unfold noteOrder; (repeat' split) <;> simp
@[simp] theorem noteCreated_given (id : Nat) (s : State) : (noteCreated id s).given = s.given := by
  unfold noteCreated; simp
@[simp] theorem updNote_given (id : Nat) (f : OrderNote → OrderNote) (s : State) : (updNote id f s).given = s.given := by
  unfold updNote; simp
@[simp] theorem flushNote_given (k : OrderNote) (s : State) : (flushNote k s).given = s.given := by
  unfold flushNote; (repeat' split) <;> simp
@[simp] theorem flushOrders_given (s : State) : (flushOrders s).given = s.given := by
  unfold flushOrders; simp

/-! ### LineOps -/

@[simp] theorem placeCmd_given (c : Cmd) (s : State) : (placeCmd c s).given = s.given := by
  have h := place_lines c s.line
  unfold placeCmd; split
  · exact onLine_given _ _ h.1 h.2.1 h.2.2
  · rfl
@[simp] theorem offerCmd_given (addr : Nat) (fn : CmdFn) (urgent : Bool) (subject : Nat) (s : State) : (offerCmd addr fn urgent subject s).given = s.given := by
  unfold offerCmd; (try dsimp only); simp
@[simp] theorem removeCmds_given (p : Cmd → Bool) (s : State) : (removeCmds p s).given = s.given := onLine_given _ _ rfl rfl rfl
@[simp] theorem failCmds_given (p : Cmd → Bool) (s : State) : (failCmds p s).given = s.given := by
  unfold failCmds; (try dsimp only); simp
@[simp] theorem markSent_given (c : Cmd) (s : State) : (markSent c s).given = s.given := by
  unfold markSent; exact updTx_given _ _ _ (by simp; intro x; split <;> rfl)
@[simp] theorem unitReport_given (s : State) (addr : Nat) (new previous : UnitState) (cause : Option MissCause) : (unitReport s addr new previous cause).given = s.given := by
  unfold unitReport; (try dsimp only); simp
@[simp] theorem unitLost_given (addr : Nat) (fl : InFlight) (cause : MissCause) (s : State) : (unitLost addr fl cause s).given = s.given := by
  unfold unitLost; (try dsimp only); (repeat' split) <;> simp
@[simp] theorem unitDown_given (addr : Nat) (fl : InFlight) (cause : MissCause) (s : State) : (unitDown addr fl cause s).given = s.given := by
  unfold unitDown; (try dsimp only); (repeat' split) <;> simp

/-! ### TxOps -/

@[simp] theorem setWork_given (id : Nat) (f : WorkSet → WorkSet) (s : State) : (setWork id f s).given = s.given := rfl
@[simp] theorem setTxState_given (n : Nat) (st : TxState) (s : State) : (setTxState n st s).given = s.given := by
  unfold setTxState; simp
@[simp] theorem offerTlu_given (n : Nat) (fn : CmdFn) (urgent : Bool) (s : State) : (offerTlu n fn urgent s).given = s.given := by
  unfold offerTlu; (repeat' split) <;> simp
@[simp] theorem dropTune_given (n : Nat) (s : State) : (dropTune n s).given = s.given := by
  unfold dropTune; (try dsimp only); (repeat' split) <;> simp
@[simp] theorem failOrdersOn_given (n : Nat) (lo hi : Stage) (cause : FailCause) (s : State) : (failOrdersOn n lo hi cause s).given = s.given := by
  unfold failOrdersOn; simp
@[simp] theorem loseWork_given (n : Nat) (lo : Stage) (s : State) : (loseWork n lo s).given = s.given := by
  unfold loseWork; (try dsimp only); split <;> simp
@[simp] theorem goOffline_given (n : Nat) (s : State) : (goOffline n s).given = s.given := by
  unfold goOffline; (try dsimp only); (repeat' split) <;> simp
@[simp] theorem warmFromReply_given (n : Nat) (s : State) : (warmFromReply n s).given = s.given := by
  unfold warmFromReply; simp
@[simp] theorem takeState_given (n : Nat) (s : State) : (takeState n s).given = s.given := by
  unfold takeState; (try dsimp only); (repeat' split) <;> simp
@[simp] theorem takeStateIfTuning_given (n : Nat) (s : State) : (takeStateIfTuning n s).given = s.given := by
  unfold takeStateIfTuning; (repeat' split) <;> simp
@[simp] theorem leaveTripped_given (n : Nat) (s : State) : (leaveTripped n s).given = s.given := by
  unfold leaveTripped; (repeat' split) <;> simp
@[simp] theorem carrierOffRequest_given (n : Nat) (who : Option Nat) (s : State) : (carrierOffRequest n who s).given = s.given := by
  unfold carrierOffRequest; (try dsimp only); (repeat' split) <;> simp
@[simp] theorem carrierOn_given (n level : Nat) (s : State) : (carrierOn n level s).given = s.given := by
  unfold carrierOn; simp
@[simp] theorem setpointRequest_given (n power : Nat) (s : State) : (setpointRequest n power s).given = s.given := by
  unfold setpointRequest; (try dsimp only); (repeat' split) <;> simp
@[simp] theorem confirmOff_given (n : Nat) (s : State) : (confirmOff n s).given = s.given := by
  unfold confirmOff; (try dsimp only); simp
@[simp] theorem cancelCoolDown_given (n : Nat) (s : State) : (cancelCoolDown n s).given = s.given := by
  unfold cancelCoolDown; (repeat' split) <;> simp
@[simp] theorem informCoolDown_given (n : Nat) (s : State) : (informCoolDown n s).given = s.given := by
  unfold informCoolDown; simp
@[simp] theorem requestWarmUp_given (n id : Nat) (s : State) : (requestWarmUp n id s).given = s.given := by
  unfold requestWarmUp; (try dsimp only); (repeat' split) <;> simp
@[simp] theorem dropWarm_given (n id : Nat) (s : State) : (dropWarm n id s).given = s.given := by
  unfold dropWarm; simp
@[simp] theorem warmUpDone_given (n : Nat) (s : State) : (warmUpDone n s).given = s.given := by
  unfold warmUpDone; (try dsimp only); (repeat' split) <;> simp
@[simp] theorem warmUpFailed_given (n : Nat) (s : State) : (warmUpFailed n s).given = s.given := by
  unfold warmUpFailed; (try dsimp only); (repeat' split) <;> simp
@[simp] theorem filamentOffAcked_given (n : Nat) (s : State) : (filamentOffAcked n s).given = s.given := by
  unfold filamentOffAcked; (try dsimp only); (repeat' split) <;> simp
@[simp] theorem invalidate_given (n f : Nat) (s : State) : (invalidate n f s).given = s.given := by
  unfold invalidate; (repeat' split) <;> simp
@[simp] theorem countTuneKind_given (x : TuneKind) (s : State) : (countTuneKind x s).given = s.given := by
  unfold countTuneKind; (repeat' split) <;> simp
@[simp] theorem openTune_given (n : Nat) (t : TuneInHand) (s : State) : (openTune n t s).given = s.given := by
  unfold openTune; simp
@[simp] theorem startMode_given (n id f : Nat) (m : Mode) (s : State) : (startMode n id f m s).given = s.given := by
  unfold startMode; simp
@[simp] theorem startPreset_given (n id f : Nat) (m : Mode) (p : Preset) (s : State) : (startPreset n id f m p s).given = s.given := by
  unfold startPreset; simp
@[simp] theorem startSearch_given (n id f : Nat) (m : Mode) (s : State) : (startSearch n id f m s).given = s.given := by
  unfold startSearch; (try dsimp only); simp
@[simp] theorem tuneResult_given (n : Nat) (ok : Bool) (s : State) : (tuneResult n ok s).given = s.given := by
  unfold tuneResult; (try dsimp only); (repeat' split) <;> simp
@[simp] theorem searchFail_given (n : Nat) (ranOut : Bool) (s : State) : (searchFail n ranOut s).given = s.given := by
  unfold searchFail; (try dsimp only); (repeat' split) <;> simp
@[simp] theorem presetFail_given (n : Nat) (drop : Bool) (s : State) : (presetFail n drop s).given = s.given := by
  unfold presetFail; (try dsimp only); (repeat' split) <;> simp
@[simp] theorem endSearch_given (n : Nat) (s : State) : (endSearch n s).given = s.given := by
  unfold endSearch; simp
@[simp] theorem holdSearch_given (n : Nat) (s : State) : (holdSearch n s).given = s.given := by
  unfold holdSearch; (try dsimp only); (repeat' split) <;> simp
@[simp] theorem resumeSearch_given (n : Nat) (s : State) : (resumeSearch n s).given = s.given := by
  unfold resumeSearch; (repeat' split) <;> simp
@[simp] theorem beginBlind_given (n id : Nat) (s : State) : (beginBlind n id s).given = s.given := by
  unfold beginBlind; simp
@[simp] theorem endBlind_given (n : Nat) (s : State) : (endBlind n s).given = s.given := by
  unfold endBlind; (repeat' split) <;> simp
@[simp] theorem setStage_given (id : Nat) (st : Stage) (s : State) : (setStage id st s).given = s.given := by
  unfold setStage; (try dsimp only); (repeat' split) <;> simp

/-! ### MatrixOps -/

@[simp] theorem antReport_given (c : Nat) (cause : AntCause) (s : State) : (antReport c cause s).given = s.given := by
  unfold antReport; (try dsimp only); simp
@[simp] theorem setFault_given (c : Nat) (k : FaultFlag) (s : State) : (setFault c k s).given = s.given := by
  unfold setFault; split
  · rfl
  · rw [antReport_given, updDir_given _ _ _ (eq_true (withFault_flags k))]
@[simp] theorem xpReport_given (r c : Nat) (old new : XpState) (reported : Option SwitchPos) (cause : XpCause) (s : State) : (xpReport r c old new reported cause s).given = s.given := by
  unfold xpReport; simp
@[simp] theorem setXp_given (r c : Nat) (st : XpState) (s : State) : (setXp r c st s).given = s.given := by
  unfold setXp; simp
@[simp] theorem settleTo_given (c : Nat) (law : DirState × Option Nat) (s : State) : (settleTo c law s).given = s.given := by
  unfold settleTo; (try dsimp only); (repeat' split) <;> simp
@[simp] theorem settleColumn_given (c : Nat) (s : State) : (settleColumn c s).given = s.given := settleTo_given ..
@[simp] theorem offerWaiters_given (c : Nat) (s : State) : (offerWaiters c s).given = s.given := by
  unfold offerWaiters; (repeat' split) <;> simp
@[simp] theorem requestMove_given (r c : Nat) (dir : Direction) (essential : Bool) (who : Requester) (s : State) : (requestMove r c dir essential who s).given = s.given := by
  unfold requestMove; (try dsimp only); (repeat' split) <;> simp
@[simp] theorem tellAll_given (l : List Requester) (r c : Nat) (ok : Bool) (s : State) : (tellAll l r c ok s).given = s.given := by
  unfold tellAll; simp
@[simp] theorem dropRequesters_given (p : Requester → Bool) (s : State) : (dropRequesters p s).given = s.given := by
  unfold dropRequesters; simp
@[simp] theorem sweepQueue_given (r c : Nat) (s : State) : (sweepQueue r c s).given = s.given := by
  unfold sweepQueue; (try dsimp only); simp
@[simp] theorem returnCredit_given (r c : Nat) (s : State) : (returnCredit r c s).given = s.given := by
  unfold returnCredit; simp
@[simp] theorem wear_given (r c : Nat) (s : State) : (wear r c s).given = s.given := by
  unfold wear; (try dsimp only); (repeat' split) <;> simp
@[simp] theorem grantClaim_given (c id : Nat) (s : State) : (grantClaim c id s).given = s.given := by
  unfold grantClaim; simp
@[simp] theorem requestClaim_given (c : Nat) (o : Order) (s : State) : (requestClaim c o s).given = s.given := by
  unfold requestClaim; (try dsimp only); (repeat' split) <;> simp
@[simp] theorem offerColumn_given (c : Nat) (s : State) : (offerColumn c s).given = s.given := by
  unfold offerColumn; (try dsimp only); (repeat' split) <;> simp
@[simp] theorem grantLoad_given (s : State) : (grantLoad s).given = s.given := by
  unfold grantLoad; (try dsimp only); (repeat' split) <;> simp
@[simp] theorem openParkedLoad_given (c : Nat) (s : State) : (openParkedLoad c s).given = s.given := by
  unfold openParkedLoad; (try dsimp only); (repeat' split) <;> simp
@[simp] theorem offerLoads_given (s : State) : (offerLoads s).given = s.given := by
  unfold offerLoads; simp
@[simp] theorem updDir_unclaimed_given (c : Nat) (s : State) : (updDir c DirRec.unclaimed s).given = s.given :=
  updDir_given _ _ _ (eq_true (fun _ => rfl))
@[simp] theorem plainRelease_given (c id : Nat) (s : State) : (plainRelease c id s).given = s.given := by
  unfold plainRelease; (try dsimp only); (repeat' split) <;> simp
@[simp] theorem releaseWithOpening_given (c : Nat) (o : Order) (s : State) : (releaseWithOpening c o s).given = s.given := by
  unfold releaseWithOpening; (try dsimp only); (repeat' split) <;> simp
@[simp] theorem cancelHandover_given (id : Nat) (s : State) : (cancelHandover id s).given = s.given := by
  unfold cancelHandover; (try dsimp only); (repeat' split) <;> simp
@[simp] theorem leaveWaits_given (id : Nat) (s : State) : (leaveWaits id s).given = s.given := by
  unfold leaveWaits; simp
@[simp] theorem failWaiting_given (c : Nat) (s : State) : (failWaiting c s).given = s.given := by
  unfold failWaiting; (try dsimp only); simp
@[simp] theorem countMaybe_given (t : Option DirTransition) (s : State) : (countMaybe t s).given = s.given := by
  unfold countMaybe; split <;> simp
@[simp] theorem columnOpened_given (c : Nat) (released : Bool) (s : State) : (columnOpened c released s).given = s.given := by
  unfold columnOpened; (try dsimp only); (repeat' split) <;> simp
@[simp] theorem completeMove_given (m : Movement) (s : State) : (completeMove m s).given = s.given := by
  unfold completeMove; (try dsimp only); (repeat' split) <;> simp
@[simp] theorem moveNak_given (m : Movement) (s : State) : (moveNak m s).given = s.given := by
  unfold moveNak; (try dsimp only); split <;> simp
@[simp] theorem moveNoReply_given (m : Movement) (s : State) : (moveNoReply m s).given = s.given := by
  unfold moveNoReply; (try dsimp only); simp
@[simp] theorem settleStuck_given (c : Nat) (s : State) : (settleStuck c s).given = s.given := settleTo_given ..
@[simp] theorem failHandover_given (c : Nat) (who : List Requester) (s : State) : (failHandover c who s).given = s.given := by
  unfold failHandover; (repeat' split) <;> simp
@[simp] theorem moveTimedOut_given (m : Movement) (s : State) : (moveTimedOut m s).given = s.given := by
  unfold moveTimedOut; (try dsimp only); simp
@[simp] theorem makeStuck_given (r c : Nat) (reported : Option SwitchPos) (cause : XpCause) (s : State) : (makeStuck r c reported cause s).given = s.given := by
  unfold makeStuck; (try dsimp only); (repeat' split) <;> simp
@[simp] theorem failStuckClaim_given (c : Nat) (s : State) : (failStuckClaim c s).given = s.given := by
  unfold failStuckClaim; (repeat' split) <;> simp
@[simp] theorem foundClosed_given (r c : Nat) (others : List Nat) (s : State) : (foundClosed r c others s).given = s.given := by
  unfold foundClosed; (try dsimp only); (repeat' split) <;> simp
@[simp] theorem resolveCredit_given (m : Option Movement) (r c : Nat) (pos : XpState) (become : State → State)
    (h : ∀ t, (become t).given = t.given) (s : State) : (resolveCredit m r c pos become s).given = s.given := by
  unfold resolveCredit; (repeat' split) <;> simp [h]
@[simp] theorem foundAway_given (c : Nat) (s : State) : (foundAway c s).given = s.given := by
  unfold foundAway; split <;> simp
@[simp] theorem foundOpen_given (r c : Nat) (s : State) : (foundOpen r c s).given = s.given := by
  unfold foundOpen; (try dsimp only); (repeat' split) <;> simp
@[simp] theorem resolvedOpen_given (r c : Nat) (s : State) : (resolvedOpen r c s).given = s.given := by
  unfold resolvedOpen; (try dsimp only); (repeat' split) <;> simp
@[simp] theorem compareSwitch_given (was : State) (r c : Nat) (pos : SwitchPos) (others : List Nat) (s : State) : (compareSwitch was r c pos others s).given = s.given := by
  unfold compareSwitch; (try dsimp only); (repeat' split) <;> simp
@[simp] theorem pollRow_given (r : Nat) (positions : List SwitchPos) (s : State) : (pollRow r positions s).given = s.given := by
  unfold pollRow; (try dsimp only); simp
@[simp] theorem startMove_given (q : DriveReq) (s : State) : (startMove q s).given = s.given := by
  unfold startMove; (try dsimp only); (repeat' split) <;> simp
@[simp] theorem arbiterStart_given (s : State) : (arbiterStart s).given = s.given := by
  unfold arbiterStart; (repeat' split) <;> simp
@[simp] theorem slewEnded_given (id : Nat) (s : State) : (slewEnded id s).given = s.given := by
  unfold slewEnded; simp
@[simp] theorem slewFailedFor_given (id : Nat) (s : State) : (slewFailedFor id s).given = s.given := by
  unfold slewFailedFor; simp
@[simp] theorem startSlew_given (a id target : Nat) (s : State) : (startSlew a id target s).given = s.given := by
  unfold startSlew; (try dsimp only); (repeat' split) <;> simp
@[simp] theorem tellEarlier_given (id : Nat) (k : Option Nat) (s : State) : (tellEarlier id k s).given = s.given := by
  unfold tellEarlier; (repeat' split) <;> simp
@[simp] theorem requestSlew_given (a id target : Nat) (s : State) : (requestSlew a id target s).given = s.given := by
  unfold requestSlew; (repeat' split) <;> simp
@[simp] theorem dropSlew_given (id : Nat) (s : State) : (dropSlew id s).given = s.given := by
  unfold dropSlew; simp
@[simp] theorem failSlew_given (a : Nat) (s : State) : (failSlew a s).given = s.given := by
  unfold failSlew; (try dsimp only); (repeat' split) <;> simp
@[simp] theorem completeSlew_given (a : Nat) (s : State) : (completeSlew a s).given = s.given := by
  unfold completeSlew; (try dsimp only); (repeat' split) <;> simp
@[simp] theorem pollRotator_given (a : Nat) (rep : AruReply) (s : State) : (pollRotator a rep s).given = s.given := by
  unfold pollRotator; (try dsimp only); (repeat' split) <;> simp
@[simp] theorem setRotatorRecord_given (a : Nat) (r : Option Rotator) (s : State) : (setRotatorRecord a r s).given = s.given := onMx_given _ _ rfl (updNth_length ..)

/-! ### Protection -/

@[simp] theorem offerSetpoint_given (n want : Nat) (s : State) : (offerSetpoint n want s).given = s.given := by
  unfold offerSetpoint; (try dsimp only); (repeat' split) <;> simp
@[simp] theorem setFactor_given (n value : Nat) (order : Option Nat) (rho : Option Nat) (cause : FoldCause) (s : State) : (setFactor n value order rho cause s).given = s.given := by
  unfold setFactor; (try dsimp only); (repeat' split) <;> simp
@[simp] theorem dropRecovery_given (n id : Nat) (s : State) : (dropRecovery n id s).given = s.given := by
  unfold dropRecovery; (repeat' split) <;> simp

/-! ### OrderOps -/

@[simp] theorem setMark_given (id : Nat) (m : Option Nat) (s : State) : (setMark id m s).given = s.given := by
  unfold setMark; simp
@[simp] theorem rechooseMark_given (o : Order) (s : State) : (rechooseMark o s).given = s.given := by
  unfold rechooseMark; (try dsimp only); simp
@[simp] theorem finishOrder_given (id : Nat) (out : OrderOutcome) (s : State) : (finishOrder id out s).given = s.given := by
  unfold finishOrder; (try dsimp only); (repeat' split) <;> simp
@[simp] theorem refreshMove_given (id : Nat) (s : State) : (refreshMove id s).given = s.given := by
  unfold refreshMove; simp
@[simp] theorem enterClosing_given (id : Nat) (out : OrderOutcome) (s : State) : (enterClosing id out s).given = s.given := by
  unfold enterClosing; (try dsimp only); (repeat' split) <;> simp
@[simp] theorem preempt_given (id : Nat) (s : State) : (preempt id s).given = s.given := by
  unfold preempt; (try dsimp only); (repeat' split) <;> simp
@[simp] theorem conclude_given (id : Nat) (out : OrderOutcome) (s : State) : (conclude id out s).given = s.given := by
  unfold conclude; (repeat' split) <;> simp
@[simp] theorem preemptFor_given (rescued id : Nat) (s : State) : (preemptFor rescued id s).given = s.given := by
  unfold preemptFor; split <;> simp
@[simp] theorem rescue_given (o : Order) (c : Nat × Nat) (s : State) : (rescue o c s).given = s.given := by
  unfold rescue; (try dsimp only); simp
@[simp] theorem finishClosing_given (id : Nat) (s : State) : (finishClosing id s).given = s.given := by
  unfold finishClosing; (repeat' split) <;> simp
@[simp] theorem closingStep_given (o : Order) (s : State) : (closingStep o s).given = s.given := by
  unfold closingStep; (try dsimp only); (repeat' split) <;> simp
@[simp] theorem failOrder_given (id : Nat) (cause : FailCause) (s : State) : (failOrder id cause s).given = s.given := by
  unfold failOrder; (repeat' split) <;> simp
@[simp] theorem failPreparation_given (id : Nat) (cause : FailCause) (s : State) : (failPreparation id cause s).given = s.given := by
  unfold failPreparation; simp
@[simp] theorem askClaim_given (id : Nat) (s : State) : (askClaim id s).given = s.given := by
  unfold askClaim; (try dsimp only); (repeat' split) <;> simp
@[simp] theorem enterClearing_given (id : Nat) (s : State) : (enterClearing id s).given = s.given := by
  unfold enterClearing; simp
@[simp] theorem enterWarming_given (id n : Nat) (s : State) : (enterWarming id n s).given = s.given := by
  unfold enterWarming; simp
@[simp] theorem beginPreparation_given (id : Nat) (s : State) : (beginPreparation id s).given = s.given := by
  unfold beginPreparation; (try dsimp only); (repeat' split) <;> simp
@[simp] theorem askSlew_given (o : Order) (s : State) : (askSlew o s).given = s.given := by
  unfold askSlew; (try dsimp only); (repeat' split) <;> simp
@[simp] theorem joinLoadWait_given (o : Order) (s : State) : (joinLoadWait o s).given = s.given := by
  unfold joinLoadWait; simp
@[simp] theorem beginSearch_given (o : Order) (s : State) : (beginSearch o s).given = s.given := by
  unfold beginSearch; (try dsimp only); (repeat' split) <;> simp
@[simp] theorem enterTuning_given (id : Nat) (s : State) : (enterTuning id s).given = s.given := by
  unfold enterTuning; (try dsimp only); (repeat' split) <;> simp
@[simp] theorem enterRouting_given (id : Nat) (s : State) : (enterRouting id s).given = s.given := by
  unfold enterRouting; simp
@[simp] theorem enterPoised_given (id : Nat) (s : State) : (enterPoised id s).given = s.given := by
  unfold enterPoised; simp
@[simp] theorem enterProving_given (id : Nat) (s : State) : (enterProving id s).given = s.given := by
  unfold enterProving; (try dsimp only); (repeat' split) <;> simp
@[simp] theorem enterRamping_given (id : Nat) (s : State) : (enterRamping id s).given = s.given := by
  unfold enterRamping; (repeat' split) <;> simp
@[simp] theorem firstArrival_given (o : Order) (s : State) : (firstArrival o s).given = s.given := by
  unfold firstArrival; (try dsimp only); (repeat' split) <;> simp
@[simp] theorem enterOnAir_given (id : Nat) (s : State) : (enterOnAir id s).given = s.given := by
  unfold enterOnAir; (try dsimp only); (repeat' split) <;> simp
@[simp] theorem enterRecovering_given (id : Nat) (cause : RecoveryCause) (s : State) : (enterRecovering id cause s).given = s.given := by
  unfold enterRecovering; simp
@[simp] theorem clearColumn_given (o : Order) (c : Nat) (s : State) : (clearColumn o c s).given = s.given := by
  unfold clearColumn; (repeat' split) <;> simp
@[simp] theorem clearingStep_given (o : Order) (s : State) : (clearingStep o s).given = s.given := by
  unfold clearingStep; (try dsimp only); (repeat' split) <;> simp
@[simp] theorem tuneComplete_given (o : Order) (s : State) : (tuneComplete o s).given = s.given := by
  unfold tuneComplete; (repeat' split) <;> simp
@[simp] theorem tuningStep_given (o : Order) (s : State) : (tuningStep o s).given = s.given := by
  unfold tuningStep; (try dsimp only); (repeat' split) <;> simp
@[simp] theorem routingStep_given (o : Order) (s : State) : (routingStep o s).given = s.given := by
  unfold routingStep; (try dsimp only); (repeat' split) <;> simp
@[simp] theorem poisedStep_given (o : Order) (s : State) : (poisedStep o s).given = s.given := by
  unfold poisedStep; (repeat' split) <;> simp
@[simp] theorem blockedStep_given (o : Order) (s : State) : (blockedStep o s).given = s.given := by
  unfold blockedStep; split <;> simp
@[simp] theorem advance_given (id : Nat) (s : State) : (advance id s).given = s.given := by
  unfold advance; (try dsimp only); (repeat' split) <;> simp
@[simp] theorem claimGranted_given (id : Nat) (s : State) : (claimGranted id s).given = s.given := by
  unfold claimGranted; simp
@[simp] theorem claimFailed_given (id : Nat) (s : State) : (claimFailed id s).given = s.given := by
  unfold claimFailed; simp
@[simp] theorem tuneEnded_given (id : Nat) (ok : Bool) (s : State) : (tuneEnded id ok s).given = s.given := by
  unfold tuneEnded; (repeat' split) <;> simp
@[simp] theorem moveEnded_given (who : Requester) (col : Nat) (ok : Bool) (s : State) : (moveEnded who col ok s).given = s.given := by
  have h : ∀ (n id : Nat) (t : State), (updDir n (fun d => if d.handover = some id then { d with handover := none } else d) t).given = t.given := by
    intro n id t; exact updDir_given _ _ _ (eq_true (by intro d; split <;> rfl))
  unfold moveEnded; dsimp only; (repeat' split) <;> simp [h]

/-! ### Samples -/

@[simp] theorem tripReport_given (n : Nat) (order : Option Nat) (stage : Option Stage) (kind : TripKind) (d : SampleData) (result : TripResult) (s : State) : (tripReport n order stage kind d result s).given = s.given := by
  unfold tripReport; simp
@[simp] theorem tripFault_given (kind : FaultKind) (n : Nat) (order : Option (Nat × Stage)) (trip : TripKind) (s : State) : (tripFault kind n order trip s).given = s.given := by
  unfold tripFault; simp
@[simp] theorem tripNotTaken_given (n : Nat) (order : Option Nat) (stage : Option Stage) (kind : TripKind) (d : SampleData) (s : State) : (tripNotTaken n order stage kind d s).given = s.given := by
  unfold tripNotTaken; (try dsimp only); (repeat' split) <;> simp
@[simp] theorem noteTrip_given (n : Nat) (kind : TripKind) (s : State) : (noteTrip n kind s).given = s.given := by
  unfold noteTrip; simp
@[simp] theorem tripOrder_given (o : Order) (kind : TripKind) (d : SampleData) (s : State) : (tripOrder o kind d s).given = s.given := by
  have h : ∀ (n : Nat) (t : State),
      (updTx n (fun x => if x.state = .lockedOut then x else x.to .tripped) t).given = t.given := by
    intro n t; exact updTx_given _ _ _ (eq_true (by intro x; split <;> simp))
  unfold tripOrder; (try dsimp only); (repeat' split) <;> simp [h]
@[simp] theorem tripSearch_given (n : Nat) (order : Option Nat) (kind : TripKind) (d : SampleData) (s : State) : (tripSearch n order kind d s).given = s.given := by
  unfold tripSearch; (try dsimp only); (repeat' split) <;> simp
@[simp] theorem provePass_given (o : Order) (s : State) : (provePass o s).given = s.given := by
  unfold provePass; (try dsimp only); (repeat' split) <;> simp
@[simp] theorem proveFail_given (o : Order) (s : State) : (proveFail o s).given = s.given := by
  unfold proveFail; (try dsimp only); simp
@[simp] theorem stepSetpoint_given (o : Order) (permit : Nat) (s : State) : (stepSetpoint o permit s).given = s.given := by
  unfold stepSetpoint; (try dsimp only); (repeat' split) <;> simp
@[simp] theorem cleanSample_given (o : Order) (r : TluReply) (s : State) : (cleanSample o r s).given = s.given := by
  unfold cleanSample; (try dsimp only); (repeat' split) <;> simp
@[simp] theorem judgeSample_given (n : Nat) (r : TluReply) (drop : Bool) (s : State) : (judgeSample n r drop s).given = s.given := by
  unfold judgeSample; (try dsimp only); (repeat' split) <;> simp

/-! ### Agenda -/

@[simp] theorem filamentResult_given (n : Nat) (on : Bool) (serial : Nat) (r : CmdResult) (s : State) : (filamentResult n on serial r s).given = s.given := by
  unfold filamentResult; (try dsimp only); (repeat' split) <;> simp
@[simp] theorem tuneAcked_given (n : Nat) (limit : Option Nat) (s : State) : (tuneAcked n limit s).given = s.given := by
  unfold tuneAcked; simp
@[simp] theorem setMode_given (n : Nat) (m : Mode) (r : CmdResult) (s : State) : (setMode n m r s).given = s.given := by
  unfold setMode; (repeat' split) <;> simp
@[simp] theorem modeResult_given (n : Nat) (m : Mode) (serial : Nat) (r : CmdResult) (s : State) : (modeResult n m serial r s).given = s.given := by
  unfold modeResult; (try dsimp only); (repeat' split) <;> simp
@[simp] theorem presetResult_given (n : Nat) (m : Mode) (serial : Nat) (r : CmdResult) (s : State) : (presetResult n m serial r s).given = s.given := by
  unfold presetResult; (try dsimp only); (repeat' split) <;> simp
@[simp] theorem searchResult_given (n : Nat) (m : Mode) (serial : Nat) (r : CmdResult) (s : State) : (searchResult n m serial r s).given = s.given := by
  unfold searchResult; (try dsimp only); (repeat' split) <;> simp
@[simp] theorem positionsResult_given (n : Nat) (serial : Nat) (r : CmdResult) (s : State) : (positionsResult n serial r s).given = s.given := by
  unfold positionsResult; (repeat' split) <;> simp
@[simp] theorem carrierOnResult_given (n level serial : Nat) (r : CmdResult) (s : State) : (carrierOnResult n level serial r s).given = s.given := by
  unfold carrierOnResult; (try dsimp only); (repeat' split) <;> simp
@[simp] theorem carrierOffResult_given (n serial : Nat) (s : State) : (carrierOffResult n serial s).given = s.given := by
  unfold carrierOffResult; simp
@[simp] theorem setpointResult_given (n power : Nat) (r : CmdResult) (s : State) : (setpointResult n power r s).given = s.given := by
  unfold setpointResult; (repeat' split) <;> simp
@[simp] theorem moveResult_given (serial : Nat) (r : CmdResult) (s : State) : (moveResult serial r s).given = s.given := by
  unfold moveResult; (repeat' split) <;> simp
@[simp] theorem slewResult_given (a serial : Nat) (r : CmdResult) (s : State) : (slewResult a serial r s).given = s.given := by
  unfold slewResult; (repeat' split) <;> simp
@[simp] theorem commandResult_given (c : Cmd) (r : CmdResult) (s : State) : (commandResult c r s).given = s.given := by
  unfold commandResult; (repeat' split) <;> simp
@[simp] theorem unitSilent_given (kind : UnitKind) (owner : Nat) (s : State) : (unitSilent kind owner s).given = s.given := by
  unfold unitSilent; (repeat' split) <;> simp

/-! ### The messages between blocks -/

@[simp] theorem handle_given (g : Signal) (s : State) : (handle g s).given = s.given := by
  unfold handle; (repeat' split) <;> simp

@[simp] theorem drain_given (fuel : Nat) (s : State) : (drain fuel s).given = s.given := by
  induction fuel generalizing s with
  | zero => rfl
  | succ k ih =>
    unfold drain
    split
    · rfl
    · rw [ih, handle_given]; rfl

@[simp] theorem rest_given (s : State) : (rest s).given = s.given := by
  unfold rest; rw [onAgenda_given, drain_given]

@[simp] theorem judgePermits_given (s : State) : (judgePermits s).given = s.given := rfl

/-- What a whole command's settling leaves alone (log 4). -/
@[simp] theorem settle_given (s : State) : (settle s).given = s.given := by
  unfold settle; simp

end Sys2Proof.Machine
end

