-- ==== Sys2Proof/Laws/ClockFrames.lean ====
section
/-! SUPPORT. What staging, the clock and the inputs leave alone: `State.outer` after each of their operations. -/

namespace Sys2Proof.Machine

@[simp] theorem decideRecovery_outer (n : Nat) (d : RecoveryDelay) (s : State) :
    (decideRecovery n d s).given.outer = s.given.outer := by
  have h : ∀ (a : Nat) (f : DirRec → DirRec) (t : State), (updDir a f t).given.outer = t.given.outer := by
    intro a f t; simp [updDir, State.given, State.outer, State.sizes, updNth_length]
  unfold decideRecovery; dsimp only; (repeat' split) <;> simp [h]
@[simp] theorem onBanks_outer (s : State) (f) : (s.onBanks f).given.outer = s.given.outer := rfl
@[simp] theorem onClock_outer (s : State) (f) : (s.onClock f).given.outer = s.given.outer := rfl
@[simp] theorem onStaging_outer (s : State) (f) : (s.onStaging f).given.outer = s.given.outer := rfl
@[simp] theorem updBank_outer (b : BankId) (f) (s : State) : (updBank b f s).given.outer = s.given.outer := rfl
@[simp] theorem forEach_outer {α : Type} (l : List α) (f : α → State → State) (s : State)
    (h' : (∀ x t, (f x t).given.outer = t.given.outer) = True) : (forEach l f s).given.outer = s.given.outer := by
  have h := of_eq_true h'
  unfold forEach
  induction l generalizing s with
  | nil => rfl
  | cons a l ih => simp only [List.foldl_cons]; rw [ih, h]

/-! ### StagingOps -/

@[simp] theorem recomputePrepare_outer (s : State) : (recomputePrepare s).given.outer = s.given.outer := by
  unfold recomputePrepare; simp
@[simp] theorem markFor_outer (c : Candidate) (id : Nat) (o : Order) (s : State) : (markFor c id o s).given.outer = s.given.outer := by
  unfold markFor; (repeat' split) <;> simp
@[simp] theorem createOrder_outer (c : Candidate) (s : State) : (createOrder c s).given.outer = s.given.outer := by
  unfold createOrder; (try dsimp only); (repeat' split) <;> simp
@[simp] theorem stagingReport_outer (b : BankId) (entry start : Nat) (ev : StagingEvent) (s : State) : (stagingReport b entry start ev s).given.outer = s.given.outer := by
  unfold stagingReport; simp
@[simp] theorem deferOccurrence_outer (d : Deferred) (s : State) : (deferOccurrence d s).given.outer = s.given.outer := by
  unfold deferOccurrence; (repeat' split) <;> simp
theorem admitOrder_outer (c : Candidate) (s : State) : (admitOrder c s).2.given.outer = s.given.outer := by
  unfold admitOrder; split <;> simp
@[simp] theorem stageOccurrence_outer (d : Deferred) (s : State) : (stageOccurrence d s).given.outer = s.given.outer := by
  have h := admitOrder_outer d.candidate s
  unfold stageOccurrence
  split <;> simp_all
@[simp] theorem stageUnlessLive_outer (d : Deferred) (s : State) : (stageUnlessLive d s).given.outer = s.given.outer := by
  unfold stageUnlessLive; split <;> simp
@[simp] theorem stageUnknown_outer (d : Deferred) (s : State) : (stageUnknown d s).given.outer = s.given.outer := by
  unfold stageUnknown; (repeat' split) <;> simp
@[simp] theorem stagingScan_outer (s : State) : (stagingScan s).given.outer = s.given.outer := by
  unfold stagingScan; (try dsimp only); (repeat' split) <;> simp
@[simp] theorem catchOne_outer (t : Nat) (x : BankId × Entry) (s : State) : (catchOne t x s).given.outer = s.given.outer := by
  unfold catchOne; (repeat' split) <;> simp
@[simp] theorem catchUp_outer (s : State) : (catchUp s).given.outer = s.given.outer := by
  unfold catchUp; (try dsimp only); simp
@[simp] theorem dropTest_outer (s : State) : (dropTest s).given.outer = s.given.outer := by
  unfold dropTest; (try dsimp only); simp
@[simp] theorem retryDeferred_outer (d : Deferred) (s : State) : (retryDeferred d s).given.outer = s.given.outer := by
  have h := admitOrder_outer d.candidate s
  unfold retryDeferred; dsimp only
  split <;> simp_all
@[simp] theorem retries_outer (s : State) : (retries s).given.outer = s.given.outer := by
  unfold retries; simp
@[simp] theorem setHeld_outer (v : Bool) (id : Nat) (s : State) : (setHeld v id s).given.outer = s.given.outer := by
  unfold setHeld; (repeat' split) <;> simp
@[simp] theorem endAuto_outer (s : State) : (endAuto s).given.outer = s.given.outer := by
  unfold endAuto; simp
@[simp] theorem beginAuto_outer (s : State) : (beginAuto s).given.outer = s.given.outer := by
  unfold beginAuto; (try dsimp only); simp
@[simp] theorem autoFollows_outer (was : Bool) (s : State) : (autoFollows was s).given.outer = s.given.outer := by
  unfold autoFollows; (repeat' split) <;> simp

/-! ### ClockOps -/

@[simp] theorem tickTimers_outer (s : State) : (tickTimers s).given.outer = s.given.outer := by
  have h : ∀ (l : List TxCtl) (b : Nat → Bool) (k : Nat),
      (l.mapIdx (fun i x => TxCtl.tick (b i) k x)).map (fun x => x.memory.length) = l.map (fun x => x.memory.length) := by
    intro l b k; apply List.ext_getElem? ; intro i; simp [List.getElem?_mapIdx, TxCtl.tick]; cases l[i]? <;> rfl
  unfold tickTimers; simp only [onChg_given]
  rw [onProt_given _ _ (by simp), onTx_given _ _ (h _ _ _), onMx_given _ _ rfl (by simp)]
@[simp] theorem countOccupancy_outer (s : State) : (countOccupancy s).given.outer = s.given.outer := by
  unfold countOccupancy; (try dsimp only); simp
@[simp] theorem activateBank_outer (bk : BankId) (s : State) : (activateBank bk s).given.outer = s.given.outer := by
  unfold activateBank; (try dsimp only); (repeat' split) <;> simp
@[simp] theorem activateBanks_outer (s : State) : (activateBanks s).given.outer = s.given.outer := by
  unfold activateBanks; simp
@[simp] theorem continuePower_outer (n : Nat) (o : Order) (s : State) : (continuePower n o s).given.outer = s.given.outer := by
  unfold continuePower; (try dsimp only); (repeat' split) <;> simp
@[simp] theorem continueInto_outer (o n : Order) (s : State) : (continueInto o n s).given.outer = s.given.outer := by
  unfold continueInto; (try dsimp only); (repeat' split) <;> simp
@[simp] theorem endProgramme_outer (id : Nat) (s : State) : (endProgramme id s).given.outer = s.given.outer := by
  unfold endProgramme; (repeat' split) <;> simp
@[simp] theorem endIfDue_outer (id : Nat) (s : State) : (endIfDue id s).given.outer = s.given.outer := by
  unfold endIfDue; (repeat' split) <;> simp
@[simp] theorem orderInstants_outer (s : State) : (orderInstants s).given.outer = s.given.outer := by
  unfold orderInstants; (try dsimp only); (repeat' split) <;> simp
@[simp] theorem clockReport_outer (previous : ClockState) (cause : ClockCause) (step : Option Int) (s : State) : (clockReport previous cause step s).given.outer = s.given.outer := by
  unfold clockReport; simp
@[simp] theorem applySetting_outer (value : Nat) (st : ClockState) (natural : Option Nat) (s : State) : (applySetting value st natural s).given.outer = s.given.outer := by
  unfold applySetting; (try dsimp only); simp
@[simp] theorem timeFollows_outer (wasAuto : Bool) (natural : Option Nat) (s : State) : (timeFollows wasAuto natural s).given.outer = s.given.outer := by
  unfold timeFollows; (try dsimp only); (repeat' split) <;> simp
@[simp] theorem advanceTime_outer (natural : Option Nat) (s : State) : (advanceTime natural s).given.outer = s.given.outer := by
  unfold advanceTime; simp
@[simp] theorem clockAtMark_outer (closed : Bool) (value : Option Nat) (s : State) : (clockAtMark closed value s).given.outer = s.given.outer := by
  unfold clockAtMark; (try dsimp only); (repeat' split) <;> simp
@[simp] theorem clockAtInternal_outer (value : Option Nat) (s : State) : (clockAtInternal value s).given.outer = s.given.outer := by
  unfold clockAtInternal; (repeat' split) <;> simp

@[simp] theorem secondBoundary_outer (clock : Option Nat → State → State) (s : State)
    (h : (∀ n t, (clock n t).given.outer = t.given.outer) = True) :
    (secondBoundary clock s).given.outer = s.given.outer := by
  have h' := of_eq_true h
  unfold secondBoundary; simp [h']

end Sys2Proof.Machine
end

