-- ==== Sys2Proof/Laws/Rest.lean ====
section
/-! SUPPORT. The end of every command's effects: the blocks at rest and the RF Permit lines under R120 (log 4). -/

namespace Sys2Proof.Machine

/-- R120 looks at the crosspoints and rotators, the chain and the supply, the transmitters and the orders alone. -/
theorem permitRule_eq {s t : State} (hm : t.mx = s.mx) (hc : t.pins.chainClosed = s.pins.chainClosed)
    (hp : t.pins.powered = s.pins.powered) (ht : t.tx = s.tx) (ho : t.chg = s.chg) : permitRule t = permitRule s := by
  funext n
  simp only [permitRule, rowWhere, rowXps, xpAt, rotator?, txCtl, searching, ordersOf, hm, hc, hp, ht, ho]

theorem permitsFollow_eq {s t : State} (hm : t.mx = s.mx) (hp : t.pins = s.pins) (ht : t.tx = s.tx) (ho : t.chg = s.chg)
    (h : s.permitsFollow) : t.permitsFollow := by
  unfold State.permitsFollow at *
  rw [hp, permitRule_eq hm (by rw [hp]) (by rw [hp]) ht ho, h]

@[simp] theorem permitRule_judge (s : State) : permitRule (judgePermits s) = permitRule s :=
  permitRule_eq rfl rfl rfl rfl rfl

theorem judgePermits_follow (s : State) : (judgePermits s).permitsFollow := by
  unfold State.permitsFollow; rw [permitRule_judge]; rfl

/-- Lines that already follow R120 stay as they are. -/
theorem judgePermits_of_follow {s : State} (h : s.permitsFollow) : judgePermits s = s := by
  unfold State.permitsFollow at h
  unfold judgePermits State.onPins
  rw [← h]

@[simp] theorem rest_agenda (s : State) : (rest s).agenda = [] := rfl

theorem offerReport_agenda (b : ReportBody) (s : State) : (offerReport b s).agenda = s.agenda := rfl

@[simp] theorem flushNote_agenda (k : OrderNote) (s : State) : (flushNote k s).agenda = s.agenda := by
  unfold flushNote; (repeat' split) <;> rfl

theorem forEach_agenda {α : Type} (l : List α) (f : α → State → State) (s : State)
    (h : ∀ x t, (f x t).agenda = t.agenda) : (forEach l f s).agenda = s.agenda := by
  unfold forEach
  induction l generalizing s with
  | nil => rfl
  | cons a l ih => simp only [List.foldl_cons]; rw [ih, h]

@[simp] theorem flushOrders_agenda (s : State) : (flushOrders s).agenda = s.agenda := by
  unfold flushOrders
  exact forEach_agenda _ _ _ flushNote_agenda

@[simp] theorem flushOrders_notes (s : State) : (flushOrders s).notes = [] := rfl

/-- After every command the blocks are at rest and the lines follow R120. -/
theorem settle_settled (s : State) : (settle s).settled := by
  refine ⟨⟨?_, rfl⟩, judgePermits_follow _⟩
  show (judgePermits (flushOrders (rest s))).agenda = []
  have : (judgePermits (flushOrders (rest s))).agenda = (flushOrders (rest s)).agenda := rfl
  rw [this, flushOrders_agenda, rest_agenda]

theorem drain_of_quiet {s : State} (fuel : Nat) (h : s.agenda = []) : drain fuel s = s := by
  cases fuel with
  | zero => rfl
  | succ k => simp [drain, h]

theorem rest_of_quiet {s : State} (h : s.agenda = []) : rest s = s := by
  unfold rest; rw [drain_of_quiet _ h]; cases s; simp_all [State.onAgenda]

theorem flushOrders_of_quiet {s : State} (h : s.notes = []) : flushOrders s = s := by
  unfold flushOrders; rw [h]; cases s; simp_all [forEach, State.onNotes]

/-- A command that sends no message and changes no order settles as it stands, but for the RF Permit lines. -/
theorem settle_of_rest {s : State} (h : s.atRest) : settle s = judgePermits s := by
  unfold settle; rw [rest_of_quiet h.1, flushOrders_of_quiet h.2]

/-- A settled state has nothing to settle. -/
theorem settle_of_settled {s : State} (h : s.settled) : settle s = s := by
  rw [settle_of_rest h.1, judgePermits_of_follow h.2]

/-- An update that R120 does not look at leaves a settled state settled. -/
theorem settled_eq {s t : State} (ha : t.agenda = s.agenda) (hn : t.notes = s.notes) (hm : t.mx = s.mx)
    (hp : t.pins = s.pins) (ht : t.tx = s.tx) (ho : t.chg = s.chg) (h : s.settled) : t.settled :=
  ⟨⟨ha.trans h.1.1, hn.trans h.1.2⟩, permitsFollow_eq hm hp ht ho h.2⟩

/-- A reply leaves the blocks settled. -/
theorem queueReply_settled {s : State} (kind tag : Nat) (st : Status) (d : Detail) (data : ReplyData) (h : s.settled) :
    (queueReply kind tag st d data s).settled := settled_eq rfl rfl rfl rfl rfl rfl h

/-- The one answer of an event (log 6). -/
theorem event_next {f : State → State} {s t : State} (h : event f s = .next t) :
    t = s ∧ s.pins.powered = false ∨ t = settle (f s) ∧ s.pins.powered = true := by
  unfold event at h
  split at h
  · exact .inr ⟨(Host.Outcome.next.inj h).symm, ‹_›⟩
  · exact .inl ⟨(Host.Outcome.next.inj h).symm, by simp_all⟩

/-- The one answer of a request: unpowered, refused, or accepted (R182). -/
theorem request_next {kind tag : Nat} {f : State → Answer} {s t : State} (h : request kind tag f s = .next t) :
    t = s ∧ s.pins.powered = false ∨
    (∃ st d, f s = .error (st, d) ∧ t = queueReply kind tag st d .none s) ∨
    (∃ u data, f s = .ok (u, data) ∧ t = queueReply kind tag .ok .none (data (settle u)) (settle u)) := by
  unfold request at h
  split at h
  · split at h
    · exact .inr (.inl ⟨_, _, ‹_›, (Host.Outcome.next.inj h).symm⟩)
    · exact .inr (.inr ⟨_, _, ‹_›, (Host.Outcome.next.inj h).symm⟩)
  · exact .inl ⟨(Host.Outcome.next.inj h).symm, by simp_all⟩

/-- The one answer of a request that changes no state: a reply, or nothing without supply. -/
theorem readRequest_next {kind tag : Nat} {f : State → Except (Status × Detail) ReplyData} {s t : State}
    (h : readRequest kind tag f s = .next t) : t = s ∨ ∃ st d data, t = queueReply kind tag st d data s := by
  unfold readRequest at h
  split at h
  · split at h
    · exact .inr ⟨_, _, _, (Host.Outcome.next.inj h).symm⟩
    · exact .inr ⟨_, _, _, (Host.Outcome.next.inj h).symm⟩
  · exact .inl (Host.Outcome.next.inj h).symm

/-- The first check that fails refuses; where none fails the request goes on. -/
theorem checks_pass {l : List (Bool × Status × Detail)} {go : Answer} (h : ∀ x ∈ l, x.1 = false) :
    checks l go = go := by
  induction l with
  | nil => rfl
  | cons x l ih =>
    obtain ⟨b, st, d⟩ := x
    have hb : b = false := h (b, st, d) (List.mem_cons_self ..)
    unfold checks
    rw [hb]
    exact ih (fun y hy => h y (List.mem_cons_of_mem _ hy))

end Sys2Proof.Machine
end

