-- ==== Sys2Proof/Tests/Slice0.lean ====
section
/-! SUPPORT. Tests of the model: terms that cannot be spelled, the manual's worked examples, and for each statement of
Certificates/Slice0/Obligations.lean with premises a state and operands that meet them. -/

namespace Sys2Proof.Tests

open Sys2Proof.Machine

-- one test after another, so that their kernel evaluations do not all wait at once
set_option Elab.async false

/-! ### A small hall -/

/-- Transmitter 1: TLU 1, MDU 2. -/
def tx1 : TxRec where
  tlu := 1
  mdu := 2
  low := 5900
  high := 17900
  rated := 3000
  modes := { am := true, rcam := false, dig := true }
  standby := none
  warmUp := 180
  presetEst := 12
  searchEst := 60
  ramp := 10
  searchPower := 100
  inhibited := false

/-- Transmitter 2: TLU 4, MDU 5, with transmitter 1 as its standby. -/
def tx2 : TxRec := { tx1 with tlu := 4, mdu := 5, standby := some 1 }

/-- Antenna 1: SLEWABLE, ARU 3, stops 0 to 340, rate 10. -/
def ant1 : AntRec where
  kind := .slewable
  segments := [{ low := 5900, high := 17900, rating := 2500 }]
  warn := 40
  trip := 110
  rotator := some { aru := 3, continuous := false, stopLow := some 0, stopHigh := some 340, rate := 10 }

/-- Antenna 2: FIXED. -/
def ant2 : AntRec := { ant1 with kind := .fixed, rotator := none }

/-- A TLU's reply with carrier off. -/
def quiet : TluReply where
  carrierOn := false
  pf := 0
  pr := 0
  tuned := some 9410
  tuneStatus := .idle
  filament := .ready
  fault := 0
  control := .remote

/-- A TLU's reply with carrier on. -/
def loud (pf pr : Nat) : TluReply := { quiet with carrierOn := true, pf := pf, pr := pr }

/-- A transmitter in STANDBY, tuned to 9,410 kHz in AM. -/
def warmTx : TxCtl :=
  { TxCtl.initial with state := .standby, tuned := some 9410, mode := some .am
                       telemetry := some { reply := quiet, second := some 5999 } }

/-- An ALIVE unit. -/
def alive (kind : UnitKind) (owner : Nat) : UnitEntry := { kind := some kind, state := .alive, owner := owner }

/-- The hall at 01:40:00 of hall day 0: two transmitters, antennas 1 and 2, every crosspoint OPEN. -/
def hall0 : State :=
  { State.blank with
    hall := { tx := some tx1 :: some tx2 :: List.replicate 14 none
              ant := some ant1 :: some ant2 :: List.replicate 30 none, loads := [500, 500], par := {} }
    clock := { time := some 6000, state := .valid }
    tx := warmTx :: warmTx :: List.replicate 14 TxCtl.initial
    mx := { State.blank.mx with rotators := some { azimuth := some 120 } :: List.replicate 31 none }
    line := { units := [alive .tlu 1, alive .mdu 1, alive .aru 1, alive .tlu 2, alive .mdu 2] ++ List.replicate 58 {} } }

/-- Order 7: transmitter 1, 9,410 kHz, antenna 2 with antenna 1 as its alternate, 01:50:00 to 02:40:00. -/
def order7 : Order where
  id := 7
  origin := .manual
  snap := { service := 1, tx := 1, freq := 9410, primary := 2, alternate := some 1, azimuth := some 120, power := 2500
            mode := .am, priority := .normal }
  start := 6600
  ends := 9600
  prepare := 6000

/-- The state with these live orders. -/
def withOrders (l : List Order) (s : State) : State := judgePermits (s.onChg (fun _ => { orders := l, lastId := 7 }))

/-- Transmitter 1 stands CLOSED on antenna 2, and order 7 holds the claim. -/
def routed : State :=
  hall0 |> updXp 1 2 (fun x => { x with state := .closed })
  |> updDir 2 (fun d => { d with state := .assigned, owner := some 1, claiming := some 7 })

/-- Order 7 on its antenna, in a stage. -/
def at7 (st : Stage) : Order := { order7 with stage := st, antenna := some 2, tuneKind := some .none }

/-- Order 7 is ON-AIR at the full base. -/
def onAir : State :=
  routed |> updTx 1 (fun x => { x with state := .on, telemetry := some { reply := loud 2500 0, second := some 5999 } })
  |> updProt 1 (fun p => { p with base := some 2500, permit := some 2500, sent := 2500, acked := 2500 })
  |> withOrders [{ at7 .onAir with firstOnAir := some 6000 }]

/-- The state a command leads to. -/
def after (c : Instr) (s : State) : State :=
  match exec c s with
  | .next t => t
  | .fault _ => s
  | .refused _ => s

/-- The premises most statements share, as a test. -/
def fit (s : State) : Bool :=
  decide (s.pins.powered = true ∧ s.agenda = [] ∧ s.notes = [] ∧ s.pins.permits = (upTo 16).map (permitRule s)) &&
  decide (s.sizes = Sizes.whole ∧ s.hall.tx.length = 16 ∧ s.hall.ant.length = 32 ∧ s.hall.loads.length = 2 ∧
    s.line.units.length = 63 ∧ s.store = {})

/-- Those premises. -/
def Meets (s : State) : Prop := s.running ∧ s.whole ∧ s.store.writing = none

theorem meets {s : State} (h : fit s = true) : Meets s := by
  unfold fit at h
  rw [Bool.and_eq_true, decide_eq_true_eq, decide_eq_true_eq] at h
  obtain ⟨⟨hp, ha, hn, hr⟩, hs, h1, h2, h3, h4, h5⟩ := h
  refine ⟨⟨hp, ⟨ha, hn⟩, hr⟩, ⟨hs, h1, h2, h3, h4, ?_, ?_, ?_⟩, ?_⟩
  · rw [h5]; trivial
  · rw [h5]; trivial
  · rw [h5]; intro w hw; cases hw
  · rw [h5]

/-- An update of the port alone leaves a state running. -/
theorem settledPowered {s t : State} (h : t = { s with port := t.port }) (hs : Meets s) : t.running := by
  rw [h]
  exact ⟨hs.1.1, settled_eq rfl rfl rfl rfl rfl rfl hs.1.2⟩

theorem meets_hall0 : Meets hall0 := meets (by decide +kernel)
theorem meets_onAir : Meets onAir := meets (by decide +kernel)

/-! ### Commands that cannot be spelled -/

/-- An ENTRY-PUT that can be spelled. -/
def put1 : EntryFields where
  bank := 1
  number := 1
  service := 1
  days := 127
  start := 0
  duration := 60
  tx := 1
  freq := 9410
  primary := 2
  power := 2500
  mode := 1
  priority := 2

/-- An ORDER-MANUAL that can be spelled. -/
def manual1 : ManualFields where
  service := 1
  tx := 1
  freq := 9410
  primary := 2
  power := 2500
  mode := 1
  priority := 2
  ends := 9600

/-- Commands at the ends of their ranges can be spelled. -/
theorem test_wellFormed_ends :
    ([.txDefine 255 255 255 { tlu := some 255, warmUp := some 65535 }, .entryPut 255 put1, .orderManual 255 manual1,
      .antFlags 0 0 0 1099511627775, .moveTimeout 16 34, .slewStart 32, .pollReplyTlu 63 quiet, .rampEnd 65535,
      .warmUpTimeout 1, .store 0] : List Instr).all Instr.wellFormed = true := by
  decide +kernel

/-- A field of TX-DEFINE that does not fit its bytes is refused (R189). -/
theorem test_illFormed_txDefine :
    ([
      .txDefine 256 1 1 {},
      .txDefine 1 256 1 {},
      .txDefine 1 1 256 {},
      .txDefine 1 1 1 { tlu := some 256 },
      .txDefine 1 1 1 { mdu := some 256 },
      .txDefine 1 1 1 { low := some 65536 },
      .txDefine 1 1 1 { high := some 65536 },
      .txDefine 1 1 1 { rated := some 65536 },
      .txDefine 1 1 1 { modes := some 256 },
      .txDefine 1 1 1 { standby := some 256 },
      .txDefine 1 1 1 { warmUp := some 65536 },
      .txDefine 1 1 1 { presetEst := some 256 },
      .txDefine 1 1 1 { searchEst := some 65536 },
      .txDefine 1 1 1 { ramp := some 256 },
      .txDefine 1 1 1 { searchPower := some 65536 }] : List Instr).all (fun i => !i.wellFormed) = true := by
  decide +kernel

/-- The same for ANT-DEFINE. -/
theorem test_illFormed_antDefine :
    ([
      .antDefine 256 1 1 {},
      .antDefine 1 256 1 {},
      .antDefine 1 1 256 {},
      .antDefine 1 1 1 { kind := some 256 },
      .antDefine 1 1 1 { segments := List.replicate 256 { low := 1, high := 1, rating := 1 } },
      .antDefine 1 1 1 { segments := [{ low := 65536, high := 1, rating := 1 }] },
      .antDefine 1 1 1 { segments := [{ low := 1, high := 65536, rating := 1 }] },
      .antDefine 1 1 1 { segments := [{ low := 1, high := 1, rating := 65536 }] },
      .antDefine 1 1 1 { warn := some 65536 },
      .antDefine 1 1 1 { trip := some 65536 },
      .antDefine 1 1 1 { rating := some 65536 },
      .antDefine 1 1 1 { rotator := some { aru := 256, rate := 1 } },
      .antDefine 1 1 1 { rotator := some { aru := 1, continuous := some 256, rate := 1 } },
      .antDefine 1 1 1 { rotator := some { aru := 1, stopLow := some 65536, rate := 1 } },
      .antDefine 1 1 1 { rotator := some { aru := 1, stopHigh := some 65536, rate := 1 } },
      .antDefine 1 1 1 { rotator := some { aru := 1, rate := 256 } }] : List Instr).all (fun i => !i.wellFormed) = true := by
  decide +kernel

/-- The same for HALL-SET. -/
theorem test_illFormed_hallSet :
    ([
      .hallSet 256 {},
      .hallSet 1 { lookAhead := some 256 },
      .hallSet 1 { leadMargin := some 256 },
      .hallSet 1 { moveEst := some 256 },
      .hallSet 1 { credits := some 256 },
      .hallSet 1 { proveTime := some 256 },
      .hallSet 1 { offConfirm := some 256 },
      .hallSet 1 { recovery := some 256 },
      .hallSet 1 { tripWindow := some 65536 },
      .hallSet 1 { tripLimit := some 256 },
      .hallSet 1 { coolHold := some 256 },
      .hallSet 1 { blindHold := some 256 },
      .hallSet 1 { cutoff := some 256 },
      .hallSet 1 { opLife := some 4294967296 }] : List Instr).all (fun i => !i.wellFormed) = true := by
  decide +kernel

/-- The same for ENTRY-PUT. -/
theorem test_illFormed_entryPut :
    ([
      .entryPut 256 put1,
      .entryPut 1 { put1 with bank := 256 },
      .entryPut 1 { put1 with number := 65536 },
      .entryPut 1 { put1 with service := 65536 },
      .entryPut 1 { put1 with days := 256 },
      .entryPut 1 { put1 with start := 65536 },
      .entryPut 1 { put1 with duration := 65536 },
      .entryPut 1 { put1 with tx := 256 },
      .entryPut 1 { put1 with freq := 65536 },
      .entryPut 1 { put1 with primary := 256 },
      .entryPut 1 { put1 with alternate := some 256 },
      .entryPut 1 { put1 with azimuth := some 65536 },
      .entryPut 1 { put1 with power := 65536 },
      .entryPut 1 { put1 with mode := 256 },
      .entryPut 1 { put1 with priority := 256 },
      .entryPut 1 { put1 with validFrom := some { year := 65536, month := 1, day := 1 } },
      .entryPut 1 { put1 with validTo := some { year := 2025, month := 256, day := 1 } },
      .entryPut 1 { put1 with suspended := 256 }] : List Instr).all (fun i => !i.wellFormed) = true := by
  decide +kernel

/-- The same for ORDER-MANUAL. -/
theorem test_illFormed_orderManual :
    ([
      .orderManual 256 manual1,
      .orderManual 1 { manual1 with service := 65536 },
      .orderManual 1 { manual1 with tx := 256 },
      .orderManual 1 { manual1 with freq := 65536 },
      .orderManual 1 { manual1 with primary := 256 },
      .orderManual 1 { manual1 with alternate := some 256 },
      .orderManual 1 { manual1 with azimuth := some 65536 },
      .orderManual 1 { manual1 with power := 65536 },
      .orderManual 1 { manual1 with mode := 256 },
      .orderManual 1 { manual1 with priority := 256 },
      .orderManual 1 { manual1 with start := some 4294967296 },
      .orderManual 1 { manual1 with ends := 4294967296 }] : List Instr).all (fun i => !i.wellFormed) = true := by
  decide +kernel

/-- The same for the other requests on the stored tables. -/
theorem test_illFormed_tables :
    ([
      .txRead 256 1,
      .txRead 1 256,
      .antRead 256 1,
      .antRead 1 256,
      .hallRead 256,
      .lineSet 256 none none,
      .lineSet 1 (some 256) none,
      .lineSet 1 none (some 256),
      .lineRead 256,
      .bankHeader 256 1 none none none,
      .bankHeader 1 256 none none none,
      .bankHeader 1 1 (some 65536) none none,
      .bankHeader 1 1 none (some { year := 65536, month := 1, day := 1 }) none,
      .bankHeader 1 1 none none (some { year := 2025, month := 1, day := 256 }),
      .entryDelete 256 1 1,
      .entryDelete 1 256 1,
      .entryDelete 1 1 65536,
      .entryRead 256 1 1 1,
      .entryRead 1 256 1 1,
      .entryRead 1 1 65536 1,
      .entryRead 1 1 1 256,
      .entrySuspend 256 1 1 1 1,
      .entrySuspend 1 256 1 1 1,
      .entrySuspend 1 1 65536 1 1,
      .entrySuspend 1 1 1 4294967296 1,
      .entrySuspend 1 1 1 1 256,
      .bankClear 256 1,
      .bankClear 1 256,
      .bankArm 256 1 1,
      .bankArm 1 256 1,
      .bankArm 1 1 4294967296,
      .bankDisarm 256 1,
      .bankDisarm 1 256,
      .bankStatus 256] : List Instr).all (fun i => !i.wellFormed) = true := by
  decide +kernel

/-- The same for the requests on the clock, the orders, the matrix and the transmitters. -/
theorem test_illFormed_running :
    ([
      .timeSet 256 { year := 2025, month := 7, day := 27 } 0 0 0,
      .timeSet 1 { year := 65536, month := 1, day := 1 } 0 0 0,
      .timeSet 1 { year := 2025, month := 7, day := 27 } 256 0 0,
      .timeSet 1 { year := 2025, month := 7, day := 27 } 0 256 0,
      .timeSet 1 { year := 2025, month := 7, day := 27 } 0 0 256,
      .timeRead 256,
      .automation 256 1,
      .automation 1 256,
      .orderCancel 256 1,
      .orderCancel 1 65536,
      .orderAdvance 256 1,
      .orderAdvance 1 65536,
      .orderList 256 1,
      .orderList 1 256,
      .orderRead 256 1,
      .orderRead 1 65536,
      .antFlags 256 1 1 1,
      .antFlags 1 256 1 1,
      .antFlags 1 1 256 1,
      .antFlags 1 1 1 1099511627776,
      .xpClear 256 1 1 1,
      .xpClear 1 256 1 1,
      .xpClear 1 1 256 1,
      .xpClear 1 1 1 256,
      .xpService 256 1 1,
      .xpService 1 256 1,
      .xpService 1 1 256,
      .matrixRead 256 1 1,
      .matrixRead 1 256 1,
      .matrixRead 1 1 256,
      .txInhibit 256 1 1,
      .txInhibit 1 256 1,
      .txInhibit 1 1 65536,
      .txLockClear 256 1,
      .txLockClear 1 256,
      .presetPurge 256 1 none true,
      .presetPurge 1 256 none true,
      .presetPurge 1 1 (some 65536) false,
      .presetRead 256 1 none none,
      .presetRead 1 256 none none,
      .presetRead 1 1 (some 256) none,
      .presetRead 1 1 none (some 65536)] : List Instr).all (fun i => !i.wellFormed) = true := by
  decide +kernel

/-- The same for the requests on reports, counters, the Fault Log and the Table Store. -/
theorem test_illFormed_reporting :
    ([
      .reportSelect 256 1 1,
      .reportSelect 1 256 1,
      .reportSelect 1 1 65536,
      .counterSet 256 1 1 1,
      .counterSet 1 256 1 1,
      .counterSet 1 1 256 1,
      .counterSet 1 1 1 65536,
      .counterRead 256 1 1,
      .counterRead 1 256 1,
      .counterRead 1 1 256,
      .faultRead 256 1,
      .faultRead 1 256,
      .faultClear 256,
      .store 256,
      .restartOrderly 256,
      .restartImmediate 256,
      .identify 256] : List Instr).all (fun i => !i.wellFormed) = true := by
  decide +kernel

/-- An event names equipment, an order or an address that exists. -/
theorem test_illFormed_events :
    ([
      .preparationBegin 0,
      .preparationBegin 65536,
      .moveTimeout 0 1,
      .moveTimeout 17 1,
      .moveTimeout 1 0,
      .moveTimeout 1 35,
      .slewStart 0,
      .slewStart 33,
      .slewTimeout 0,
      .slewTimeout 33,
      .pollReplyTlu 0 quiet,
      .pollReplyTlu 64 quiet,
      .pollReplyMdu 0 [],
      .pollReplyMdu 64 [],
      .pollReplyAru 0 { azimuth := 0, moving := false, fault := false },
      .pollReplyAru 64 { azimuth := 0, moving := false, fault := false },
      .commandReply 0 .move (.ack []),
      .commandReply 64 .move (.ack []),
      .warmUpTimeout 0,
      .warmUpTimeout 17,
      .idleClockCoolDown 0,
      .idleClockCoolDown 17,
      .searchTuneTimeout 0,
      .searchTuneTimeout 17,
      .presetTuneTimeout 0,
      .presetTuneTimeout 17,
      .blindHoldExpiry 0,
      .blindHoldExpiry 17,
      .recoveryDelayExpiry 0,
      .recoveryDelayExpiry 17,
      .rampEnd 0,
      .rampEnd 65536,
      .carrierOffConfirmTimeout 0,
      .carrierOffConfirmTimeout 65536] : List Instr).all (fun i => !i.wellFormed) = true := by
  decide +kernel

/-! ### The manual's worked examples -/

/-- R132 and the example of 06: 9,410 and 9,725 kHz share index 7, and 11,650 kHz has index 62. -/
theorem test_presetIndex : [9410, 9725, 11650].map presetIndex = [7, 7, 62] := by decide +kernel

/-- R53: hall time 806,932,800 is hall day 9,339, minute 720, weekday 6, 2025-07-27. -/
theorem test_hallTime : hallDay 806932800 = 9339 ∧ minuteOfDay 806932800 = 720 ∧ weekday 9339 = 6 ∧
    dateOfDay 9339 = { year := 2025, month := 7, day := 27 } ∧
    Date.toDay { year := 2025, month := 7, day := 27 } = 9339 := by
  decide +kernel

/-- The programme of the lead-time example of 03, on transmitter 1 and antenna 1. -/
def lead : Snapshot := { order7.snap with freq := 11650, primary := 1, alternate := none, azimuth := some 155 }

/-- R64: 117 seconds with the row parked elsewhere, 80 with a preset, 297 from COLD. -/
theorem test_leadTime :
    leadTime (updXp 1 5 (fun x => { x with state := .closed }) hall0) lead = 117 ∧
    leadTime (hall0 |> updXp 1 5 (fun x => { x with state := .closed })
      |> setPreset 1 62 (some { freq := 11650, positions := [8200, 19655, 61030], verified := false })) lead = 80 ∧
    leadTime (hall0 |> updXp 1 5 (fun x => { x with state := .closed })
      |> updTx 1 (fun x => { x with state := .cold })) lead = 297 := by
  decide +kernel

/-- The permit example of 07 (R153 to R157). -/
theorem test_permitArithmetic :
    reflection 2500 145 = some 58 ∧ foldTarget 58 40 110 = 872 ∧ permitOf 2500 872 = 2180 ∧ permitOf 1600 872 = 1395 ∧
    foldStep 1000 872 = 922 ∧ foldStep 1000 922 = 972 ∧ foldStep 1000 972 = 1000 ∧ foldTarget 41 40 110 = 993 ∧
    deadband 2500 = 25 ∧ deadband 1600 = 16 ∧ proveLevel 2500 = 250 ∧ proveLevel 1600 = 160 ∧
    rampTo 250 2180 4 10 = 1022 ∧ rampTo 250 2180 5 10 = 1215 ∧ rampTo 250 2500 10 10 = 2500 := by
  decide +kernel

/-- R156: the base of the example in AM and in DIG. -/
theorem test_base : baseOf hall0 { at7 .onAir with snap := { order7.snap with power := 3000 } } = 2500 ∧
    baseOf hall0 { at7 .onAir with snap := { order7.snap with power := 3000, mode := .dig } } = 1600 := by
  decide +kernel

/-- The hall while a poll of an address awaits its reply. -/
def polling (addr : Nat) (s : State) : State :=
  s.onLine (fun l => { l with scanAt := addr, txn := some { addr := addr, fn := .poll, retry := false, live := true, rate := 1, window := 20 } })

/-- The first sample of the permit example: F 872, and SETPOINT 2,180 goes out as URGENT (R155 to R158). -/
theorem test_pollReplyTlu_folds :
    let t := after (.pollReplyTlu 1 (loud 2500 145)) (polling 1 onAir)
    (protRec t 1).factor = 872 ∧ (protRec t 1).sent = 2180 ∧
    (cmdSent? t).map (fun c => (c.fn, c.urgent)) = some (.setpoint 2180, true) ∧ t.pins.permits.head? = some true := by
  decide +kernel

/-- The trip of the lockout example of 07: Pr 340 is a trip, which withdraws the permit and sends CARRIER OFF. -/
theorem test_pollReplyTlu_trips :
    let t := after (.pollReplyTlu 1 (loud 2500 340)) (polling 1 onAir)
    (protRec t 1).factor = 500 ∧ (order? t 7).map (·.stage) = some .recovering ∧ (txCtl t 1).state = .tripped ∧
    (cmdSent? t).map (·.fn) = some .carrierOff ∧ t.pins.permits.head? = some false ∧
    (protRec t 1).recovery.map (·.timer) = some 2 := by
  decide +kernel

/-- The continuation of 07: a successor at 1,500 takes over the carrier, and 1,308 is requested (R83, R157). -/
theorem test_timeMark_continues :
    let s := (onAir.onClock (fun c => { c with time := some 9599 }))
      |> updProt 1 (fun p => { p with factor := 872, permit := some 2180, sent := 2180, acked := 2180 })
      |> State.onChg (fun c => { c with orders := c.orders ++
          [{ order7 with id := 8, snap := { order7.snap with power := 1500 }, start := 9600, ends := 12000 }] })
    let t := after (.timeMark false false) s
    order? t 7 = none ∧ (order? t 8).map (fun o => (o.stage, o.continued)) = some (.onAir, true) ∧
    (dirRec t 2).claiming = some 8 ∧ (protRec t 1).permit = some 1308 ∧ (protRec t 1).sent = 1308 ∧
    t.pins.permits.head? = some true := by
  decide +kernel

/-- The recovery delay of the lockout example runs out for the third time: the antenna is SUSPECT, and the order is rescued
onto its alternate (R164, R165, R88). -/
theorem test_recoveryDelayExpiry_locksOut :
    let s := routed |> updProt 1 (fun p => { p with factor := 500, recovery := some { order := 7, kind := .vswr, stage := .onAir, timer := 0 } })
      |> withOrders [{ at7 .recovering with
          ends := 9600, tripTimes := [5990, 5994, 5998], recovery := some .trip, lastTrip := some (.vswr, .onAir)
          firstOnAir := some 5900 }]
    let t := after (.recoveryDelayExpiry 1) s
    (dirRec t 2).suspect = true ∧ (protRec t 1).factor = 1000 ∧
    (order? t 7).map (fun o => (o.rescues, o.antenna, o.tripTimes)) = some (1, some 1, []) ∧
    (order? t 7).map (·.stage) = some .clearing := by
  decide +kernel

/-- An antenna as the example of 01 sends it, with an ARU and stops. -/
def curtain (aru high warn trip : Nat) : AntFields where
  kind := some 2
  segments := [{ low := 17480, high := 21850, rating := 2500 }, { low := 9400, high := 12100, rating := 3000 },
    { low := 5900, high := 7600, rating := 3000 }]
  warn := some warn
  trip := some trip
  rotator := some { aru := aru, continuous := some 2, stopLow := some 90, stopHigh := some high, rate := 10 }

/-- The requests of the example of 01: a taken ARU is 6.1, thresholds 80 and 85 are field 5, and the segments are stored in
ascending order (R10, R12). -/
theorem test_antDefine :
    (after (.antDefine 9 12 1 (curtain 3 270 40 110)) hall0).port.out =
      [.reply 0x83 9 .inconsistent (.field 6 1 0) .none] ∧
    (after (.antDefine 9 12 1 (curtain 42 240 80 85)) hall0).port.out =
      [.reply 0x83 9 .inconsistent (.field 5 0 0) .none] ∧
    (let t := after (.antDefine 9 12 1 (curtain 42 240 40 110)) hall0
     t.port.out = [.reply 0x83 9 .ok .none .none] ∧ (antRec? t 12).map (fun r => r.segments.map (·.low)) =
       some [5900, 9400, 17480] ∧ segmentRating t 12 9410 = 3000 ∧ segmentRating t 12 15400 = 0 ∧
     unitAt t 42 = alive .aru 12 ∧ rotator? t 12 = some {}) := by
  decide +kernel

/-- The conflict across midnight of 02 (R28): entry 101 on Mondays to Fridays, entry 140 on Saturdays. -/
theorem test_entryPut_conflict :
    let late := { entryRecord { put1 with number := 101, days := 31, start := 1410, duration := 90 } with primary := 9 }
    let early := { entryRecord { put1 with number := 140, days := 32, start := 30, duration := 60 } with primary := 14 }
    let h : Header := { season := 2513, validFrom := 9220, validTo := 9429 }
    entriesConflict (some h) late early = true ∧
    entriesConflict (some h) late { early with start := 60 } = false := by
  decide +kernel

/-- The full report queue of 09 (R184): dropped reports are counted, and a deselected kind is not. -/
theorem test_offerReport :
    let body : ReportBody := .store .badImage
    let p : Port := { out := List.replicate 64 (.report .store 0 0 body), sequence := 38 }
    ((p.offer body).offer body).pendingLoss = 2 ∧ ({ p with selected := 0 }).offer body = { p with selected := 0 } ∧
    (({ p with out := p.out.drop 1, pendingLoss := 2 }).offer body).out.getLast? = some (.report .store 38 2 body) ∧
    (({ p with out := p.out.drop 1, pendingLoss := 2 }).offer body).sequence = 39 := by
  decide +kernel

/-- The full queue of 08 (R175, R176): an URGENT command displaces the newest NORMAL one, and is sent first. -/
theorem test_offerCmd_displaces :
    let q := (List.range 32).map (fun k => ({ addr := 2, fn := .move k .close, urgent := false, subject := 1, serial := k } : Cmd))
    let s := offerCmd 1 .carrierOff true 1 (hall0.onLine (fun l => { l with queue := q, serial := 32 }))
    s.line.queue.length = 32 ∧ s.line.heldBack.map (·.fn) = [.move 31 .close] ∧
    (pickCmd s.line.queue).map (·.fn) = some .carrierOff := by
  decide +kernel

/-- The TLU that falls silent of 08 (R172, R176): the third miss, on the retry of TUNE-PRESET, fails the command, and the
transmitter is OFFLINE. -/
theorem test_transactionMiss_silent :
    let c : Cmd := { addr := 1, fn := .tunePreset 9410 .am [1, 2], urgent := false, subject := 1, serial := 5 }
    let t := after (.transactionMiss .noAnswer)
      (hall0 |> updUnit 1 (fun u => { u with misses := 2 })
        |> State.onLine (fun l => { l with txn := some { addr := 1, fn := .command c, retry := true, live := true, rate := 1, window := 20 } }))
    (unitAt t 1).state = .silent ∧ (unitAt t 1).misses = 3 ∧ (txCtl t 1).state = .offline ∧
    (t.log.ring.map (·.kind)) = [.unitSilent] := by
  decide +kernel

/-- MDU 23's reply in the adoption example of 05 (R117): both crosspoints of column 2 become STUCK, with two records, and a
switch half turned stays UNKNOWN. -/
theorem test_pollReplyMdu_doubleClosed :
    let s := hall0 |> updXp 1 2 (fun x => { x with state := .closed }) |> settleColumn 2
      |> updXp 2 2 (fun x => { x with state := .unknown }) |> updXp 2 12 (fun x => { x with state := .unknown })
    let t := after (.pollReplyMdu 5 ((upTo 34).map (fun c => if c = 2 then .closed else if c = 12 then .between else .opened)))
      (polling 5 (judgePermits s))
    (xpAt t 1 2).state = .stuck ∧ (xpAt t 2 2).state = .stuck ∧ (xpAt t 2 12).state = .unknown ∧
    (dirRec t 2).state = .parked ∧ (dirRec t 2).owner = some 1 ∧ (dirRec t 2).faultDouble = true ∧
    t.log.ring.map (·.kind) = [.xpStuck, .xpStuck] := by
  decide +kernel

/-- Two switches of row 2 found closed, beside a closed one in the column of the second (R117, R125): all three become STUCK, and
column 2, whose only crosspoint was found, is PARKED on row 2. -/
theorem test_pollReplyMdu_twoFoundClosed :
    let s := hall0 |> updXp 1 9 (fun x => { x with state := .closed }) |> settleColumn 9
    let t := after (.pollReplyMdu 5 ((upTo 34).map (fun c => if c = 2 || c = 9 then .closed else .opened)))
      (polling 5 (judgePermits s))
    (xpAt t 2 2).state = .stuck ∧ (xpAt t 2 9).state = .stuck ∧ (xpAt t 1 9).state = .stuck ∧
    ((dirRec t 2).state, (dirRec t 2).owner) = (.parked, some 2) ∧ t.log.ring.length = 3 := by
  decide +kernel

/-- Column 2 is PARKED on row 1, which opens it for order 8 of row 2; order 7 of row 1 waits (R102). -/
def passing : State :=
  (hall0.onMx (fun m => { m with movements :=
     [{ row := 1, col := 2, dir := .opens, timer := 40, who := [.handover 8], cmd := 0 }] }))
  |> updXp 1 2 (fun x => { x with state := .opening })
  |> updDir 2 (fun d => { d with state := .parked, owner := some 1, handover := some 8, waiting := [7] })
  |> State.onStats (fun l => { cls := .directory, mask := 128 } :: l.drop 1)

/-- The handover order goes while its opening is in flight: column 2 stays PARKED, and is offered to nobody (R102). -/
theorem test_orderCancel_opening_runs_on :
    let t := after (.orderCancel 1 8) (withOrders [at7 .tuning, { at7 .tuning with id := 8, snap := { order7.snap with tx := 2 } }] passing)
    (dirRec t 2).state = .parked ∧ (dirRec t 2).handover = none ∧ (dirRec t 2).claiming = none ∧ (dirRec t 2).waiting = [7] := by
  decide +kernel

/-- Its end frees the column (P2F, the one transition counted here), and the head of the wait list is granted it (R102, R103). -/
theorem test_pollReplyMdu_p2f :
    let s := cancelHandover 8 passing
    let t := after (.pollReplyMdu 2 (List.replicate 34 .opened)) (polling 2 (withOrders [at7 .tuning] s))
    (dirRec t 2).claiming = some 7 ∧ (t.stats.head?).map (·.value) = some 1 := by
  decide +kernel

/-- A PARKED column found open becomes FREE, and no P2F is offered (R99, R115). -/
theorem test_foundOpen_uncounted :
    let s := hall0 |> updXp 1 2 (fun x => { x with state := .closed }) |> settleColumn 2
      |> State.onStats (fun l => { cls := .directory, mask := 128 } :: l.drop 1)
    let t := foundOpen 1 2 s
    (dirRec s 2).state = .parked ∧ (dirRec t 2).state = .free ∧ (t.stats.head?).map (·.value) = some 0 := by
  decide +kernel

/-- A column PARKED on row 1 under the claim of an order of row 2 stays PARKED when row 2's crosspoint becomes active too (R98). -/
theorem test_lawOf_owner_row :
    let s := (withOrders [{ order7 with snap := { order7.snap with tx := 2 } }] hall0)
      |> updXp 1 2 (fun x => { x with state := .stuck }) |> updXp 2 2 (fun x => { x with state := .stuck })
      |> updDir 2 (fun d => { d with claiming := some 7, state := .parked, owner := some 1 })
    lawOf s 2 = (.parked, some 1) := by
  decide +kernel

/-- The search of the example of 06 (R134): TUNE-RESULT fills index 7 unverified, and the tune ends. -/
theorem test_commandReply_fills :
    let c : Cmd := { addr := 1, fn := .tuneResult, urgent := false, subject := 1, serial := 5 }
    let k : TuneInHand :=
      { kind := .search, freq := 9725, mode := .am, index := 7, verified := false, order := none, timer := none
        held := false, acked := true, reading := true, cmd := some 5 }
    let s := hall0 |> updTx 1 (fun x => { x with state := .tuning, tune := some k })
      |> State.onLine (fun l => { l with txn := some { addr := 1, fn := .command c, retry := false, live := true, rate := 1, window := 20 } })
    let t := after (.commandReply 1 .tuneResult (.ack [14002, 29980, 6315, 43870, 900])) s
    presetAt t 1 7 = some { freq := 9725, positions := [14002, 29980, 6315, 43870, 900], verified := false } ∧
    (txCtl t 1).tune = none ∧ (txCtl t 1).state = .standby := by
  decide +kernel

/-- Events 1 and 4 of the season change of 02: the arming is taken at 13:58:20, the disarming at 00:52:10 is TOO-LATE
(R37, R38). -/
theorem test_bankArm_and_disarm :
    let b : Bank := { state := .loaded, header := some { season := 2513, validFrom := 9220, validTo := 9429 } }
    let day := 9219 * 86400
    let s := judgePermits { hall0 with
      banks := { a := { state := .active }, b := b }
      clock := { time := some (day + 50300), state := .valid }, staging := { through := some (day + 51480) } }
    let t := after (.bankArm 1 2 (day + 90000)) s
    t.banks.b.state = .armed ∧ t.banks.b.activation = some (day + 90000) ∧
    (after (.bankDisarm 2 2) (t.onStaging (fun g => { g with through := some (day + 90720) }))).port.out.getLast? =
      some (.reply 0x97 2 .tooLate .none .none) := by
  decide +kernel

/-- The STORE of 10 across generations 40 and 41 (R195, R196): 42 goes into the slot of 40. -/
theorem test_store_generation :
    let i := imageOf hall0
    let s := { hall0 with store := { slot1 := .good 40 i, slot2 := .good 41 i } }
    let t := after (.store 7) s
    t.store.slot1 = .bad ∧ (t.store.writing.map (fun w => (w.first, w.generation))) = some (true, 42) ∧
    (after .storeWriteComplete t).port.out =
      [.reply 0xC8 7 .ok .none (.stored 42), .report .store 0 0 (.store (.written 42))] := by
  decide +kernel

/-- R181: the check of the nine characters 1 to 9, the published check value of polynomial 1021h started at FFFFh; computed
outside the model. -/
theorem test_checkWord : checkOf ([0x31, 0x32, 0x33, 0x34, 0x35, 0x36, 0x37, 0x38, 0x39] : List Byte) = 0x29B1 := by
  decide +kernel

/-- The block takes no coded words: the table gives no row any bits. -/
theorem test_decodeTableWord : decodeTableWord 8 0 = none := rfl

/-- IDENTIFY arrives byte by byte on the Control Link, is taken, and is answered (R181, R182, R187). -/
theorem test_frameTaken_identify :
    let s := feed (frameBytes 0x4A 5 []) hall0
    s.port.rx.length = 1 ∧
    (after .frameTaken s).port.out.map (fun f => match f with
      | .reply kind tag st _ _ => (kind, tag, st == .ok)
      | .report _ _ _ _ => (0, 0, false)) = [(0xCA, 5, true)] := by
  decide +kernel

/-- R45: of two marks in the half second after an internal boundary the first applies the pending setting, and neither advances
the hall time. -/
theorem test_timeMark_early :
    let s := hall0.onClock (fun c =>
      { c with lastInternal := true, setting := some { value := 7000, takenAt := some 6000, boundaries := 1 } })
    let t := after (.timeMark true false) s
    t.clock.time = some 7000 ∧ (after (.timeMark true true) t).clock.time = some 7000 := by
  decide +kernel

/-- R130, R172: the third miss, on the retry of FILAMENT ON, fails the waiting order with WARM-UP-FAILED, although the
transmitter goes OFFLINE with its TLU. -/
theorem test_transactionMiss_warming :
    let c : Cmd := { addr := 1, fn := .filament true, urgent := false, subject := 1, serial := 5 }
    let o : Order := { order7 with stage := .warming, antenna := some 2, work := { warmUp := true } }
    let s := withOrders [o] hall0 |> updUnit 1 (fun u => { u with misses := 2 })
      |> updTx 1 (fun x => { x with state := .cold, warm := some { start := none, timer := none, waiting := [7], cmd := some 5 } })
      |> State.onLine (fun l => { l with txn := some { addr := 1, fn := .command c, retry := true, live := true, rate := 1, window := 20 } })
    let t := after (.transactionMiss .noAnswer) s
    (txCtl t 1).state = .offline ∧ order? t 7 = none ∧
    t.port.out.filterMap (fun f => match f with
      | .report _ _ _ (.order r) => r.failure
      | _ => none) = [.warmUpFailed] := by
  decide +kernel

/-- R169: a transaction in progress finishes at the settings it started with. -/
theorem test_lineSet_inProgress :
    (after (.lineSet 1 (some 3) (some 50)) (polling 1 hall0)).line.txn.map (fun t => (t.rate, t.window)) = some (1, 20) := by
  decide +kernel

/-- R124: MATRIX-READ of the drive lists each movement with its crosspoint and direction alone. -/
theorem test_matrixRead_drive :
    let s := hall0.onMx (fun m => { m with movements := [{ row := 16, col := 34, dir := .close, timer := 7, who := [], cmd := 1 }] })
    (after (.matrixRead 1 3 0) s).port.out.map (fun f => match f with
      | .reply _ _ _ _ d => d.bytes
      | .report _ _ _ _ => []) = [[4, 3, 1, 16, 34, 1, 0]] := by
  decide +kernel

/-! ### Premises met: the machine, its invariants, its arithmetic -/

theorem witness_StepTakesTheFrontCommand : State.reset.pending = [] := rfl

theorem witness_EveryCommandAnswersAState :
    (onAir.onPins (fun p => { p with powered := false })).pins.powered = false ∧ turnsKey (.rampEnd 7) = false ∧
    movesChain (.rampEnd 7) = false ∧ switchesSupply (.rampEnd 7) = false := by
  decide +kernel

/-- A state with commands waiting. -/
def queued (l : List Instr) (s : State) : State := { s with pending := l }

theorem witness_EveryStepSettlesThePermits :
    (queued [.timeMark false false] onAir).settled ∧ ∃ t, step (queued [.timeMark false false] onAir) = .next t :=
  ⟨(meets (by decide +kernel)).1.2, ⟨_, rfl⟩⟩

theorem witness_EveryStepKeepsTheTableSizes :
    (queued [.store 1] onAir).whole ∧ ∃ t, step (queued [.store 1] onAir) = .next t :=
  ⟨(meets (by decide +kernel)).2.1, ⟨_, rfl⟩⟩

/-- A command of the line. -/
def cmdOf (fn : CmdFn) (urgent : Bool) (subject serial : Nat) : Cmd :=
  { addr := 1, fn := fn, urgent := urgent, subject := subject, serial := serial }

/-- A fault record. -/
def record0 : FaultRecord where
  number := 0
  second := none
  kind := .xpStuck
  subject := .hall
  order := none
  inFlight := {}
  telemetry := none
  trips := 0

/-- Every queue, ring, table and list is full. -/
def full : State :=
  { hall0 with
    port := { out := List.replicate 64 (.report .store 0 0 (.store .badImage)), rx := List.replicate 4 { kind := 0x4A, tag := 0, body := [] } }
    log := { ring := List.replicate 32 record0 }
    line := { hall0.line with queue := List.replicate 32 (cmdOf .stop false 1 0) }
    banks := { a := { entries := (upTo 400).map (fun k => { entryRecord put1 with number := k }) } }
    chg := { orders := (upTo 32).map (fun k => { order7 with id := k, stage := .tuning, antenna := some 2, tripTimes := [1, 2, 3, 4, 5] }) }
    staging := { deferred := List.replicate 16 { bank := .a, entry := 1, start := 6600, ends := 9600, snap := order7.snap } }
    dir := { hall0.dir with loadWait := upTo 32, cols := hall0.dir.cols.mapIdx (fun i d => if i = 1 then { d with waiting := upTo 32 } else d) }
    mx := { hall0.mx with
      queue := [.close, .opens].map (fun d => { row := 2, col := 34, dir := d, essential := false, arrival := 0, who := [.order 8] })
      movements := (upTo 4).map (fun k => { row := k, col := k, dir := .close, timer := 1, who := [], cmd := k }) }
    prot := List.replicate 16 { trips := List.replicate 5 { second := 0, kind := .vswr } } }

theorem full_lengths :
    full.port.reports = 64 ∧ full.port.rx.length = 4 ∧ full.log.ring.length = 32 ∧ full.line.queue.length = 32 ∧
    full.chg.orders.length = 32 ∧ (full.chg.orders.map (·.id)).Nodup ∧ full.staging.deferred.length = 16 ∧
    (∀ o ∈ full.chg.orders, o.tripTimes.length = 5) ∧ (∀ p ∈ full.prot, p.trips.length = 5) := by
  decide +kernel

theorem full_inOrder :
    full.banks.a.inOrder ∧ full.banks.b.inOrder ∧ (∀ c ∈ upTo 32, full.waitInOrder c) ∧ full.loadWaitInOrder ∧
    full.driveInOrder := by
  unfold Bank.inOrder State.waitInOrder State.loadWaitInOrder State.driveInOrder
  decide +kernel

theorem witness_EveryStepKeepsTheLimits :
    (queued [.safetyChainOpen] full).limits ∧ ∃ t, step (queued [.safetyChainOpen] full) = .next t := by
  obtain ⟨h1, h2, h3, h4, h5, h6, h7, h8, h9⟩ := full_lengths
  obtain ⟨ha, hb, hw, hl, hd⟩ := full_inOrder
  exact ⟨⟨Nat.le_of_eq h1, Nat.le_of_eq h2, Nat.le_of_eq h3, Nat.le_of_eq h4, Nat.le_of_eq h5, h6, Nat.le_of_eq h7,
    fun o ho => Nat.le_of_eq (h8 o ho), fun p hp => Nat.le_of_eq (h9 p hp),
    ⟨ha, hb, trivial, trivial, fun w h => by cases h⟩, hw, hl, hd⟩, ⟨_, rfl⟩⟩

theorem witness_EveryStepKeepsTheFoldbackFactors :
    let s := queued [.pollReplyTlu 1 (loud 2500 340)] (polling 1 onAir |> updProt 2 (fun p => { p with factor := 500 }))
    s.factorsInRange ∧ ∃ t, step s = .next t :=
  ⟨by unfold State.factorsInRange; decide +kernel, ⟨_, rfl⟩⟩

/-- A crosspoint at the end of its life, and one with one operation left. -/
def worn : State :=
  hall0 |> updXp 1 1 (fun x => { x with remaining := 0, serviceDue := true }) |> updXp 1 2 (fun x => { x with remaining := 1 })

theorem witness_EveryStepKeepsTheWearCounts :
    (queued [.xpService 1 1 0] worn).wearInOrder ∧ ∃ t, step (queued [.xpService 1 1 0] worn) = .next t := by
  refine ⟨⟨by decide +kernel, ?_, trivial, trivial, fun w h => by cases h⟩, ⟨_, rfl⟩⟩
  unfold wearOk
  decide +kernel

theorem witness_APermitIsAssertedExactlyUnderItsConditions :
    let s := fun c => queued [c] onAir
    (∀ c, (s c).settled) ∧
    (∃ t, step (s .safetyChainOpen) = .next t ∧ t.pins.chainClosed = false) ∧
    (∃ t, step (s .powerLoss) = .next t ∧ t.pins.powered = false) ∧
    ∃ t, step (s (.timeMark false false)) = .next t ∧ t.pins.powered = true ∧ nth t.pins.permits 1 = some true ∧
      nth t.pins.permits 16 = some false :=
  ⟨fun c => settled_eq rfl rfl rfl rfl rfl rfl meets_onAir.1.2, ⟨_, rfl, by decide +kernel⟩, ⟨_, rfl, by decide +kernel⟩,
    ⟨_, rfl, by decide +kernel⟩⟩

theorem witness_OnlyTheNamedCommandsChangeTablesAndInputs :
    (∃ t, exec (.rampEnd 7) onAir = .next t) ∧ turnsKey (.rampEnd 7) = false ∧ movesChain (.rampEnd 7) = false ∧
    switchesSupply (.rampEnd 7) = false ∧ definesHall (.rampEnd 7) = false ∧ writesStore (.rampEnd 7) = false ∧
    selectsReports (.rampEnd 7) = false ∧ setsLine (.rampEnd 7) = false :=
  ⟨⟨_, rfl⟩, by decide +kernel⟩

/-- The Hall Key stands LOCAL. -/
def keyLocal (s : State) : State := s.onPins (fun p => { p with key := .local })

theorem witness_NoCommandIsOfferedUnderLocal :
    (keyLocal onAir).pins.key = .local ∧ turnsKey (.restartImmediate 1) = false ∧ Instr.restartImmediate 1 ≠ .powerOn ∧
    ∃ t, exec (.restartImmediate 1) (keyLocal onAir) = .next t :=
  ⟨rfl, rfl, by decide, ⟨_, rfl⟩⟩

theorem witness_AStoreInFlightRefusesTableChanges :
    ((after (.store 1) onAir).pins.powered = true ∧ (after (.store 1) onAir).store.writing.isSome = true) ∧
    ((∀ r ∈ some 4, r ≤ 4) ∧ (∀ w ∈ some 100, 5 ≤ w ∧ w ≤ 100) ∧ (some 4).isSome) ∧ BankId.ofCode 1 = some .a ∧
    (65535 ≤ 65535 ∧ Date.valid { year := 2000, month := 1, day := 1 } = true ∧
      Date.valid { year := 2099, month := 12, day := 31 } = true) ∧
    (put1.bank = 1 ∧ firstBad (entryRanges put1) = none) ∧ (1 ≤ 400 ∧ 400 ≤ 400) ∧
    (1 < 4294967296 ∧ (∀ i, i < 32 → maskBit 1 i = true → 400 + i ≤ 400) ∧ 1 ≤ 3 ∧ 3 ≤ 3) ∧
    (4294967280 % 60 = 0 ∧ 4294967280 < 4294967296) ∧
    (17179869183 < 17179869184 ∧ 2 ≠ 3 ∧ maskBit 4294967295 32 = false ∧ maskBit 4294967295 33 = false) ∧
    (1 ≤ 16 ∧ 16 ≤ 16 ∧ 34 ≤ 34) ∧ 65535 < 65536 ∧ ((∀ f ∈ some 9410, freqOk f = true) ∧ (some 9410).isSome) := by
  decide +kernel

theorem witness_ReflectionRatioIsTheRule :
    (9 < 10) ∧ (10 ≤ 10 ∧ 10 ≤ 10 ∧ reflection 10 10 = some 1000) ∧ (10 ≤ 10 ∧ 9 < 10 ∧ reflection 10 9 = some 900) := by
  decide

theorem witness_FoldbackMovesBetweenFiveHundredAndOneThousand :
    (40 < 41 ∧ 41 < 110 ∧ 500 ≤ 500 ∧ 500 ≤ 1000 ∧ ¬ foldTarget 41 40 110 < 500) ∧
    (40 < 109 ∧ 109 < 110 ∧ 500 ≤ 1000 ∧ 1000 ≤ 1000 ∧ foldTarget 109 40 110 < 1000) := by
  decide

theorem witness_NoSetpointExceedsTheBase : 1000 ≤ 1000 ∧ 0 < 1 ∧ 1 ≤ 1 := by decide

theorem witness_CalendarDatesAndHallDaysAgree :
    Date.valid { year := 2000, month := 1, day := 1 } = true ∧ Date.valid { year := 2024, month := 2, day := 29 } = true ∧
    Date.valid { year := 2099, month := 12, day := 31 } = true ∧ 36524 ≤ 36524 := by
  decide

/-! ### Premises met: the Control Link -/

theorem witness_AWellFormedFrameIsReceived :
    let s := hall0.onPort (fun p => { p with rx := List.replicate 3 { kind := 0x4A, tag := 0, body := [] } })
    s.running ∧ s.port.framing = .seeking ∧ s.port.rx.length < 4 ∧ 255 < 256 ∧
    (List.replicate 1024 (0xA5 : Byte)).length ≤ 1024 :=
  ⟨settledPowered rfl meets_hall0, rfl, by decide, by decide, Nat.le_of_eq List.length_replicate⟩

theorem witness_LinkEventsActOnThePortAlone :
    let reading := hall0.onPort (fun p => { p with framing := .reading [1, 2] })
    let sending := hall0.onPort (fun p => { p with out := [.report .store 0 0 (.store .badImage)] })
    (hall0.running ∧ hall0.port.framing = .seeking ∧ hall0.port.out = []) ∧
    (reading.running ∧ reading.port.framing = .reading [1, 2] ∧ Config.sync ∉ ([1, 2] : List Byte)) ∧
    (sending.running ∧ sending.port.out = [.report .store 0 0 (.store .badImage)]) :=
  ⟨⟨meets_hall0.1, rfl, rfl⟩, ⟨settledPowered rfl meets_hall0, rfl, by decide⟩, ⟨settledPowered rfl meets_hall0, rfl⟩⟩

/-- Frames in the receive buffer. -/
def received (l : List RxFrame) (s : State) : State := s.onPort (fun p => { p with rx := l })

/-- Unsent replies in the report queue. -/
def owing (k : Nat) (s : State) : State :=
  s.onPort (fun p => { p with out := List.replicate k (.reply 0xC4 0 .ok .none .none) })

theorem witness_AFrameTakenIsAnsweredOrCarriedOut :
    hall0.port.rx = [] ∧ 4 ≤ outstanding (owing 4 hall0) ∧
    (let s := received [{ kind := 0xE0, tag := 255, body := [] }] (owing 3 hall0)
     s.running ∧ outstanding s < 4 ∧ readBody 0xE0 255 [] = .badKind) ∧
    (let s := received [{ kind := 0x4A, tag := 0, body := [0] }] hall0
     s.running ∧ outstanding s < 4 ∧ readBody 0x4A 0 [0] = .badLength) ∧
    (let s := received [{ kind := 0x49, tag := 0, body := [3] }] hall0
     s.running ∧ outstanding s < 4 ∧ readBody 0x49 0 [3] = .badValue) ∧
    (let s := received [{ kind := 0x4A, tag := 0, body := [] }] hall0
     s.running ∧ outstanding s < 4 ∧ readBody 0x4A 0 [] = .request (.identify 0)) :=
  ⟨rfl, by decide, ⟨settledPowered rfl meets_hall0, by decide, rfl⟩, ⟨settledPowered rfl meets_hall0, by decide, rfl⟩,
    ⟨settledPowered rfl meets_hall0, by decide, rfl⟩, ⟨settledPowered rfl meets_hall0, by decide, rfl⟩⟩

theorem witness_AReportIsIgnoredAdmittedOrDropped :
    let f : OutFrame := .report .store 0 0 (.store .badImage)
    let p : Port := { out := List.replicate 63 f }
    ({ p with selected := 0x7FF }).selected.getLsbD (ReportBody.kind (.store .badImage)).position = false ∧
    p.selected.getLsbD (ReportBody.kind (.store .badImage)).position = true ∧ p.reports < 64 ∧
    64 ≤ ({ p with out := p.out ++ [f] } : Port).reports := by
  decide +kernel

theorem witness_AFrameSpellsAWellFormedRequest :
    255 < 256 ∧ readBody 0x02 255 [0xFF] = .request (.txRead 255 255) := by
  decide +kernel

/-! ### Premises met: requests that read -/

/-- A bank LOADED with entries 1 and 400. -/
def bank1 : Bank where
  state := .loaded
  header := some { season := 2513, validFrom := 0, validTo := 36524 }
  entries := [entryRecord put1, { entryRecord put1 with number := 400, start := 120 }]

/-- The hall with bank A LOADED. -/
def banked : State := { hall0 with banks := { a := bank1 } }

theorem witness_TableReadsAnswerTheTablesAsTheyStand :
    banked.pins.powered = true ∧ (1 ≤ 1 ∧ 1 ≤ 16) ∧ (1 ≤ 16 ∧ 16 ≤ 16) ∧ 16 < 17 ∧ (1 ≤ 32 ∧ 32 ≤ 32) ∧ 34 < 35 ∧
    BankId.ofCode 3 = none ∧ BankId.ofCode 1 = some .a ∧ 400 < 401 ∧
    (bankOf banked .a).entries.find? (fun x => x.number == 1) = some (entryRecord put1) ∧
    (bankOf banked .a).entries.find? (fun x => decide (2 ≤ x.number)) =
      some { entryRecord put1 with number := 400, start := 120 } ∧
    (∀ x ∈ (bankOf banked .a).entries, x.number ≠ 399) ∧
    BankId.ofCode 2 = some .b ∧ (∀ x ∈ (bankOf banked .b).entries, x.number < 400) := by
  decide +kernel

/-- Transmitter 1 holds a preset for 9,410 kHz at index 7. -/
def preset7 : Preset := { freq := 9410, positions := [12410, 30877], verified := true }
def tuned7 : State := setPreset 1 7 (some preset7) hall0

theorem witness_StateReadsAnswerTheStateAsItStands :
    tuned7.pins.powered = true ∧ (1 ≤ 16 ∧ 16 ≤ 16) ∧ (1 ≤ 34 ∧ 34 ≤ 34) ∧ (0 = 0 ∨ 3 < 0) ∧ 3 < 4 ∧ 16 < 17 ∧ 34 < 35 ∧
    63 ≤ 63 ∧ freqOk 9410 = true ∧ presetHit tuned7 1 9410 = some preset7 ∧ 31 ≤ 31 := by
  decide +kernel

theorem witness_OrderListIsCompleteAndSorted :
    onAir.pins.powered = true ∧ 16 < 17 ∧ 16 ≤ 16 ∧ (7 ≠ 0 ∧ (order? onAir 7).isSome = true) ∧
    (8 ≠ 0 ∧ order? onAir 8 = none) := by
  decide +kernel

/-! ### Premises met: the Hall Description and the settings -/

theorem witness_SettingsTakeTheValuesGiven :
    Meets hall0 ∧ ((∀ r ∈ some 4, r ≤ 4) ∧ (∀ w ∈ some 5, 5 ≤ w ∧ w ≤ 100)) ∧
    ((∀ r ∈ (none : Option Nat), r ≤ 4) ∧ (∀ w ∈ some 100, 5 ≤ w ∧ w ≤ 100)) ∧
    (let f : HallFields := { lookAhead := some 60, opLife := some 1000 }
     firstBad (hallRanges f) = none ∧ HallFields.empty f = false ∧ f.credits = none) ∧
    (let f : HallFields := { credits := some 6 }
     firstBad (hallRanges f) = none ∧ HallFields.empty f = false ∧ hall0.mx.movements = []) :=
  ⟨meets_hall0, by decide, by decide, by decide +kernel, by decide +kernel⟩

/-- A definition of transmitter 16 at the ends of its ranges. -/
def define16 : TxFields where
  tlu := some 63
  mdu := some 62
  low := some 2300
  high := some 26100
  rated := some 5000
  modes := some 7

/-- Transmitter 2 with new units and a narrower range. -/
def redefine2 : TxFields where
  tlu := some 10
  mdu := some 11
  low := some 9410
  high := some 9410
  rated := some 3000
  modes := some 5

theorem witness_ATransmitterIsDefinedOrRemoved :
    Meets hall0 ∧ ordersOf hall0 16 = [] ∧
    (let r := txRecord define16 (((txRec? hall0 16).map (·.inhibited)).getD false)
     firstBad (txRanges define16) = none ∧ txInconsistent hall0 16 r = none ∧
     failingEntry hall0 (fun e => e.tx == 16 && (!within r.low r.high e.freq || !ModeSet.has r.modes e.mode)) = none ∧
     (∀ o ∈ txRec? hall0 16, o.mdu = r.mdu) ∧ (txRec? hall0 16).map (·.tlu) ≠ some r.tlu) ∧
    (let s := setPreset 2 7 (some { freq := 9410, positions := [1], verified := true }) hall0
     let r := txRecord redefine2 (((txRec? s 2).map (·.inhibited)).getD false)
     ordersOf s 2 = [] ∧ firstBad (txRanges redefine2) = none ∧ txInconsistent s 2 r = none ∧
     failingEntry s (fun e => e.tx == 2 && (!within r.low r.high e.freq || !ModeSet.has r.modes e.mode)) = none ∧
     rowWhere s 2 XpState.inFlight = [] ∧ txRec? s 2 = some tx2 ∧ tx2.tlu ≠ r.tlu ∧ tx2.tlu ≠ r.mdu ∧ tx2.mdu ≠ r.mdu ∧
     tx2.mdu ≠ r.tlu ∧ (txCtl s 2).state ≠ .lockedOut ∧ (presetAt s 2 7).map (·.freq) = some r.high ∧ r.low = r.high) ∧
    (ordersOf hall0 2 = [] ∧ (∀ r ∈ otherTx hall0 2, r.standby ≠ some 2) ∧ failingEntry hall0 (fun e => e.tx == 2) = none ∧
      rowWhere hall0 2 XpState.inFlight = [] ∧ txRec? hall0 2 = some tx2) ∧
    (ordersOf hall0 16 = [] ∧ (∀ r ∈ otherTx hall0 16, r.standby ≠ some 16) ∧ txRec? hall0 16 = none) :=
  ⟨meets_hall0, by and_intros <;> decide +kernel⟩

theorem witness_AnAntennaIsDefinedOrRemoved :
    let takes (a : Nat) (f : AntFields) : Prop :=
      antRangeFault f = none ∧ antInconsistent hall0 a f = none ∧
      failingEntry hall0 (entryFailsAnt a (antRecord f)) = none ∧ antBusy hall0 a (antRecord f).rotator = false
    Meets hall0 ∧
    (let f := curtain 63 270 40 110
     takes 32 f ∧ rotatorPart? hall0 32 = none ∧ (antRecord f).rotator.isSome = true) ∧
    (takes 1 (curtain 42 240 40 110) ∧ ((rotatorPart? hall0 1).map (·.aru) = some 3) ∧
      ((antRecord (curtain 42 240 40 110)).rotator.map (·.aru) = some 42)) ∧
    (takes 1 (curtain 3 240 40 110) ∧ ((antRecord (curtain 3 240 40 110)).rotator.map (·.aru) = some 3)) ∧
    (let f : AntFields := { curtain 3 240 40 110 with kind := some 1, rotator := none }
     takes 1 f ∧ (antRecord f).rotator = none) ∧
    (failingEntry hall0 (fun e => e.primary == 1 || e.alternate == some 1) = none ∧ antBusy hall0 1 none = false ∧
      (rotatorPart? hall0 1).isSome = true) ∧
    (100 ≤ 100 ∧ (∀ n ∈ upTo 16, ∀ r ∈ txRec? hall0 n, r.searchPower ≤ 100) ∧ (dirRec hall0 34).state ≠ .reserved ∧
      (dirRec hall0 34).state ≠ .assigned) :=
  ⟨meets_hall0, by and_intros <;> decide +kernel⟩

/-! ### Premises met: the Schedule Banks -/

/-- Bank A in a state. -/
def bankIn (st : BankState) : State := { hall0 with banks := { a := { bank1 with state := st } } }

theorem witness_BankEditsChangeTheirBankAlone :
    Meets (bankIn .armed) ∧ BankId.ofCode 1 = some .a ∧ (bankOf (bankIn .armed) .a).state = .armed ∧
    Meets (bankIn .active) ∧ (bankOf (bankIn .active) .a).state = .active ∧
    Meets banked ∧ (bankOf banked .a).state ≠ .armed ∧ (bankOf banked .a).state ≠ .active ∧
    (∃ e ∈ (bankOf banked .a).entries, e.number = 400) ∧
    (let d : Date := { year := 2000, month := 1, day := 1 }
     let z : Date := { year := 2099, month := 12, day := 31 }
     65535 ≤ 65535 ∧ Date.valid d = true ∧ Date.valid z = true ∧ Date.toDay d ≤ Date.toDay z ∧
     headerConflict (some { season := 65535, validFrom := Date.toDay d, validTo := Date.toDay z })
       (bankOf banked .a).entries = none) :=
  ⟨meets (by decide +kernel), rfl, rfl, meets (by decide +kernel), rfl, meets (by decide +kernel), by decide, by decide,
    by decide +kernel, by decide +kernel⟩

/-- An entry at number 400 in place of the one there. -/
def put400 : EntryFields := { put1 with number := 400, start := 1380, alternate := some 2 }

theorem witness_AnEntryIsPutAtItsNumber :
    Meets banked ∧ BankId.ofCode put400.bank = some .a ∧ (bankOf banked .a).state ≠ .armed ∧
    (bankOf banked .a).state ≠ .active ∧ firstBad (entryRanges put400) = none ∧
    programmeFault banked { (entryRecord put400).snapshot with alternate := put400.alternate } = none ∧
    (∀ a ∈ put400.validFrom, ∀ z ∈ put400.validTo, Date.toDay a ≤ Date.toDay z) ∧
    (∀ x ∈ (bankOf banked .a).entries, x.number ≠ put400.number →
      entriesConflict (bankOf banked .a).header (entryRecord put400) x = false) ∧
    (bankOf banked .a).entries.Pairwise (fun x y => x.number < y.number) :=
  ⟨meets (by decide +kernel), by decide +kernel⟩

theorem witness_ABankIsArmedAndDisarmed :
    (Meets banked ∧ 7260 % 60 = 0 ∧ banked.clock.time = some 6000 ∧ (bankOf banked .a).state = .loaded ∧
      (bankOf banked .a).header = some { season := 2513, validFrom := 0, validTo := 36524 } ∧
      (bankOf banked (BankId.other .a)).state ≠ .armed ∧ 7260 / 86400 ≤ 36524 ∧
      6000 + 60 * banked.hall.par.lookAhead + 60 ≤ 7260 ∧ ∀ t ∈ banked.staging.through, t < 7260) ∧
    (let s := { bankIn .armed with banks := { a := { bank1 with state := .armed, activation := some 7260 } } }
     (Meets s ∧ (bankOf s .a).state = .armed ∧ (bankOf s .a).activation = some 7260 ∧ ∀ t ∈ s.staging.through, t < 7260) ∧
     let u := { s with staging := { through := some 7260 } }
     Meets u ∧ u.staging.through = some 7260 ∧ 7260 ≤ 7260) :=
  ⟨⟨meets (by decide +kernel), by decide +kernel⟩, ⟨meets (by decide +kernel), by decide +kernel⟩,
    meets (by decide +kernel), rfl, by decide⟩

/-- Entry 1 of bank A, SUSPENDED, alone in a bank that is in force from 86,400 on, with its next day staged through. -/
def resting (b : Bank) : State :=
  { hall0 with banks := { a := { b with header := bank1.header, entries := [{ entryRecord put1 with suspended := true }] } }
               staging := { through := some 90000 } }

theorem witness_SuspensionActsOnTheEntriesNamed :
    (let o : Order := { order7 with origin := .schedule .a 1 86400, start := 86400, ends := 90000 }
     let s := { withOrders [o] hall0 with banks := { a := { bank1 with state := .active } } }
     Meets s ∧ (1 ≤ 400 ∧ (∀ i, i < 32 → maskBit 1 i = true → 400 + i ≤ 400)) ∧
     (∀ i, i < 32 → maskBit 4294967295 i = true → 1 + i ≤ 400) ∧ ((bankOf s .a).entries.map (·.number)).Nodup ∧
     (∃ e ∈ (bankOf s .a).entries, e.suspended = false ∧ 1 ≤ e.number ∧ maskBit 1 (e.number - 1) = true) ∧
     ∃ e ∈ (bankOf s .a).entries, ¬ e.number < 33) ∧
    (Meets banked ∧ (bankOf banked .a).state ≠ .armed ∧ (bankOf banked .a).state ≠ .active) ∧
    ∀ b ∈ [({ state := .active } : Bank), { state := .armed, activation := some 86400 }],
      let s := resting b
      let e := { entryRecord put1 with suspended := true }
      let due (d : Nat) : Prop := occursOn (bankOf s .a).header e d = true ∧ 6000 + 60 ≤ occurrenceStart e d ∧
        occurrenceStart e d ≤ 90000 ∧ bankInForce s (occurrenceStart e d) = some .a
      Meets s ∧ e ∈ (bankOf s .a).entries ∧ e.number = 1 ∧ e.start < 1440 ∧ (bankOf s .a).state = b.state ∧
      s.clock.time = some 6000 ∧ s.staging.through = some 90000 ∧ due 1 ∧ (∀ d, due d → d = 1) ∧ s.chg.orders = [] ∧
      (admissionFault s (occurrence .a e (occurrenceStart e 1)).candidate).isNone = true := by
  have only : ∀ d, 6000 + 60 ≤ occurrenceStart { entryRecord put1 with suspended := true } d →
      occurrenceStart { entryRecord put1 with suspended := true } d ≤ 90000 → d = 1 := by
    intro d h1 h2
    simp only [occurrenceStart, entryRecord, put1, Config.daySeconds] at h1 h2
    omega
  refine ⟨⟨meets (by decide +kernel), by decide +kernel⟩, ⟨meets (by decide +kernel), by decide +kernel⟩, ?_⟩
  intro b hb
  rcases List.mem_cons.mp hb with rfl | hb
  · exact ⟨meets (by decide +kernel), by decide +kernel, rfl, by decide, rfl, rfl, rfl, by decide +kernel,
      fun d h => only d h.2.1 h.2.2.1, rfl, by decide +kernel⟩
  · obtain rfl := List.mem_singleton.mp hb
    exact ⟨meets (by decide +kernel), by decide +kernel, rfl, by decide, rfl, rfl, rfl, by decide +kernel,
      fun d h => only d h.2.1 h.2.2.1, rfl, by decide +kernel⟩

/-! ### Premises met: the clock and the orders -/

/-- The hall in AUTO. -/
def auto0 : State := hall0.onClock (fun c => { c with enable := true })

/-- One entry of bank A, in force, that starts at a minute of the day for an hour. -/
def bank1At (minute : Nat) : Bank :=
  { bank1 with state := .active, entries := [{ entryRecord put1 with start := minute }] }

theorem witness_ClockRequestsSetTheClock :
    Meets hall0 ∧ Date.valid { year := 2099, month := 12, day := 31 } = true ∧ (23 ≤ 23 ∧ 59 ≤ 59) ∧ (1 ≤ 1 ∧ 1 ≤ 2) ∧
    (Meets auto0 ∧ isAuto auto0 = true ∧ auto0.clock.enable = decide (1 = 1)) ∧
    (∃ t, exec (.automation 0 2) auto0 = .next t) ∧
    (let s := { hall0 with banks := { a := bank1At 90 } }
     let e := { entryRecord put1 with start := 90 }
     Meets s ∧ isAuto s = false ∧ isAuto (after (.automation 0 1) s) = true ∧ (bankOf s .a).state = .active ∧
     (bankOf s .a).entries = [e] ∧ (bankOf s .b).state = .empty ∧ s.chg.orders = [] ∧ s.staging.deferred = [] ∧
     e.suspended = false ∧ occursOn (bankOf s .a).header e (hallDay 5400) = true ∧ e.start = minuteOfDay 5400 ∧
     5400 ∈ catchMinutes (now s) (cutoffSecs s) ∧ now s + cutoffSecs s < 5400 + 60 * e.duration ∧
     (admissionFault s (occurrence .a e 5400).candidate).isNone = true) :=
  ⟨meets_hall0, by decide +kernel, by decide, by decide, ⟨meets (by decide +kernel), by decide +kernel⟩, ⟨_, rfl⟩,
    meets (by decide +kernel), by decide +kernel⟩

/-- The hall with a pending time setting that has seen some boundaries. -/
def setting (k : Nat) (s : State) : State :=
  s.onClock (fun c => { c with setting := some { value := 7000, takenAt := some 6000, boundaries := k } })

/-- The last boundary was an internal one. -/
def internal0 : State := hall0.onClock (fun c => { c with lastInternal := true })

theorem witness_TheClockFollowsMarksAndBoundaries :
    (Meets hall0 ∧ hall0.clock.lastInternal = false ∧ hall0.clock.setting = none ∧ hall0.clock.time = some 6000 ∧
      (6000 + 1) % 60 ≠ 0) ∧
    (let s := { hall0 with banks := { a := { bank1 with state := .armed, activation := some 6001 }, b := { state := .active } } }
     Meets s ∧ (bankOf s .a).state = .armed ∧ (bankOf s .a).activation = some 6001 ∧ 6001 ≤ 6000 + 1 ∧
     (bankOf s .b).state ≠ .armed) ∧
    (let s := hall0.onClock (fun c => { c with time := some 6059 })
     Meets s ∧ (6059 + 1) % 60 = 0 ∧ isAuto s = false) ∧
    (let s := { auto0 with clock := { auto0.clock with time := some 6059 }, staging := { through := some 6060 }
                           banks := { a := bank1At 121 } }
     let e := { entryRecord put1 with start := 121 }
     Meets s ∧ isAuto s = true ∧ (bankOf s .a).state = .active ∧ (bankOf s .a).entries = [e] ∧
     (bankOf s .b).state = .empty ∧ s.chg.orders = [] ∧ s.staging.deferred = [] ∧ e.suspended = false ∧
     s.hall.par.lookAhead ≤ 60 ∧ occursOn (bankOf s .a).header e (hallDay 7260) = true ∧ e.start = minuteOfDay 7260 ∧
     7260 % 60 = 0 ∧ 6060 < 7260 ∧ 7260 ≤ 6059 + 1 + 60 * s.hall.par.lookAhead ∧
     6059 + 1 + 60 * s.hall.par.cutoff < 7260 + 60 * e.duration ∧
     (admissionFault s (occurrence .a e 7260).candidate).isNone = true) ∧
    (Meets internal0 ∧ internal0.clock.lastInternal = true ∧ internal0.clock.setting = none) ∧
    (Meets (setting 1 hall0) ∧ (setting 1 hall0).clock.setting.map (·.boundaries) = some 1) ∧
    (Meets (setting 2 hall0) ∧ (setting 2 hall0).clock.setting.map (·.boundaries) = some 2) ∧
    (let s := hall0.onClock (fun c => { c with watch := 0 })
     Meets s ∧ s.clock.state = .valid ∧ s.clock.watch = 0) ∧ hall0.clock.watch ≠ 0 :=
  ⟨⟨meets_hall0, rfl, rfl, rfl, by decide⟩, ⟨meets (by decide +kernel), by decide +kernel⟩,
    ⟨meets (by decide +kernel), by decide +kernel⟩, ⟨meets (by decide +kernel), by decide +kernel⟩,
    ⟨meets (by decide +kernel), rfl, rfl⟩, ⟨meets (by decide +kernel), rfl⟩,
    ⟨meets (by decide +kernel), rfl⟩, ⟨meets (by decide +kernel), rfl, rfl⟩, by decide⟩

/-- A manual order over the end of order 7, of higher priority, at the last instant that may start it. -/
def manual7 : ManualFields := { manual1 with priority := 1, start := some 9599, ends := 95999 }

/-- An occurrence of entry 1 of bank A at 7,200, and the table full of orders that do not conflict with it. -/
def occ1 : Deferred := occurrence .a (entryRecord put1) 7200
def fullTable : State := withOrders ((upTo 32).map (fun k => { order7 with id := k, snap := { order7.snap with tx := 3, primary := 4 } })) hall0

theorem witness_AManualOrderIsCreated :
    (let s := withOrders [order7] hall0
     let c : Candidate := { origin := .manual, snap := manualSnapshot manual7, start := 9599, ends := 95999 }
     Meets s ∧ s.pins.key = .remote ∧ s.clock.time = some 6000 ∧ (s.chg.orders.map (·.id)).Nodup ∧
     firstBad (snapRanges manual7.service manual7.tx manual7.freq manual7.primary manual7.alternate manual7.azimuth
       manual7.power manual7.mode manual7.priority) = none ∧
     programmeFault s { manualSnapshot manual7 with alternate := manual7.alternate } = none ∧
     6000 ≤ 9599 ∧ 9599 ≤ 6000 + 86400 ∧ 9599 < 95999 ∧ 95999 ≤ 9599 + 86400 ∧ 6000 + 60 * s.hall.par.cutoff < 95999 ∧
     (admissionFault s c).isNone = true ∧ conflicts 1 2 9599 95999 order7 = true) ∧
    ((admissionFault hall0 occ1.candidate).isNone = true ∧ deferred? hall0 occ1.origin = false ∧
      live? hall0 occ1.origin = false ∧ now hall0 ≤ occ1.start ∧ (occurrence .a (entryRecord put1) 5400).start < now hall0) ∧
    deferred? (hall0.onStaging (fun g => { g with deferred := [occ1] })) occ1.origin = true ∧
    live? (withOrders [{ order7 with origin := occ1.origin }] hall0) occ1.origin = true ∧
    admissionFault (hall0.onHall (fun h => { h with tx := some { tx1 with inhibited := true } :: h.tx.drop 1 })) occ1.candidate =
      some (.unavailable .standby) ∧
    admissionFault (withOrders [order7] hall0) occ1.candidate = some (.conflict 7) ∧
    (admissionFault fullTable occ1.candidate = some .full ∧ fullTable.staging.deferred.length < 16) ∧
    (let s := fullTable.onStaging (fun g => { g with deferred := List.replicate 16 { occ1 with start := 7260 } })
     admissionFault s occ1.candidate = some .full ∧ 16 ≤ s.staging.deferred.length ∧ deferred? s occ1.origin = false) :=
  ⟨⟨meets (by decide +kernel), by decide +kernel⟩, by and_intros <;> decide +kernel⟩

/-- Order 8 follows order 7 on its transmitter, antenna and frequency. -/
def follows : State :=
  onAir.onChg (fun c => { c with orders := c.orders ++ [{ order7 with id := 8, start := 9600, ends := 12000 }] })

theorem witness_ACancelEndsOrClosesTheOrder :
    (Meets onAir ∧ 1 ≤ 7 ∧ 7 ≤ 65535 ∧ (onAir.chg.orders.map (·.id)).Nodup ∧ order? onAir 65535 = none ∧
      (order? onAir 7).map (·.stage) = some .onAir ∧ onAir.pins.key = .remote ∧
      (order? onAir 7).bind (successor? onAir) = none) ∧
    (let s := withOrders [at7 .closing] routed
     Meets s ∧ (order? s 7).map (·.stage) = some .closing) ∧
    (Meets (keyLocal onAir) ∧ (order? (keyLocal onAir) 7).map (·.stage) = some .onAir ∧ (keyLocal onAir).pins.key = .local) ∧
    (let s := withOrders [order7, { order7 with id := 8, preempting := some 7 }] hall0
     Meets s ∧ (order? s 7).map (·.stage) = some .staged ∧ (s.chg.orders.map (·.id)).Nodup) ∧
    (Meets follows ∧ (follows.chg.orders.map (·.id)).Nodup ∧
      ((order? follows 7).bind (successor? follows)).map (·.id) = some 8 ∧ (order? follows 7).bind (·.antenna) = some 2) :=
  ⟨⟨meets_onAir, by decide +kernel⟩, ⟨meets (by decide +kernel), by decide +kernel⟩,
    ⟨meets (by decide +kernel), by decide +kernel⟩, ⟨meets (by decide +kernel), by decide +kernel⟩,
    ⟨meets (by decide +kernel), by decide +kernel⟩⟩

/-- Order 7 is STAGED, its prepare instant come. -/
def staged : State := withOrders [order7] hall0

theorem witness_PreparationChoosesAntennaAndTune :
    (Meets staged ∧ order? staged 7 = some order7 ∧ preparesNow staged order7 = true ∧
      (txCtl staged 1).state ≠ .offline ∧ (txCtl staged 1).state ≠ .lockedOut ∧ chooseAntenna staged order7 = some 2) ∧
    (let s := updDir 2 (fun d => { d with suspect := true }) staged
     Meets s ∧ preparesNow s order7 = true ∧ chooseAntenna s order7 = some 1) ∧
    (let s := updDir 1 (fun d => { d with inhibited := true }) (updDir 2 (fun d => { d with suspect := true }) staged)
     Meets s ∧ preparesNow s order7 = true ∧ chooseAntenna s order7 = none) ∧
    (let o := { order7 with prepare := 6001 }
     let s := withOrders [o] hall0
     Meets s ∧ order? s 7 = some o ∧ preparesNow s o = false) ∧
    (let s := updTx 1 (fun x => { x with state := .cold }) staged
     Meets s ∧ (txCtl s 1).state = .cold ∧ preparesNow s order7 = true) ∧
    (∀ st ∈ [TxState.offline, .lockedOut],
      let s := updTx 1 (fun x => { x with state := st }) staged
      fit s = true ∧ (txCtl s 1).state = st ∧ preparesNow s order7 = true) ∧
    (1 ≤ 7 ∧ 7 ≤ 65535 ∧ order7.stage = .staged ∧ staged.pins.key = .remote ∧ order7.origin = .manual ∧
      isFree staged 1 7 = true ∧ ∀ p ∈ ordersOf staged 1, p.id ≠ 7 → p.stage = .staged → order7.start ≤ p.start) :=
  ⟨⟨meets (by decide +kernel), by decide +kernel⟩, ⟨meets (by decide +kernel), by decide +kernel⟩,
    ⟨meets (by decide +kernel), by decide +kernel⟩, ⟨meets (by decide +kernel), by decide +kernel⟩,
    ⟨meets (by decide +kernel), by decide +kernel⟩, by decide +kernel, by decide +kernel⟩

/-- Order 7 alone on its row, in a stage. -/
def alone (o : Order) : State := withOrders [o] routed

theorem witness_RampEndAndCarrierOffTimeoutActOnTheirOrder :
    (let o := { at7 .ramping with stageSecs := 10, stageLen := 10 }
     Meets (alone o) ∧ order? (alone o) 7 = some o ∧ o.stageLen ≤ o.stageSecs ∧ (alone o).pins.key = .remote) ∧
    (let o := { at7 .ramping with stageSecs := 9, stageLen := 10 }
     Meets (alone o) ∧ order? (alone o) 7 = some o ∧ o.stageSecs < o.stageLen) ∧
    (let o := { at7 .closing with work := { carrierOff := true }, closeTimer := some 0 }
     Meets (alone o) ∧ order? (alone o) 7 = some o) ∧
    (let o := { at7 .closing with work := { carrierOff := true }, closeTimer := some 1 }
     Meets (alone o) ∧ order? (alone o) 7 = some o ∧ o.closeTimer ≠ some 0) :=
  ⟨⟨meets (by decide +kernel), by decide +kernel⟩, ⟨meets (by decide +kernel), by decide +kernel⟩,
    ⟨meets (by decide +kernel), by decide +kernel⟩, ⟨meets (by decide +kernel), by decide +kernel⟩⟩

/-- Order 7 at the step of a stage: nothing in hand, its slew asked for. -/
def stepping (st : Stage) : Order := { at7 st with slewAsked := true }

/-- Nothing blocks order 7, alone on its row. -/
def free (o : Order) : Bool := order? (alone o) 7 == some o && !blocked (alone o) o && o.slewAsked

theorem witness_AnOrderTakesTheStepItsStageCallsFor :
    (free { stepping .warming with work := { warmUp := true } } = true ∧ free (stepping .warming) = true) ∧
    (let s := updXp 1 34 (fun x => { x with state := .stuck }) (alone (stepping .clearing))
     order? s 7 = some (stepping .clearing) ∧ blocked s (stepping .clearing) = false ∧ rowWhere s 1 (· == .stuck) ≠ []) ∧
    (let s := updTx 1 (fun x => { x with telemetry := some { reply := loud 0 0, second := none } }) (alone (stepping .clearing))
     fit (judgePermits s) = true ∧ order? s 7 = some (stepping .clearing) ∧ rowWhere s 1 (· == .stuck) = [] ∧
     reportsOn s 1 = true ∧ (stepping .clearing).work.carrierOff = false) ∧
    (let o := stepping .clearing
     let s := alone o
     free o = true ∧ rowWhere s 1 (· == .stuck) = [] ∧ rowWhere s 1 (· == .unknown) = [] ∧ reportsOff s 1 = true ∧
     moveOutstanding s 7 = false ∧ rowWhere s 1 XpState.moving = [2] ∧ (xpAt s 1 2).state = .closed ∧
     o.tuneKind ≠ some .search ∧ o.antenna = some 2) ∧
    (let o := stepping .tuning
     free o = true ∧ o.work.tune = false ∧ o.work.load = false ∧ o.tuneKind ≠ some .search ∧
     moveOutstanding (alone o) 7 = false ∧ o.load = none ∧ o.claimDue = false) ∧
    (let o := stepping .routing
     free o = true ∧ (xpAt (alone o) 1 2).state = .closed ∧ moveOutstanding (alone o) 7 = false) ∧
    (let o := { stepping .poised with start := 6014 }
     free o = true ∧ now (alone o) + (alone o).hall.par.proveTime + rampOf (alone o) 1 < o.start) ∧
    (let o := { stepping .poised with start := 6013 }
     free o = true ∧ o.start ≤ now (alone o) + (alone o).hall.par.proveTime + rampOf (alone o) 1 ∧
     (alone o).pins.chainClosed = true) ∧
    claimHeld hall0 order7 = false ∧
    (within tx1.low tx1.high 17905 = false ∧ ModeSet.has tx1.modes .rcam = false) ∧
    (let o := { at7 .tuning with tuneKind := some .preset }
     free { o with slewAsked := true } = true ∧ txRec? (alone o) 1 = some tx1 ∧ within tx1.low tx1.high o.snap.freq = true ∧
     ModeSet.has tx1.modes o.snap.mode = true ∧ presetHit (alone o) 1 o.snap.freq = none) ∧
    (let o := { at7 .tuning with antenna := some 1, snap := { order7.snap with azimuth := some 122 } }
     let s := updDir 1 (fun d => { d with state := .reserved, claiming := some 7 }) (alone o)
     order? s 7 = some o ∧ blocked s o = false ∧ Stage.between .warming .poised o.stage = true ∧ o.claimDue = false ∧
     claimHeld s o = true ∧ (rotatorPart? s 1).isSome = true ∧
     ∀ k ∈ rotator? s 1, k.slew = .idle ∧ ∀ q ∈ rotatorPart? s 1, atTarget q k 122 = false) :=
  by and_intros <;> decide +kernel

theorem witness_AFailedOrderClosesAndMayBeRescued :
    (order? staged 7 = some order7 ∧ order7.stage = .staged) ∧
    (order? (alone (at7 .routing)) 7 = some (at7 .routing) ∧ (alone (at7 .routing)).pins.key = .remote) ∧
    (order? (keyLocal (alone (at7 .routing))) 7 = some (at7 .routing) ∧ (keyLocal (alone (at7 .routing))).pins.key = .local) ∧
    (let o := { at7 .closing with outcomeDue := some .failed, failure := some .routeStuck, rescues := 1 }
     order? (alone o) 7 = some o ∧ rescueFor (alone o) o = some (1, 1)) ∧
    (let o := { at7 .closing with outcomeDue := some .failed, failure := some .routeStuck, rescues := 2 }
     order? (alone o) 7 = some o ∧ rescueFor (alone o) o = none) := by
  decide +kernel

/-! ### Premises met: the directory and the matrix -/

/-- Antenna 1's rotator has FAILED, and its cause is past. -/
def failed1 : State :=
  hall0 |> updRotator 1 (fun r => { r with slew := .failed }) |> updDir 1 (fun d => { d with faultRotator := true })

/-- Order 7 among the orders of a hall whose column 2 stands so: its record, and its crosspoints on rows 1 and 2. -/
def column2 (d : DirRec) (x y : XpState) : State :=
  hall0 |> updDir 2 (fun _ => d) |> updXp 1 2 (fun k => { k with state := x }) |> updXp 2 2 (fun k => { k with state := y })
  |> withOrders [order7, { order7 with id := 8, snap := { order7.snap with tx := 2 } }]

theorem witness_AntFlagsChangesTheFlagNamed :
    (Meets failed1 ∧ 17179869183 < 17179869184 ∧ (maskBit 1 32 = false ∧ maskBit 1 33 = false) ∧
      (∀ c ∈ upTo 34, maskBit 17179869183 (c - 1) = true → faultPersists failed1 c = false) ∧
      (∀ r ∈ rotator? failed1 1, r.slew = .failed)) ∧
    (∀ x ∈ ([({}, .opened, .stuck), ({}, .opened, .opened), ({ state := .parked, owner := some 1 }, .closed, .opened),
          ({ state := .parked, owner := some 2 }, .opened, .closed), ({ state := .parked, owner := some 2 }, .unknown, .closed),
          ({ state := .parked, owner := some 2, handover := some 8 }, .opened, .closed),
          ({ state := .reserved, claiming := some 8 }, .opened, .opened), ({ state := .unresolved }, .unknown, .opened),
          ({ state := .assigned, owner := some 2, claiming := some 8 }, .opened, .closed)] : List (DirRec × XpState × XpState)),
      let s := column2 x.1 x.2.1 x.2.2
      fit s = true ∧ order? s 7 = some order7 ∧ dirRec s 2 = x.1 ∧ x.1.claiming ≠ some 7 ∧ x.1.handover ≠ some 7 ∧
      7 ∉ x.1.waiting ∧ colWhere s 2 (· == .stuck) = (if x.2.2 = .stuck then [2] else []) ∧
      colWhere s 2 (· == .unknown) = (if x.2.1 = .unknown then [1] else [])) ∧
    (let s := column2 {} .opened .opened
     7 ∉ [8] ∧ (order? s 8).isSome = true ∧
     [8].Pairwise (fun x y => ∀ p ∈ order? s x, ∀ q ∈ order? s y, Order.before p q = true)) ∧
    (∀ x ∈ ([({ state := .reserved, claiming := some 7 }, .opened), ({ state := .assigned, owner := some 1, claiming := some 7 }, .closed),
          ({ state := .assigned, owner := some 1, claiming := some 7, waiting := [8] }, .closed),
          ({ state := .assigned, owner := some 1, claiming := some 7 }, .opening),
          ({ state := .reserved, claiming := some 8 }, .opened)] : List (DirRec × XpState)),
      let s := column2 x.1 x.2 .opened
      fit s = true ∧ rowOfOrder s 7 = some 1 ∧ dirRec s 2 = x.1 ∧ (xpAt s 1 2).state = x.2 ∧ x.1.handover = none ∧
      colWhere s 2 XpState.active = (if x.2 = .opened then [] else [1]) ∧ colWhere s 2 (· == .unknown) = [] ∧
      (order? s 8).map (·.snap.tx) = some 2) ∧
    (let s := updDir 33 (fun d => { d with inhibited := true }) (updDir 34 (fun d => { d with faultStuck := true }) hall0)
     fit s = true ∧ grantable s 33 = false ∧ grantable s 34 = false) ∧
    (let s := (column2 {} .opened .opened).onDir (fun d => { d with loadWait := [7, 8] })
     fit s = true ∧ s.dir.loadWait = order7.id :: [8] ∧ order? s order7.id = some order7 ∧
     [33, 34].find? (grantable s) = some 33) :=
  ⟨⟨meets (by decide +kernel), by decide +kernel⟩, by and_intros <;> decide +kernel⟩

theorem witness_XpRequestsActOnTheCrosspointsNamed :
    Meets hall0 ∧ (xpAt hall0 16 34).state = .opened ∧
    (let s := judgePermits (updXp 16 34 (fun x => { x with state := .stuck }) hall0)
     Meets s ∧ (xpAt s 16 34).state = .stuck ∧ closedContradicts s 16 34 = false) ∧
    (let s := judgePermits (updXp 16 34 (fun x => { x with state := .unknown })
       (updXp 1 34 (fun x => { x with state := .closed }) hall0))
     Meets s ∧ (xpAt s 16 34).state = .unknown ∧ closedContradicts s 16 34 = true) :=
  ⟨meets_hall0, by decide +kernel, ⟨meets (by decide +kernel), by decide +kernel⟩,
    ⟨meets (by decide +kernel), by decide +kernel⟩⟩

/-- Order 7 asks for its crosspoint, and a NORMAL request waits behind it. -/
def asked : State :=
  hall0.onMx (fun m => { m with queue :=
    [{ row := 2, col := 34, dir := .close, essential := false, arrival := 0, who := [.order 8] },
     { row := 1, col := 2, dir := .close, essential := true, arrival := 1, who := [.order 7] }] })

theorem witness_AMovementStartsOnlyForAnEligibleRequest :
    (Meets asked ∧ 0 < creditsFree asked ∧ ((grantOrder asked).find? (eligible asked)).map (·.col) = some 2 ∧
      txRec? asked 1 = some tx1 ∧ (unitAt asked 2).state = .alive) ∧
    (let s := asked.onHall (fun h => { h with par := { h.par with credits := 0 } })
     Meets s ∧ creditsFree s = 0) ∧
    (Meets hall0 ∧ ∀ q ∈ hall0.mx.queue, eligible hall0 q = false) :=
  ⟨⟨meets (by decide +kernel), by decide +kernel⟩, ⟨meets (by decide +kernel), by decide +kernel⟩,
    ⟨meets_hall0, by decide +kernel⟩⟩

/-- A movement that closes 16/34, with its timer. -/
def moving (timer : Nat) : State :=
  updXp 16 34 (fun x => { x with state := .closing }) hall0
  |> State.onMx (fun m => { m with movements := [{ row := 16, col := 34, dir := .close, timer := timer, who := [], cmd := 1 }] })

/-- Crosspoint 1/2 is UNKNOWN, with a movement whose timer has run out, in a column with a record `d`. -/
def lost (d : DirRec) : State :=
  let m : Movement := { row := 1, col := 2, dir := .close, timer := 0, who := [], cmd := 5 }
  judgePermits (updDir 2 (fun _ => d) (updXp 1 2 (fun x => { x with state := .unknown }) hall0)
    |> State.onMx (fun x => { x with movements := [m] }))

theorem witness_AMovementTimesOutIntoStuck :
    (Meets (moving 0) ∧ (movementAt? (moving 0) 16 34).map (·.timer) = some 0) ∧
    (Meets (moving 1) ∧ (movementAt? (moving 1) 16 34).map (·.timer) = some 1) ∧
    (∀ d ∈ ([{ state := .parked, owner := some 2, handover := some 7 },
          { state := .unresolved, claiming := some 7 }] : List DirRec),
      let s := lost d
      fit s = true ∧ (movementAt? s 1 2).map (·.timer) = some 0 ∧ dirRec s 2 = d) ∧
    (Meets hall0 ∧ movementAt? hall0 1 1 = none) :=
  ⟨⟨meets (by decide +kernel), by decide +kernel⟩, ⟨meets (by decide +kernel), by decide +kernel⟩,
    by decide +kernel, ⟨meets_hall0, by decide +kernel⟩⟩

/-- The rotator of antenna 1 as `f` leaves it. -/
def turned (f : Rotator → Rotator) : State := updRotator 1 f hall0

theorem witness_ASlewStartsAndTimesOut :
    (let s := updDir 1 (fun d => { d with state := .reserved, claiming := some 7 }) (turned (fun r => { r with waiting := some (155, 7) }))
     Meets s ∧ (rotator? s 1).isSome = true ∧ slewMayStart s 1 7 = true ∧ (rotatorPart? s 1).map (·.aru) = some 3 ∧
     (unitAt s 3).state = .alive ∧ s.pins.key = .remote) ∧
    (let s := turned (fun r => { r with waiting := some (155, 7) })
     Meets s ∧ slewMayStart s 1 7 = false) ∧
    (let s := turned (fun r => { r with slew := .slewing, target := some 155, timer := some 0 })
     Meets s ∧ (rotator? s 1).map (fun r => (r.slew, r.timer)) = some (.slewing, some 0)) ∧
    (let s := turned (fun r => { r with slew := .slewing, target := some 155, timer := some 1 })
     Meets s ∧ (rotator? s 1).map (fun r => (r.slew, r.timer)) = some (.slewing, some 1)) :=
  ⟨⟨meets (by decide +kernel), by decide +kernel⟩, ⟨meets (by decide +kernel), by decide +kernel⟩,
    ⟨meets (by decide +kernel), by decide +kernel⟩, ⟨meets (by decide +kernel), by decide +kernel⟩⟩

/-! ### Premises met: transmitters and protection -/

/-- Transmitter 1 as `f` leaves it. -/
def txIn (f : TxCtl → TxCtl) : State := updTx 1 f hall0

theorem witness_TransmitterRequestsActOnTheTransmittersNamed :
    Meets hall0 ∧ (1 ≤ 3 ∧ 3 ≤ 3 ∧ 65535 < 65536) ∧ (txCtl hall0 16).state ≠ .lockedOut ∧
    (let s := txIn (fun x => { x with state := .lockedOut })
     Meets s ∧ (txCtl s 1).state = .lockedOut) ∧
    (let cool : Telemetry := { reply := { loud 0 0 with filament := .heating, carrierOn := false }, second := some 5900 }
     let s := txIn (fun x => { x with state := .lockedOut, warm := none, telemetry := some cool })
     Meets s ∧ (txCtl s 1).state = .lockedOut ∧ derivedState s 1 = .warming ∧ (txCtl s 1).warm = none) :=
  ⟨meets_hall0, by decide, by decide +kernel, ⟨meets (by decide +kernel), by decide +kernel⟩,
    meets (by decide +kernel), by decide +kernel⟩

/-- A warm-up record whose timer has run out, with order 7 waiting. -/
def warm7 : WarmUp := { start := some 5000, timer := some 0, waiting := [7], cmd := none }

theorem witness_TransmitterTimersActWhenTheyRunOut :
    (let s := txIn (fun x => { x with state := .warming, warm := some warm7 })
     Meets s ∧ (txCtl s 1).warm = some warm7 ∧ s.pins.key = .remote ∧ tluAlive s 1 = true) ∧
    (Meets hall0 ∧ (txCtl hall0 16).warm.bind (·.timer) ≠ some 0 ∧ (txCtl hall0 16).blind ≠ some 0) ∧
    (let s := txIn (fun x => { x with idle := 3600, coolDue := true })
     Meets s ∧ coolDownDue s 1 = true) ∧
    (let s := txIn (fun x => { x with idle := 3599 })
     Meets s ∧ coolDownDue s 1 = false) ∧
    (let s := (txIn (fun x => { x with idle := 3600, coolDue := true })).onHall
       (fun h => { h with par := { h.par with coolHold := 0 } })
     Meets s ∧ s.hall.par.coolHold = 0) ∧
    (let s := txIn (fun x => { x with state := .on, blind := some 0 })
     Meets s ∧ (txCtl s 1).blind = some 0 ∧ (txCtl s 1).state ≠ .lockedOut) :=
  ⟨⟨meets (by decide +kernel), by decide +kernel⟩, ⟨meets_hall0, by decide +kernel⟩,
    ⟨meets (by decide +kernel), by decide +kernel⟩, ⟨meets (by decide +kernel), by decide +kernel⟩,
    ⟨meets (by decide +kernel), rfl⟩, ⟨meets (by decide +kernel), by decide +kernel⟩⟩

/-- A tune in hand of order 7 with its timer. -/
def tuneOf7 (kind : InHandKind) (timer : Nat) : TuneInHand :=
  { kind := kind, freq := 9410, mode := .am, index := 7, verified := true, order := some 7, timer := some timer, held := false
    acked := true, reading := false, cmd := none }

/-- Transmitter 1 is TUNING. -/
def tuning (kind : InHandKind) (timer : Nat) : State :=
  judgePermits (txIn (fun x => { x with state := .tuning, tune := some (tuneOf7 kind timer) }))

theorem witness_ATuneTimesOut :
    (Meets (tuning .search 0) ∧ (txCtl (tuning .search 0) 1).tune = some (tuneOf7 .search 0) ∧
      (tuning .search 0).pins.key = .remote) ∧
    (Meets (tuning .search 1) ∧ (txCtl (tuning .search 1) 1).tune = some (tuneOf7 .search 1)) ∧
    (Meets (tuning .preset 0) ∧ (txCtl (tuning .preset 0) 1).tune = some (tuneOf7 .preset 0)) ∧
    (Meets (tuning .preset 1) ∧ (txCtl (tuning .preset 1) 1).tune = some (tuneOf7 .preset 1)) :=
  ⟨⟨meets (by decide +kernel), by decide +kernel⟩, ⟨meets (by decide +kernel), by decide +kernel⟩,
    ⟨meets (by decide +kernel), by decide +kernel⟩, ⟨meets (by decide +kernel), by decide +kernel⟩⟩

/-- Order 7 recovers from a trip, with its trip times, and the delay that runs. -/
def recovering (kind : TripKind) (timer : Nat) (l : List Nat) : State :=
  alone { at7 .recovering with recovery := some .trip, tripTimes := l, lastTrip := some (kind, .onAir) }
  |> updProt 1 (fun p => { p with recovery := some { order := 7, kind := kind, stage := .onAir, timer := timer }
                                  trips := l.map (fun t => { second := t, kind := kind }) })

/-- Order 7 in PROVING on an unproven preset, judged at the end of the prove time. -/
def proving (unproven : Bool) : State :=
  alone { at7 .proving with sampled := true, stageSecs := 3, stageLen := 3 }
  |> updProt 1 (fun p => { p with base := some 2500, sent := 250, acked := 250, unproven := unproven })

/-- Order 7 in its carrier stage on transmitter 1 and antenna 2, and the verdict on a sample of it. -/
def judged (s : State) (st : Stage) (r : TluReply) (drop : Bool) (v : Verdict) : Bool :=
  decide (s.sizes = Sizes.whole ∧ (txCtl s 1).blind = none ∧ (antRec? s 2).map (fun a => (a.warn, a.trip)) = some (40, 110)) &&
  (carrierOrder? s 1).any (fun o => decide (o.stage = st ∧ order? s o.id = some o ∧ o.antenna = some 2 ∧ verdict s o r drop = v))

theorem witness_ARecoveryDelayEndsInProveOrLockout :
    (let s := recovering .vswr 0 [5990, 5998]
     Meets s ∧ tripCount s 1 (some 7) .vswr < s.hall.par.tripLimit ∧ (order? s 7).map (·.stage) = some .recovering ∧
     s.pins.key = .remote ∧ s.pins.chainClosed = true) ∧
    (let s := judgePermits ((recovering .vswr 0 [5998]).onPins (fun p => { p with chainClosed := false }))
     Meets s ∧ tripCount s 1 (some 7) .vswr < s.hall.par.tripLimit ∧ s.pins.chainClosed = false) ∧
    (let s := keyLocal (recovering .vswr 0 [5998])
     Meets s ∧ tripCount s 1 (some 7) .vswr < s.hall.par.tripLimit ∧ s.pins.key = .local) ∧
    (let s := recovering .vswr 0 [5940, 5990, 5998]
     Meets s ∧ s.hall.par.tripLimit ≤ tripCount s 1 (some 7) .vswr) ∧
    (let s := recovering .txFault 0 [5940, 5990, 5998]
     Meets s ∧ s.hall.par.tripLimit ≤ tripCount s 1 (some 7) .txFault) ∧
    (Meets (recovering .vswr 1 [5998]) ∧ (protRec (recovering .vswr 1 [5998]) 1).recovery.map (·.timer) = some 1) ∧
    (judged (proving true) .proving (loud 250 10) false .proveFailure = true ∧
     judged onAir .onAir (loud 2500 275) false (.trip .vswr none) = true ∧
     judged onAir .onAir { loud 2500 274 with fault := 9 } false (.trip .txFault (some 9)) = true ∧
     judged onAir .onAir (loud 2500 0) true (.trip .txFault (some 0)) = true ∧
     judged (proving false) .proving (loud 9 0) false (.trip .txFault (some 0)) = true ∧
     judged (proving false) .proving (loud 250 9) false .clean = true ∧ judged onAir .onAir (loud 2500 274) false .clean = true ∧
     judged (alone (at7 .proving)) .proving (loud 250 10) false .clean = true ∧
     judged (keyLocal onAir) .onAir (loud 2500 275) false (.trip .vswr none) = true ∧
     judged (updProt 1 (fun p => { p with latch := true }) (keyLocal onAir)) .onAir (loud 2500 275) false (.trip .vswr none) = true) :=
  ⟨⟨meets (by decide +kernel), by decide +kernel⟩, ⟨meets (by decide +kernel), by decide +kernel⟩,
    ⟨meets (by decide +kernel), by decide +kernel⟩, ⟨meets (by decide +kernel), by decide +kernel⟩,
    ⟨meets (by decide +kernel), by decide +kernel⟩, ⟨meets (by decide +kernel), by decide +kernel⟩, by decide +kernel⟩

/-! ### Premises met: the Field Line -/

theorem witness_ATluReplyIsWrittenAndGivesTheState :
    let s := polling 1 hall0
    Meets s ∧ s.line.txn = some { addr := 1, fn := .poll, retry := false, live := true, rate := 1, window := 20 } ∧
    (unitAt s 1).kind = some .tlu ∧ (unitAt s 1).owner = 1 ∧ tluReplyOk (loud 65000 65000) = true ∧
    txRec? s 1 = some tx1 ∧ ordersOf s 1 = [] ∧ (txCtl s 1).tune = none ∧ (txCtl s 1).warm = none ∧
    (txCtl s 1).offReq = .none ∧ (txCtl s 1).state ≠ .lockedOut ∧ (txCtl s 1).state ≠ .tripped :=
  ⟨meets (by decide +kernel), by decide +kernel⟩

/-- Positions in which every switch of a row but one stands open. -/
def positionsWith (c : Nat) (p : SwitchPos) : List SwitchPos := (upTo 34).map (fun k => if k = c then p else .opened)

theorem witness_MatrixPollRepliesBringTheRecordsUpToDate :
    (let s := polling 2 (updXp 1 34 (fun x => { x with state := .closing }) hall0)
     Meets s ∧ (unitAt s 2).kind = some .mdu ∧ (unitAt s 2).owner = 1 ∧ (positionsWith 34 .closed).length = 34 ∧
     ∀ c ∈ upTo 34, nth (positionsWith 34 .closed) c = some .closed → (xpAt s 1 c).state ≠ .opened ∧ (xpAt s 1 c).state ≠ .unknown) ∧
    (let s := polling 2 (updXp 2 9 (fun x => { x with state := .closed }) hall0)
     let positions := (upTo 34).map (fun c => if c = 8 || c = 9 then SwitchPos.closed else .opened)
     Meets s ∧ (unitAt s 2).kind = some .mdu ∧ (unitAt s 2).owner = 1 ∧ positions.length = 34 ∧
     nth positions 8 = some .closed ∧ nth positions 9 = some .closed ∧ (xpAt s 1 9).state = .opened ∧
     (xpAt s 2 9).state.active = true) ∧
    (let s := polling 3 hall0
     Meets s ∧ (unitAt s 3).kind = some .aru ∧ (unitAt s 3).owner = 1 ∧ (rotatorPart? s 1).isSome = true ∧
     (rotator? s 1).map (·.slew) = some .idle) ∧
    (let s := polling 3 (turned (fun r => { r with slew := .slewing, target := some 340 }))
     let p : RotatorPart := { aru := 3, continuous := false, stopLow := some 0, stopHigh := some 340, rate := 10 }
     Meets s ∧ (rotator? s 1).map (·.slew) = some .slewing ∧ rotatorPart? s 1 = some p ∧ p.distance 339 340 ≤ 1 ∧
     1 < p.distance 338 340 ∧ 359 ≤ 359) ∧
    (∀ x ∈ ([({}, .opened, []), ({ state := .reserved, claiming := some 7 }, .opened, []),
          ({ state := .reserved, claiming := some 8 }, .opened, []), ({}, .opened, [34]),
          ({ state := .parked, owner := some 2 }, .closed, [])] : List (DirRec × XpState × List Nat)),
      let s := column2 x.1 .unknown x.2.1
      fit s = true ∧ (xpAt s 1 2).state = .unknown ∧ (dirRec s 2).claiming = x.1.claiming ∧ (dirRec s 2).handover = none ∧
      (colWhere s 2 XpState.active).filter (· != 1) = (if x.2.1 = .closed then [2] else []) ∧
      (∀ k ∈ x.2.2, 1 ≤ k ∧ k ≤ 34 ∧ k ≠ 2) ∧ rowOfOrder s 7 = some 1 ∧ rowOfOrder s 8 = some 2) :=
  ⟨⟨meets (by decide +kernel), by decide +kernel⟩, ⟨meets (by decide +kernel), by decide +kernel⟩,
    ⟨meets (by decide +kernel), by decide +kernel⟩, ⟨meets (by decide +kernel), by decide +kernel⟩, by decide +kernel⟩

/-- The line awaits the answer of a command at TLU 1. -/
def commanding (fn : CmdFn) (retry : Bool) (misses : Nat) : State :=
  hall0 |> updUnit 1 (fun u => { u with misses := misses })
  |> State.onLine (fun l => { l with txn := some { addr := 1, fn := .command (cmdOf fn false 1 5), retry := retry, live := true, rate := 1, window := 20 } })

/-- A MOVE that closes 1/2 awaits its answer. -/
def commandingMove : State :=
  let m : Movement := { row := 1, col := 2, dir := .close, timer := 12, who := [], cmd := 5 }
  commanding (.move 2 .close) false 0 |> updXp 1 2 (fun x => { x with state := .closing })
  |> State.onMx (fun x => { x with movements := [m] })

theorem witness_MissesAndCommandAnswersAreTaken :
    (let s := updUnit 1 (fun u => { u with misses := 1 }) (polling 1 hall0)
     Meets s ∧ (unitAt s 1).state = .alive ∧ (unitAt s 1).misses < 2) ∧
    (Meets (commanding (.setpoint 2500) false 1) ∧ (unitAt (commanding (.setpoint 2500) false 1) 1).misses < 2) ∧
    (Meets (commanding (.setpoint 2500) true 1) ∧ (unitAt (commanding (.setpoint 2500) true 1) 1).misses < 2) ∧
    (Meets (commanding (.setpoint 2500) true 2) ∧ 2 ≤ (unitAt (commanding (.setpoint 2500) true 2) 1).misses) ∧
    answerOk (CmdFn.setpoint 2500).toCode (.ack []) = true ∧ answerOk (CmdFn.mode .dig).toCode (.ack []) = true ∧
    answerOk (CmdFn.carrierOn 250).toCode (.ack []) = true ∧ answerOk (CmdFn.move 2 .close).toCode (.nak 1) = true ∧
    (Meets commandingMove ∧ (commandingMove.mx.movements.find? (fun v => v.cmd == 5)).isSome = true ∧
      (xpAt commandingMove 1 2).state.inFlight = true) :=
  ⟨⟨meets (by decide +kernel), by decide +kernel⟩, ⟨meets (by decide +kernel), by decide +kernel⟩,
    ⟨meets (by decide +kernel), by decide +kernel⟩, ⟨meets (by decide +kernel), by decide +kernel⟩,
    by decide, by decide, by decide, by decide, ⟨meets (by decide +kernel), by decide +kernel⟩⟩

/-! ### Premises met: reporting, the Table Store, power, restarts and the inputs -/

theorem witness_ReportingRequestsChangeWhatTheyName :
    Meets tuned7 ∧ (1 ≤ 3 ∧ 3 ≤ 3 ∧ 4095 < 4096) ∧ (StatClass.ofCode 1 = some .none ∧ 0 < 2 ^ StatClass.none.width) ∧
    (StatClass.ofCode 2 = some .directory ∧ 511 < 2 ^ StatClass.directory.width ∧ (511 = 0 ↔ StatClass.directory = .none)) ∧
    (1 ≤ 255 ∧ 255 ≤ 255) ∧ freqOk 9725 = true ∧ presetHit tuned7 1 9725 = none ∧ presetHit tuned7 1 9410 = some preset7 :=
  ⟨meets (by decide +kernel), by decide +kernel⟩

theorem witness_ACompletedStoreComesBackAtPowerOn : Meets onAir ∧ Meets worn := ⟨meets_onAir, meets (by decide +kernel)⟩

theorem witness_PowerIsLostAndReturns :
    onAir.pins.powered = true ∧
    (let s := after .powerLoss onAir
     s.pins.powered = false ∧ s.store.slot1 = .bad ∧ s.store.slot2 = .bad) ∧
    (let s := after .powerLoss (after .storeWriteComplete (after (.store 1) onAir))
     s.pins.powered = false ∧ s.store.latest = some (true, 1, imageOf onAir) ∧ s.store.slot2 = .bad) ∧
    (let t : Store := { slot1 := .good 1 (imageOf onAir), slot2 := .good 4294967295 (imageOf hall0) }
     t.latest = some (true, 1, imageOf onAir) ∧ t.slot1 ≠ .bad ∧ t.slot2 ≠ .bad) := by
  decide +kernel

theorem witness_ARestartClearsTheOrders :
    (Meets onAir ∧ (onAir.chg.orders.map (·.id)).Nodup ∧ onAir.pins.key = .remote) ∧
    (Meets (keyLocal onAir) ∧ (keyLocal onAir).pins.key = .local) :=
  ⟨⟨meets_onAir, by decide +kernel⟩, meets (by decide +kernel), rfl⟩

theorem witness_TheHallKeyTurns :
    (Meets onAir ∧ onAir.pins.key = .remote ∧ onAir.pins.chainClosed = true) ∧
    (Meets (keyLocal onAir) ∧ (keyLocal onAir).pins.key = .local) ∧
    (∀ o ∈ [at7 .closing, { at7 .routing with localFailure := true, failure := some .routeStuck },
        { at7 .routing with ends := 6000 }, { at7 .onAir with ends := 6000, firstOnAir := some 5900 },
        { order7 with ends := 6000 }, { at7 .routing with ends := 6120 }, { at7 .onAir with preemptedBy := some 8 },
        { order7 with preemptedBy := some 8 }, { at7 .onAir with firstOnAir := some 5900 },
        { at7 .recovering with recovery := some .safety }],
      let s := judgePermits ((alone o).onChg (fun c => { c with orders := c.orders ++ [{ order7 with id := 8, start := 9000 }] }))
      fit s = true ∧ order? s 7 = some o ∧ s.pins.key = .remote ∧ s.pins.chainClosed = true ∧ now s = 6000 ∧
      60 * s.hall.par.cutoff = 120 ∧ readoptPreempts s o = o.preemptedBy.isSome) ∧
    ∀ st ∈ [Stage.proving, .ramping, .onAir, .recovering],
      let o := { at7 st with firstOnAir := some 5900, recovery := some .trip }
      let s := judgePermits ((alone o).onPins (fun p => { p with chainClosed := false }))
      fit s = true ∧ order? s 7 = some o ∧ s.pins.chainClosed = false ∧ now s < o.ends ∧ readoptPreempts s o = false ∧
      (st.carrier = true ∨ st = .recovering) :=
  ⟨⟨meets_onAir, rfl, rfl⟩, ⟨meets (by decide +kernel), rfl⟩, by decide +kernel, by decide +kernel⟩

/-- A search of order 7 that is held under an OPEN chain. -/
def heldSearch : State :=
  judgePermits ((tuning .search 5 |> updTx 1 (fun x => { x with tune := x.tune.map (fun t => { t with held := true }) })).onPins
    (fun p => { p with chainClosed := false }))

theorem witness_TheSafetyChainOpensAndCloses :
    (Meets onAir ∧ onAir.pins.chainClosed = true ∧ onAir.pins.key = .remote ∧ (∃ o ∈ onAir.chg.orders, o.stage.carrier = true)) ∧
    (Meets (keyLocal onAir) ∧ (keyLocal onAir).pins.chainClosed = true) ∧
    (∃ t, exec .safetyChainOpen (tuning .search 5) = .next t ∧ (txCtl t 1).tune.map (fun k => (k.kind, k.held)) = some (.search, true)) ∧
    (let o := { at7 .recovering with recovery := some .safety, ends := 6001 }
     let s := judgePermits ((alone o).onPins (fun p => { p with chainClosed := false }))
     Meets s ∧ s.pins.chainClosed = false ∧ s.pins.key = .remote ∧ s.chg.orders = [o] ∧ now s < o.ends) ∧
    (let s := judgePermits ((alone (at7 .poised)).onPins (fun p => { p with chainClosed := false }))
     Meets s ∧ s.pins.chainClosed = false ∧ (s.chg.orders.map (·.id)).Nodup ∧ s.chg.orders = [at7 .poised]) ∧
    (Meets heldSearch ∧ heldSearch.pins.chainClosed = false ∧ heldSearch.pins.key = .remote ∧
      (txCtl heldSearch 1).tune.map (fun k => (k.kind, k.held)) = some (.search, true) ∧
      (txCtl heldSearch 1).state = .tuning ∧ txRec? heldSearch 1 = some tx1 ∧ (unitAt heldSearch 1).state = .alive) :=
  ⟨⟨meets_onAir, by decide +kernel⟩, ⟨meets (by decide +kernel), rfl⟩, ⟨_, rfl, by decide +kernel⟩,
    ⟨meets (by decide +kernel), by decide +kernel⟩, ⟨meets (by decide +kernel), by decide +kernel⟩,
    ⟨meets (by decide +kernel), by decide +kernel⟩⟩

end Sys2Proof.Tests
end

section
/-! PROOFS. The commands that change the Hall Description, the inputs, the queue, the image slots, the selection set and the
line settings. -/

namespace Sys2Proof.Machine

/-! ### What only the named commands change -/

/-- The queue, the image slots, the Hall Description, the inputs, the line settings and the selection set. -/
structure Named where
  pending : List Instr
  store : Store
  hall : Hall
  key : Control
  chainClosed : Bool
  powered : Bool
  rate : Nat
  window : Nat
  selected : BitVec 12

/-- The named part of what the frame lemmas of Laws speak of. -/
def Outer.named (o : Outer) : Named where
  pending := o.pending
  store := o.store
  hall := o.hall
  key := o.key
  chainClosed := o.chainClosed
  powered := o.powered
  rate := o.rate
  window := o.window
  selected := o.selected

section blocks
variable (s : State)
@[simp] theorem named_pending : s.given.outer.named.pending = s.pending := rfl
@[simp] theorem named_store : s.given.outer.named.store = s.store := rfl
@[simp] theorem named_hall : s.given.outer.named.hall = s.hall := rfl
@[simp] theorem named_key : s.given.outer.named.key = s.pins.key := rfl
@[simp] theorem named_chainClosed : s.given.outer.named.chainClosed = s.pins.chainClosed := rfl
@[simp] theorem named_powered : s.given.outer.named.powered = s.pins.powered := rfl
@[simp] theorem named_rate : s.given.outer.named.rate = s.line.rate := rfl
@[simp] theorem named_window : s.given.outer.named.window = s.line.window := rfl
@[simp] theorem named_selected : s.given.outer.named.selected = s.port.selected := rfl
@[simp] theorem onBanks_named (f) : (s.onBanks f).given.outer.named = s.given.outer.named := rfl
@[simp] theorem onClock_named (f) : (s.onClock f).given.outer.named = s.given.outer.named := rfl
@[simp] theorem onStaging_named (f) : (s.onStaging f).given.outer.named = s.given.outer.named := rfl
@[simp] theorem onDir_named (f) : (s.onDir f).given.outer.named = s.given.outer.named := rfl
@[simp] theorem onMx_named (f) : (s.onMx f).given.outer.named = s.given.outer.named := rfl
@[simp] theorem onTx_named (f) : (s.onTx f).given.outer.named = s.given.outer.named := rfl
@[simp] theorem onProt_named (f) : (s.onProt f).given.outer.named = s.given.outer.named := rfl
@[simp] theorem onStats_named (f) : (s.onStats f).given.outer.named = s.given.outer.named := rfl
@[simp] theorem updTx_named (n f) : (updTx n f s).given.outer.named = s.given.outer.named := rfl
@[simp] theorem updDir_named (n f) : (updDir n f s).given.outer.named = s.given.outer.named := rfl
@[simp] theorem updUnit_named (a f) : (updUnit a f s).given.outer.named = s.given.outer.named := rfl
@[simp] theorem onLine_named (f) (hr : (f s.line).rate = s.line.rate) (hw : (f s.line).window = s.line.window) :
    (s.onLine f).given.outer.named = s.given.outer.named := by
  simp [State.given, State.outer, Outer.named, hr, hw]
@[simp] theorem onPort_named (f) (h : (f s.port).selected = s.port.selected) :
    (s.onPort f).given.outer.named = s.given.outer.named := by
  simp [State.given, State.outer, Outer.named, h]
end blocks

@[simp] theorem forEach_named {α : Type} (l : List α) (f : α → State → State) (s : State)
    (h : (∀ x t, (f x t).given.outer.named = t.given.outer.named) = True) :
    (forEach l f s).given.outer.named = s.given.outer.named := by
  unfold forEach
  induction l generalizing s with
  | nil => rfl
  | cons a l ih => rw [List.foldl_cons, ih, of_eq_true h]

/-! ### The Field Line -/

@[simp] theorem startPoll_named (s : State) : (startPoll s).given.outer.named = s.given.outer.named := by
  unfold startPoll; dsimp only; split <;> simp
@[simp] theorem wakeScan_named (s : State) : (wakeScan s).given.outer.named = s.given.outer.named := by
  unfold wakeScan; split <;> simp
@[simp] theorem bindUnit_named (a : Nat) (k : UnitKind) (n : Nat) (s : State) :
    (bindUnit a k n s).given.outer.named = s.given.outer.named := by
  unfold bindUnit; simp
@[simp] theorem unbindUnit_named (a : Nat) (s : State) : (unbindUnit a s).given.outer.named = s.given.outer.named := by
  unfold unbindUnit; simp
@[simp] theorem endTxn_named (s : State) : (endTxn s).given.outer.named = s.given.outer.named := rfl
@[simp] theorem reofferHeld_named (s : State) : (reofferHeld s).given.outer.named = s.given.outer.named := by
  unfold reofferHeld; simp
@[simp] theorem commandSlot_named (s : State) : (commandSlot s).given.outer.named = s.given.outer.named := by
  unfold commandSlot; dsimp only; split <;> simp
@[simp] theorem goodReply_named (a : Nat) (s : State) : (goodReply a s).given.outer.named = s.given.outer.named := by
  unfold goodReply; dsimp only; split <;> simp
@[simp] theorem becomeSilent_named (a : Nat) (k : MissCause) (s : State) :
    (becomeSilent a k s).given.outer.named = s.given.outer.named := by
  unfold becomeSilent; simp
@[simp] theorem countMiss_named (a : Nat) (k : MissCause) (s : State) :
    (countMiss a k s).given.outer.named = s.given.outer.named := by
  unfold countMiss; dsimp only; (repeat' split) <;> simp
@[simp] theorem afterTxn_named (t : Txn) (s : State) : (afterTxn t s).given.outer.named = s.given.outer.named := by
  unfold afterTxn; split <;> simp
@[simp] theorem finishDead_named (t : Txn) (s : State) : (finishDead t s).given.outer.named = s.given.outer.named := by
  unfold finishDead; split <;> simp
@[simp] theorem missDead_named (t : Txn) (s : State) : (missDead t s).given.outer.named = s.given.outer.named := by
  unfold missDead; simp
@[simp] theorem missTxn_named (t : Txn) (k : MissCause) (s : State) :
    (missTxn t k s).given.outer.named = s.given.outer.named := by
  unfold missTxn; dsimp only; (repeat' split) <;> simp
@[simp] theorem answerTxn_named (heard formed : Txn → Bool) (deliver : Txn → State → State) (s : State)
    (h : (∀ t u, (deliver t u).given.outer.named = u.given.outer.named) = True) :
    (answerTxn heard formed deliver s).given.outer.named = s.given.outer.named := by
  have h' := of_eq_true h
  unfold answerTxn; (repeat' split) <;> simp [h']

/-! ### The delivery of a good reply -/

@[simp] theorem writeReply_given (n : Nat) (r : TluReply) (s : State) : (writeReply n r s).given = s.given := by
  unfold writeReply; dsimp only; split <;> simp
@[simp] theorem filamentLost_given (n : Nat) (f : Filament) (s : State) : (filamentLost n f s).given = s.given := by
  unfold filamentLost; split <;> simp
@[simp] theorem replyState_given (n : Nat) (r : TluReply) (s : State) : (replyState n r s).given = s.given := by
  unfold replyState; dsimp only; (repeat' split) <;> simp
@[simp] theorem askPositions_given (n : Nat) (s : State) : (askPositions n s).given = s.given := by
  unfold askPositions; dsimp only; split <;> simp
@[simp] theorem judgeTune_given (n : Nat) (r : TluReply) (s : State) : (judgeTune n r s).given = s.given := by
  unfold judgeTune; (repeat' split) <;> simp
@[simp] theorem clearingSees_given (n : Nat) (r : TluReply) (s : State) : (clearingSees n r s).given = s.given := by
  unfold clearingSees; split <;> simp
@[simp] theorem judgeOff_given (n : Nat) (r : TluReply) (s : State) : (judgeOff n r s).given = s.given := by
  unfold judgeOff; dsimp only; (repeat' split) <;> simp
@[simp] theorem bringDown_given (n : Nat) (s : State) : (bringDown n s).given = s.given := by
  unfold bringDown; split <;> simp
@[simp] theorem advanceWorking_given (n : Nat) (s : State) : (advanceWorking n s).given = s.given := by
  unfold advanceWorking; split <;> simp
@[simp] theorem pollTransmitter_given (n : Nat) (r : TluReply) (s : State) : (pollTransmitter n r s).given = s.given := by
  unfold pollTransmitter; dsimp only; split <;> simp
@[simp] theorem deliverResult_given (a : UnitAnswer) (t : Txn) (s : State) : (deliverResult a t s).given = s.given := by
  unfold deliverResult; split <;> simp

/-! ### The key and the Safety Chain -/

@[simp] theorem readoptClosing_given (o : Order) (s : State) : (readoptClosing o s).given = s.given := by
  unfold readoptClosing; split <;> simp
@[simp] theorem restartRecovery_given (o : Order) (s : State) : (restartRecovery o s).given = s.given := by
  unfold restartRecovery; simp
@[simp] theorem restartWarming_given (o : Order) (s : State) : (restartWarming o s).given = s.given := by
  unfold restartWarming; dsimp only; split <;> simp
@[simp] theorem recoverSafety_given (o : Order) (s : State) : (recoverSafety o s).given = s.given := by
  unfold recoverSafety; simp
@[simp] theorem resumeOwn_given (o : Order) (s : State) : (resumeOwn o s).given = s.given := by
  unfold resumeOwn; split <;> simp
@[simp] theorem restartClearing_given (o : Order) (s : State) : (restartClearing o s).given = s.given := by
  unfold restartClearing; simp
@[simp] theorem restartHeld_given (o : Order) (s : State) : (restartHeld o s).given = s.given := by
  unfold restartHeld; (repeat' split) <;> simp
@[simp] theorem restartStage_given (o : Order) (s : State) : (restartStage o s).given = s.given := by
  unfold restartStage; dsimp only; (repeat' split) <;> simp
@[simp] theorem readopt_given (id : Nat) (s : State) : (readopt id s).given = s.given := by
  unfold readopt; dsimp only; (repeat' split) <;> simp
@[simp] theorem resumeHeld_given (n : Nat) (s : State) : (resumeHeld n s).given = s.given := by
  unfold resumeHeld; (repeat' split) <;> simp
@[simp] theorem releaseHeld_outer (s : State) : (releaseHeld s).given.outer = s.given.outer := by
  unfold releaseHeld; simp

theorem keyToRemote_named (s : State) :
    (keyToRemote s).given.outer.named = { s.given.outer.named with key := .remote } := by
  unfold keyToRemote; dsimp only; split <;> simp <;> rfl
theorem keyToLocal_named (s : State) :
    (keyToLocal s).given.outer.named = { s.given.outer.named with key := .local } := by
  unfold keyToLocal; simp; rfl
theorem chainOpens_named (s : State) :
    (chainOpens s).given.outer.named = { s.given.outer.named with chainClosed := false } := by
  unfold chainOpens; dsimp only; split <;> simp <;> rfl
theorem chainCloses_named (s : State) :
    (chainCloses s).given.outer.named = { s.given.outer.named with chainClosed := true } := by
  unfold chainCloses; dsimp only; split <;> simp <;> rfl


/-! ### What a request comes to -/

/-- Where a request is accepted, the changed state has the property. -/
def Answer.gives (P : State → Prop) : Answer → Prop
  | .error _ => True
  | .ok (u, _) => P u

@[simp] theorem refuse_gives (P : State → Prop) (st : Status) (d : Detail) : Answer.gives P (refuse st d) := trivial
@[simp] theorem badField_gives (P : State → Prop) (k : Nat) : Answer.gives P (badField k) := trivial
@[simp] theorem accept_gives (P : State → Prop) (u : State) (data : State → ReplyData) :
    Answer.gives P (accept u data) ↔ P u := Iff.rfl

theorem checks_gives {P : State → Prop} {l : List (Bool × Status × Detail)} {go : Answer} (h : go.gives P) :
    (checks l go).gives P := by
  induction l with
  | nil => exact h
  | cons x l ih =>
    obtain ⟨bad, st, d⟩ := x
    unfold checks
    split
    · trivial
    · exact ih

theorem withBank_gives {P : State → Prop} {code : Nat} {f : BankId → Answer} (h : ∀ k, (f k).gives P) :
    (withBank code f).gives P := by
  unfold withBank
  split
  · exact h _
  · trivial

/-- The named part after a command: only the fields named for the command may differ. -/
def Named.changedBy (c : Instr) (x y : Named) : Prop :=
  y.pending = x.pending ∧ (turnsKey c = false → y.key = x.key) ∧
  (movesChain c = false → y.chainClosed = x.chainClosed) ∧ (switchesSupply c = false → y.powered = x.powered) ∧
  (definesHall c = false → y.hall = x.hall) ∧ (writesStore c = false → y.store = x.store) ∧
  (selectsReports c = false → y.selected = x.selected) ∧
  (setsLine c = false → y.rate = x.rate ∧ y.window = x.window)

theorem Named.changedBy_refl (c : Instr) (x : Named) : x.changedBy c x := by simp [Named.changedBy]

theorem changedBy_of_eq {c : Instr} {s t : State} (h : t.given.outer.named = s.given.outer.named) :
    s.given.outer.named.changedBy c t.given.outer.named := by rw [h]; exact Named.changedBy_refl _ _

/-- What an accepted request changes in the named part is what its effects change there. -/
theorem request_changes {c : Instr} {kind tag : Nat} {f : State → Answer} {s t : State}
    (h : request kind tag f s = .next t)
    (hf : (f s).gives (fun u => s.given.outer.named.changedBy c u.given.outer.named)) :
    s.given.outer.named.changedBy c t.given.outer.named := by
  rcases request_next h with ⟨rfl, -⟩ | ⟨st, d, -, rfl⟩ | ⟨u, data, hu, rfl⟩
  · exact Named.changedBy_refl _ _
  · exact changedBy_of_eq (by simp)
  · rw [hu] at hf
    rw [queueReply_given, settle_given]
    exact hf

theorem gives_of_eq {c : Instr} {s : State} {a : Answer} (h : a.gives (fun u => u.given.outer.named = s.given.outer.named)) :
    a.gives (fun u => s.given.outer.named.changedBy c u.given.outer.named) := by
  match a, h with
  | .error _, _ => trivial
  | .ok _, h => exact changedBy_of_eq h

theorem request_keeps {c : Instr} {kind tag : Nat} {f : State → Answer} {s t : State} (h : request kind tag f s = .next t)
    (hf : (f s).gives (fun u => u.given.outer.named = s.given.outer.named)) :
    s.given.outer.named.changedBy c t.given.outer.named := request_changes h (gives_of_eq hf)

theorem readRequest_keeps {c : Instr} {kind tag : Nat} {f : State → Except (Status × Detail) ReplyData} {s t : State}
    (h : readRequest kind tag f s = .next t) : s.given.outer.named.changedBy c t.given.outer.named := by
  rcases readRequest_next h with rfl | ⟨st, d, data, rfl⟩
  · exact Named.changedBy_refl _ _
  · exact changedBy_of_eq (by simp)

theorem event_changes {c : Instr} {f : State → State} {s t : State} (h : event f s = .next t)
    (hf : s.given.outer.named.changedBy c (f s).given.outer.named) :
    s.given.outer.named.changedBy c t.given.outer.named := by
  rcases event_next h with ⟨rfl, -⟩ | ⟨rfl, -⟩
  · exact Named.changedBy_refl _ _
  · rw [settle_given]; exact hf

theorem event_keeps {c : Instr} {f : State → State} {s t : State} (h : event f s = .next t)
    (hf : (f s).given.outer.named = s.given.outer.named) : s.given.outer.named.changedBy c t.given.outer.named :=
  event_changes h (changedBy_of_eq hf)

/-! ### The effects of the requests -/

@[simp] theorem suspendEntry_outer (k : BankId) (n : Nat) (s : State) : (suspendEntry k n s).given.outer = s.given.outer := by
  unfold suspendEntry; simp
@[simp] theorem resumeEntry_outer (k : BankId) (e : Entry) (s : State) : (resumeEntry k e s).given.outer = s.given.outer := by
  unfold resumeEntry; dsimp only; (repeat' split) <;> simp
@[simp] theorem suspendOne_outer (k : BankId) (action n : Nat) (s : State) :
    (suspendOne k action n s).given.outer = s.given.outer := by
  unfold suspendOne; dsimp only; (repeat' split) <;> simp
@[simp] theorem setEnable_outer (v : Bool) (s : State) : (setEnable v s).given.outer = s.given.outer := by
  unfold setEnable; dsimp only; split <;> simp
@[simp] theorem flagOne_named (flag action c : Nat) (s : State) :
    (flagOne flag action c s).given.outer.named = s.given.outer.named := by
  unfold flagOne; dsimp only; (repeat' split) <;> simp
@[simp] theorem settleDeclared_given (r c : Nat) (s : State) : (settleDeclared r c s).given = s.given := by
  unfold settleDeclared; simp
@[simp] theorem clearXp_given (r c : Nat) (closed : Bool) (s : State) : (clearXp r c closed s).given = s.given := by
  unfold clearXp; dsimp only; (repeat' split) <;> simp
@[simp] theorem serviceXp_given (r c : Nat) (s : State) : (serviceXp r c s).given = s.given := by
  unfold serviceXp; dsimp only; split <;> simp
@[simp] theorem clearLock_given (n : Nat) (s : State) : (clearLock n s).given = s.given := by
  unfold clearLock; simp
@[simp] theorem restartClock_outer (s : State) : (restartClock s).given.outer = s.given.outer := rfl
@[simp] theorem cancelAll_given (s : State) : (cancelAll s).given = s.given := by
  unfold cancelAll; simp
@[simp] theorem restartOrderly_named (s : State) : (restartOrderly s).given.outer.named = s.given.outer.named := by
  unfold restartOrderly; dsimp only; split <;> simp
@[simp] theorem releaseAll_named (s : State) : (releaseAll s).given.outer.named = s.given.outer.named := by
  unfold releaseAll; simp
@[simp] theorem restartTx_given (b : Bool) (n : Nat) (s : State) : (restartTx b n s).given = s.given := by
  unfold restartTx; dsimp only; (repeat' split) <;> simp
@[simp] theorem restartImmediate_named (s : State) : (restartImmediate s).given.outer.named = s.given.outer.named := by
  unfold restartImmediate; simp

@[simp] theorem rebindTx_named (n : Nat) (old new : Option TxRec) (s : State) :
    (rebindTx n old new s).given.outer.named = s.given.outer.named := by
  unfold rebindTx; dsimp only; (repeat' split) <;> simp
@[simp] theorem rebindAnt_named (a : Nat) (old new : Option RotatorPart) (s : State) :
    (rebindAnt a old new s).given.outer.named = s.given.outer.named := by
  unfold rebindAnt; dsimp only; (repeat' split) <;> simp


@[simp] theorem onHall_named (s : State) (f) :
    (s.onHall f).given.outer.named = { s.given.outer.named with hall := f s.hall } := rfl
@[simp] theorem onPins_named (s : State) (f) : (s.onPins f).given.outer.named =
    { s.given.outer.named with
      key := (f s.pins).key, chainClosed := (f s.pins).chainClosed, powered := (f s.pins).powered } := rfl
@[simp] theorem onStore_named (s : State) (f) :
    (s.onStore f).given.outer.named = { s.given.outer.named with store := f s.store } := rfl
@[simp] theorem updTxRec_named (n : Nat) (f) (s : State) : (updTxRec n f s).given.outer.named =
    { s.given.outer.named with hall := { s.hall with tx := updNth s.hall.tx n f } } := rfl
@[simp] theorem updAntRec_named (a : Nat) (f) (s : State) : (updAntRec a f s).given.outer.named =
    { s.given.outer.named with hall := { s.hall with ant := updNth s.hall.ant a f } } := rfl

theorem changedBy_hall {c : Instr} (h : definesHall c = true) (x : Named) (k : Hall) : x.changedBy c { x with hall := k } := by
  simp [Named.changedBy, h]

theorem defineTx_named (n : Nat) (r : TxRec) (s : State) : (defineTx n r s).given.outer.named =
    { s.given.outer.named with hall := { s.hall with tx := updNth s.hall.tx n (fun _ => some r) } } := by
  unfold defineTx; simp

theorem removeTx_named (n : Nat) (s : State) :
    ∃ k, (removeTx n s).given.outer.named = { s.given.outer.named with hall := k } := by
  unfold removeTx
  dsimp only
  split
  · exact ⟨s.hall, rfl⟩
  · exact ⟨_, by simp; rfl⟩

theorem defineAnt_named (a : Nat) (r : AntRec) (s : State) : (defineAnt a r s).given.outer.named =
    { s.given.outer.named with hall := { s.hall with ant := updNth s.hall.ant a (fun _ => some r) } } := by
  unfold defineAnt; simp

theorem removeAnt_named (a : Nat) (s : State) : (removeAnt a s).given.outer.named =
    { s.given.outer.named with hall := { s.hall with ant := updNth s.hall.ant a (fun _ => none) } } := by
  unfold removeAnt; dsimp only; split <;> simp

theorem inhibitAll_named (l : List Nat) (f : Nat → Option TxRec → Option TxRec) (s : State) :
    ∃ k, (forEach l (fun n => updTxRec n (f n)) s).given.outer.named = { s.given.outer.named with hall := k } := by
  unfold forEach
  induction l generalizing s with
  | nil => exact ⟨s.hall, rfl⟩
  | cons n l ih =>
    obtain ⟨k, hk⟩ := ih (updTxRec n (f n) s)
    exact ⟨k, hk⟩

/-! ### One lemma for each command that changes the named part -/

theorem execTxDefine_changes {tag n d : Nat} {f : TxFields} {s t : State} (h : execTxDefine tag n d f s = .next t) :
    s.given.outer.named.changedBy (.txDefine tag n d f) t.given.outer.named := by
  refine request_changes h (checks_gives ?_)
  dsimp only
  split
  case isTrue =>
    split
    · exact trivial
    · split
      · exact trivial
      · exact trivial
      · refine checks_gives ?_
        rw [accept_gives, defineTx_named]
        exact changedBy_hall rfl _ _
  case isFalse =>
    refine checks_gives ?_
    split
    · exact trivial
    · refine checks_gives ?_
      obtain ⟨k, hk⟩ := removeTx_named n s
      rw [accept_gives, hk]
      exact changedBy_hall rfl _ _

theorem execAntDefine_changes {tag a d : Nat} {f : AntFields} {s t : State} (h : execAntDefine tag a d f s = .next t) :
    s.given.outer.named.changedBy (.antDefine tag a d f) t.given.outer.named := by
  refine request_changes h (checks_gives ?_)
  split
  · refine checks_gives ?_
    rw [accept_gives, onHall_named]
    exact changedBy_hall rfl _ _
  · refine checks_gives ?_
    split
    · split
      · exact trivial
      · exact trivial
      · exact trivial
      · refine checks_gives ?_
        rw [accept_gives, defineAnt_named]
        exact changedBy_hall rfl _ _
    · split
      · exact trivial
      · refine checks_gives ?_
        rw [accept_gives, removeAnt_named]
        exact changedBy_hall rfl _ _

theorem execHallSet_changes {tag : Nat} {f : HallFields} {s t : State} (h : execHallSet tag f s = .next t) :
    s.given.outer.named.changedBy (.hallSet tag f) t.given.outer.named := by
  refine request_changes h (checks_gives ?_)
  split
  · trivial
  · refine checks_gives ?_
    rw [accept_gives]
    split <;> exact changedBy_hall rfl _ _

theorem execTxInhibit_changes {tag action mask : Nat} {s t : State} (h : execTxInhibit tag action mask s = .next t) :
    s.given.outer.named.changedBy (.txInhibit tag action mask) t.given.outer.named := by
  refine request_changes h (checks_gives ?_)
  obtain ⟨k, hk⟩ := inhibitAll_named ((upTo 16).filter (fun n => maskBit mask (n - 1)))
    (fun _ => Option.map (fun r => { r with inhibited := applyAction action r.inhibited })) s
  rw [accept_gives, hk]
  exact changedBy_hall rfl _ _

theorem execLineSet_changes {tag : Nat} {r w : Option Nat} {s t : State} (h : execLineSet tag r w s = .next t) :
    s.given.outer.named.changedBy (.lineSet tag r w) t.given.outer.named :=
  request_changes h (checks_gives
    ⟨rfl, fun _ => rfl, fun _ => rfl, fun _ => rfl, fun _ => rfl, fun _ => rfl, fun _ => rfl, nofun⟩)

theorem execReportSelect_changes {tag action mask : Nat} {s t : State} (h : execReportSelect tag action mask s = .next t) :
    s.given.outer.named.changedBy (.reportSelect tag action mask) t.given.outer.named :=
  request_changes h (checks_gives
    ⟨rfl, fun _ => rfl, fun _ => rfl, fun _ => rfl, fun _ => rfl, fun _ => rfl, nofun, fun _ => ⟨rfl, rfl⟩⟩)

theorem execStore_changes {tag : Nat} {s t : State} (h : execStore tag s = .next t) :
    s.given.outer.named.changedBy (.store tag) t.given.outer.named := by
  unfold execStore at h
  (repeat' split at h) <;> cases h
  · exact Named.changedBy_refl _ _
  · exact Named.changedBy_refl _ _
  · simp [Named.changedBy, beginStore, writesStore]

theorem execStoreWriteComplete_changes {s t : State} (h : execStoreWriteComplete s = .next t) :
    s.given.outer.named.changedBy .storeWriteComplete t.given.outer.named := by
  refine event_changes h ?_
  split
  · exact Named.changedBy_refl _ _
  · simp [Named.changedBy, writesStore]

theorem execHallKeyChange_changes {p : Control} {s t : State} (h : execHallKeyChange p s = .next t) :
    s.given.outer.named.changedBy (.hallKeyChange p) t.given.outer.named := by
  unfold execHallKeyChange at h
  (repeat' split at h)
  · cases h; simp [Named.changedBy, turnsKey]
  · cases h; exact Named.changedBy_refl _ _
  · refine event_changes h ?_
    rw [keyToRemote_named]; simp [Named.changedBy, turnsKey]
  · refine event_changes h ?_
    rw [keyToLocal_named]; simp [Named.changedBy, turnsKey]

theorem execSafetyChainOpen_changes {s t : State} (h : execSafetyChainOpen s = .next t) :
    s.given.outer.named.changedBy .safetyChainOpen t.given.outer.named := by
  unfold execSafetyChainOpen at h
  (repeat' split at h)
  · cases h; simp [Named.changedBy, movesChain]
  · refine event_changes h ?_
    rw [chainOpens_named]; simp [Named.changedBy, movesChain]
  · cases h; exact Named.changedBy_refl _ _

theorem execSafetyChainClose_changes {s t : State} (h : execSafetyChainClose s = .next t) :
    s.given.outer.named.changedBy .safetyChainClose t.given.outer.named := by
  unfold execSafetyChainClose at h
  (repeat' split at h)
  · cases h; simp [Named.changedBy, movesChain]
  · cases h; exact Named.changedBy_refl _ _
  · refine event_changes h ?_
    rw [chainCloses_named]; simp [Named.changedBy, movesChain]

theorem execPowerLoss_changes {s t : State} (h : execPowerLoss s = .next t) :
    s.given.outer.named.changedBy .powerLoss t.given.outer.named := by
  cases h
  simp [Named.changedBy, switchesSupply, writesStore]


@[simp] theorem bindAll_named (s : State) : (bindAll s).given.outer.named = s.given.outer.named := by
  unfold bindAll
  dsimp only
  rw [forEach_named, forEach_named]
  all_goals
    refine eq_true fun n t => ?_
    split <;> simp

theorem loadImage_named (i : Image) (s : State) : (loadImage i s).given.outer.named =
    { s.given.outer.named with
      hall := { tx := i.tx, ant := i.ant, loads := i.loads, par := i.par }, rate := i.rate, window := i.window } := by
  unfold loadImage
  simp only [startPoll_named, bindAll_named, onDir_named]
  rfl

/-- The state from which power-on starts: nothing but the image slots, the inputs and the queue comes over (R197). -/
def freshFrom (s : State) : State :=
  { State.blank with
    pins := { State.blank.pins with key := s.pins.key, chainClosed := s.pins.chainClosed }
    store := { s.store with writing := none }
    pending := s.pending }

/-- Power-on loads the image of the latest good slot, and reports it where the other slot is bad; with no good slot it reports
that alone (R197). -/
theorem powerUp_cases (s : State) :
    (∃ first g i, s.store.latest = some (first, g, i) ∧ (powerUp s = loadImage i (freshFrom s) ∨
      powerUp s = offerReport (.store (.singleImage g)) (loadImage i (freshFrom s)))) ∨
    (s.store.latest = none ∧ powerUp s = offerReport (.store .badImage) (freshFrom s)) := by
  unfold powerUp
  split
  next h => exact .inl ⟨_, _, _, h, .inl rfl⟩
  next h _ => exact .inl ⟨_, _, _, h, .inr rfl⟩
  next h => exact .inr ⟨h, rfl⟩

theorem powerUp_keeps (s : State) :
    (powerUp s).given.outer.named.pending = s.pending ∧ (powerUp s).given.outer.named.key = s.pins.key ∧
      (powerUp s).given.outer.named.chainClosed = s.pins.chainClosed := by
  rcases powerUp_cases s with ⟨_, _, i, -, e | e⟩ | ⟨-, e⟩ <;> rw [e]
  · rw [loadImage_named]; exact ⟨rfl, rfl, rfl⟩
  · rw [offerReport_given, loadImage_named]; exact ⟨rfl, rfl, rfl⟩
  · rw [offerReport_given]; exact ⟨rfl, rfl, rfl⟩

theorem execPowerOn_changes {s t : State} (h : execPowerOn s = .next t) :
    s.given.outer.named.changedBy .powerOn t.given.outer.named := by
  unfold execPowerOn at h
  split at h <;> cases h
  · exact Named.changedBy_refl _ _
  · obtain ⟨hp, hk, hc⟩ := powerUp_keeps s
    rw [judgePermits_given]
    simp only [Named.changedBy, hp, hk, hc, switchesSupply, definesHall, writesStore, selectsReports, setsLine]
    simp

theorem admitOrder_named {k : Candidate} {a : Admission} {s t : State} (h : admitOrder k s = (a, t)) :
    t.given.outer.named = s.given.outer.named := by
  have := congrArg Outer.named (admitOrder_outer k s)
  rwa [h] at this

/-! ### The effects of the events -/

/-- Bytes on the Control Link leave the selection set alone. -/
theorem scanBytes_selected (fuel : Nat) (l : List Byte) (p : Port) : (scanBytes fuel l p).selected = p.selected := by
  induction fuel generalizing l p with
  | zero => rfl
  | succ k ih =>
    cases l with
    | nil => rfl
    | cons b more =>
      unfold scanBytes
      split
      · rw [ih]
      · dsimp only
        (repeat' split) <;> rw [ih]

@[simp] theorem receive_selected (l : List Byte) (p : Port) : (receive l p).selected = p.selected := scanBytes_selected ..

@[simp] theorem gapOut_selected (fuel : Nat) (p : Port) : (gapOut fuel p).selected = p.selected := by
  induction fuel generalizing p with
  | zero => rfl
  | succ k ih =>
    unfold gapOut
    split
    · rfl
    · rw [ih, receive_selected]

@[simp] theorem sendOne_selected (p : Port) : (sendOne p).selected = p.selected := by
  unfold sendOne; split <;> rfl

@[simp] theorem rephase_outer (closed : Bool) (s : State) : (rephase closed s).given.outer = s.given.outer := by
  unfold rephase restartWatch; dsimp only; split <;> simp
@[simp] theorem timeMark_outer (early closed : Bool) (s : State) : (timeMark early closed s).given.outer = s.given.outer := by
  unfold timeMark restartWatch; split <;> simp
@[simp] theorem internalBoundary_outer (s : State) : (internalBoundary s).given.outer = s.given.outer := by
  unfold internalBoundary; simp
@[simp] theorem watchRunsOut_outer (s : State) : (watchRunsOut s).given.outer = s.given.outer := by
  unfold watchRunsOut; split <;> simp
@[simp] theorem warmUpRanOut_given (n : Nat) (s : State) : (warmUpRanOut n s).given = s.given := by
  unfold warmUpRanOut; dsimp only; split <;> simp
@[simp] theorem sendCoolDown_given (n : Nat) (s : State) : (sendCoolDown n s).given = s.given := by
  unfold sendCoolDown; simp
@[simp] theorem blindRanOut_given (n : Nat) (s : State) : (blindRanOut n s).given = s.given := by
  unfold blindRanOut; simp
@[simp] theorem proceedUnconfirmed_given (o : Order) (s : State) : (proceedUnconfirmed o s).given = s.given := by
  unfold proceedUnconfirmed; simp

/-! ### All the commands -/

/-- Every command but FRAME_TAKEN, which carries others. -/
theorem exec_changes {c : Instr} {s t : State} (hc : c ≠ .frameTaken) (h : exec c s = .next t) :
    s.given.outer.named.changedBy c t.given.outer.named := by
  cases c <;> simp only [exec] at h
  case frameTaken => exact absurd rfl hc
  case txDefine => exact execTxDefine_changes h
  case antDefine => exact execAntDefine_changes h
  case hallSet => exact execHallSet_changes h
  case txInhibit => exact execTxInhibit_changes h
  case lineSet => exact execLineSet_changes h
  case reportSelect => exact execReportSelect_changes h
  case store => exact execStore_changes h
  case storeWriteComplete => exact execStoreWriteComplete_changes h
  case powerOn => exact execPowerOn_changes h
  case powerLoss => exact execPowerLoss_changes h
  case hallKeyChange => exact execHallKeyChange_changes h
  case safetyChainOpen => exact execSafetyChainOpen_changes h
  case safetyChainClose => exact execSafetyChainClose_changes h
  case txRead | antRead | hallRead | lineRead | entryRead | bankStatus | timeRead | orderList | orderRead | matrixRead |
      presetRead | faultRead | identify =>
    simp only [execTxRead, execAntRead, execHallRead, execLineRead, execEntryRead, execBankStatus, execTimeRead,
      execOrderList, execOrderRead, execMatrixRead, execPresetRead, execFaultRead, execIdentify] at h
    exact readRequest_keeps h
  case bankHeader =>
    refine request_keeps h (withBank_gives fun k => checks_gives ?_)
    split <;> simp
  case entryPut =>
    refine request_keeps h (withBank_gives fun k => ?_)
    split
    · trivial
    · refine checks_gives ?_
      split
      · trivial
      · refine checks_gives ?_
        split <;> simp
  case entryDelete | entrySuspend | bankClear | bankArm | bankDisarm =>
    exact request_keeps h (withBank_gives fun k => checks_gives (by simp))
  case timeSet =>
    refine request_keeps h ?_
    split <;> simp
  case orderManual =>
    refine request_keeps h ?_
    split
    · trivial
    · refine checks_gives ?_
      split
      · trivial
      · refine checks_gives ?_
        split
        next ha =>
          exact admitOrder_named ha
        all_goals trivial
  case orderCancel =>
    refine request_keeps h (checks_gives ?_)
    split
    · trivial
    · exact checks_gives (by simp)
  case orderAdvance =>
    refine request_keeps h (checks_gives ?_)
    split
    · trivial
    · exact checks_gives (by simp)
  case antFlags =>
    refine request_keeps h (checks_gives ?_)
    split <;> simp
  case presetPurge =>
    refine request_keeps h (checks_gives ?_)
    dsimp only
    (repeat' split) <;> simp
  case counterSet =>
    refine request_keeps h ?_
    split
    · trivial
    · exact checks_gives (by simp)
  case counterRead =>
    refine request_keeps h (checks_gives ?_)
    split <;> simp
  case automation | xpClear | xpService | txLockClear | restartOrderly | restartImmediate =>
    exact request_keeps h (checks_gives (by simp))
  case faultClear => exact request_keeps h (by simp)
  case controlLinkByte | gapTimeout | outgoingFrameSent | timeMark | internalSecondBoundary | markWatchExpiry |
      movementStart | pollReplyTlu | pollReplyMdu | pollReplyAru | commandReply => exact event_keeps h (by simp)
  case preparationBegin | moveTimeout | slewStart | slewTimeout | transactionMiss | warmUpTimeout | idleClockCoolDown |
      searchTuneTimeout | presetTuneTimeout | blindHoldExpiry | recoveryDelayExpiry | rampEnd |
      carrierOffConfirmTimeout =>
    refine event_keeps h ?_
    (repeat' split) <;> simp

/-- A frame carries a request and no event, so it turns no input (R182). -/
theorem carryOut_cases (i : Instr) (s : State) :
    carryOut i s = .next s ∨
    (carryOut i s = exec i s ∧ i ≠ .frameTaken ∧ turnsKey i = false ∧ movesChain i = false ∧
      switchesSupply i = false) := by
  cases i
  case controlLinkByte | gapTimeout | frameTaken | outgoingFrameSent | powerOn | hallKeyChange | safetyChainOpen |
      safetyChainClose | timeMark | internalSecondBoundary | markWatchExpiry | preparationBegin | movementStart |
      moveTimeout | slewStart | slewTimeout | pollReplyTlu | pollReplyMdu | pollReplyAru | transactionMiss | commandReply |
      warmUpTimeout | idleClockCoolDown | searchTuneTimeout | presetTuneTimeout | blindHoldExpiry | recoveryDelayExpiry |
      rampEnd | carrierOffConfirmTimeout | storeWriteComplete | powerLoss => exact .inl rfl
  all_goals exact .inr ⟨rfl, nofun, rfl, rfl, rfl⟩

theorem carryOut_changes {i : Instr} {s t : State} (h : carryOut i s = .next t) :
    s.given.outer.named.changedBy .frameTaken t.given.outer.named := by
  rcases carryOut_cases i s with e | ⟨e, hi, hk, hc, hp⟩ <;> rw [e] at h
  · cases h
    exact Named.changedBy_refl _ _
  · obtain ⟨h0, h1, h2, h3, -⟩ := exec_changes hi h
    exact ⟨h0, fun _ => h1 hk, fun _ => h2 hc, fun _ => h3 hp, nofun, nofun, nofun, nofun⟩

theorem execFrameTaken_changes {s t : State} (h : execFrameTaken s = .next t) :
    s.given.outer.named.changedBy .frameTaken t.given.outer.named := by
  unfold execFrameTaken at h
  split at h
  · cases h
    exact Named.changedBy_refl _ _
  · split at h
    · cases h
      exact Named.changedBy_refl _ _
    next f rest _ =>
      have hs : (s.onPort (fun p => { p with rx := rest })).given.outer.named = s.given.outer.named := by simp
      dsimp only at h
      split at h
      · rw [← hs]
        exact carryOut_changes h
      all_goals
        cases h
        exact changedBy_of_eq (by rw [queueReply_given, hs])

/-- Settles O11: every command is looked at once for what it does to the part that the statement names. -/
theorem onlyTheNamedCommandsChangeTablesAndInputs : Obligations.OnlyTheNamedCommandsChangeTablesAndInputs := by
  intro c s t h
  by_cases hc : c = .frameTaken
  · subst hc
    exact execFrameTaken_changes h
  · exact exec_changes hc h

end Sys2Proof.Machine
end

section
/-! PROOFS. Tables numbered from 1, the answer of an accepted request, and the settings, the reset values and the reads. -/

namespace Sys2Proof.Machine

/-! ### Tables numbered from 1 -/

theorem nth_map {α β : Type} (l : List α) (f : α → β) (n : Nat) : nth (l.map f) n = (nth l n).map f := by
  unfold nth; split <;> simp

theorem nth_nil {α : Type} (n : Nat) : nth ([] : List α) n = none := by
  unfold nth; split <;> simp

theorem nth_replicate {α : Type} (k n : Nat) (x : α) :
    nth (List.replicate k x) n = none ∨ nth (List.replicate k x) n = some x := by
  unfold nth
  split
  · exact .inl rfl
  · rw [List.getElem?_replicate]; split <;> simp

theorem nth_replicate_getD {α : Type} (k n : Nat) (x : α) : (nth (List.replicate k x) n).getD x = x := by
  rcases nth_replicate k n x with h | h <;> rw [h] <;> rfl

theorem nth_replicate_join {α : Type} (k n : Nat) : (nth (List.replicate k (none : Option α)) n).join = none := by
  rcases nth_replicate k n (none : Option α) with h | h <;> rw [h] <;> rfl

theorem nth_replicate_ne {α : Type} {k n : Nat} {x y : α} (hxy : x ≠ y) : nth (List.replicate k x) n ≠ some y := by
  rcases nth_replicate k n x with h | h <;> simp [h, hxy]

theorem xpAt_reset (r c : Nat) : xpAt State.reset r c = {} := by
  unfold xpAt rowXps
  rcases nth_replicate 16 r (List.replicate 34 ({} : Xp)) with h | h
  · rw [show nth State.reset.mx.rows r = none from h, Option.getD_none, nth_nil]; rfl
  · rw [show nth State.reset.mx.rows r = _ from h]; exact nth_replicate_getD 34 c _

theorem txCtl_reset (n : Nat) : txCtl State.reset n = TxCtl.initial := nth_replicate_getD 16 n _

/-- Settles O3: the default of an absent member is the value at which reset fills the table. -/
theorem resetLeavesEveryTableAtItsDefault : Obligations.ResetLeavesEveryTableAtItsDefault := by
  refine ⟨fun n => nth_replicate_join 16 n, fun a => nth_replicate_join 32 a, rfl, rfl, fun k => by cases k <;> rfl,
    rfl, rfl, rfl, rfl, rfl, rfl, rfl, rfl, fun c => nth_replicate_getD 34 c _, rfl, xpAt_reset, fun a => nth_replicate_join 32 a,
    rfl, rfl, ?_, fun n => nth_replicate_getD 16 n _, fun a => nth_replicate_getD 63 a _, rfl, rfl, rfl, rfl, rfl, rfl, rfl,
    rfl, rfl, rfl, rfl, rfl, rfl, rfl, rfl, rfl, rfl, fun n => nth_replicate_ne (by decide)⟩
  intro n
  dsimp only [presetAt]
  rw [txCtl_reset]
  refine ⟨rfl, rfl, rfl, rfl, rfl, rfl, rfl, rfl, rfl, rfl, rfl, fun i => ?_⟩
  exact nth_replicate_join 64 (i + 1)

/-! ### The answer of an accepted request -/

/-- The answer of an accepted request with supply: its effects, and the OK reply with the data (R182). -/
theorem request_accepted {kind tag : Nat} {f : State → Answer} {s u : State} {data : State → ReplyData}
    (hp : s.pins.powered = true) (hf : f s = accept u data) :
    request kind tag f s = .next (okReply kind tag (data (settle u)) (settle u)) := by
  simp [request, hp, hf, accept, okReply]

/-- Effects that leave the state settled stand in the answer as they are. -/
theorem request_accepted_settled {kind tag : Nat} {f : State → Answer} {s u : State} {data : State → ReplyData}
    (hp : s.pins.powered = true) (hu : u.settled) (hf : f s = accept u data) :
    request kind tag f s = .next (okReply kind tag (data u) u) := by
  rw [request_accepted hp hf, settle_of_settled hu]

theorem readRequest_ok {kind tag : Nat} {f : State → Except (Status × Detail) ReplyData} {s : State} {data : ReplyData}
    (hp : s.pins.powered = true) (hf : f s = .ok data) :
    readRequest kind tag f s = .next (okReply kind tag data s) := by
  simp [readRequest, hp, hf, okReply]

theorem readRequest_error {kind tag : Nat} {f : State → Except (Status × Detail) ReplyData} {s : State} {st : Status}
    {d : Detail} (hp : s.pins.powered = true) (hf : f s = .error (st, d)) :
    readRequest kind tag f s = .next (queueReply kind tag st d .none s) := by
  simp [readRequest, hp, hf]

/-! ### The reads of the stored tables -/

theorem within_eq_true {lo hi x : Nat} : within lo hi x = true ↔ lo ≤ x ∧ x ≤ hi := by simp [within]

theorem within_eq_false {lo hi x : Nat} : within lo hi x = false ↔ x < lo ∨ hi < x := by
  rw [← Bool.not_eq_true, within_eq_true]; omega

theorem execTxRead_defined {tag n : Nat} {s : State} (hp : s.pins.powered = true) (h : within 1 16 n = true) :
    execTxRead tag n s = .next (okReply 0x02 tag (.txRec (txRec? s n)) s) :=
  readRequest_ok hp (by rw [if_pos h])

theorem execTxRead_outside {tag n : Nat} {s : State} (hp : s.pins.powered = true) (h : within 1 16 n = false) :
    execTxRead tag n s = .next (refusal 0x02 tag .badField s) :=
  readRequest_error hp (by simp [h])

theorem execAntRead_antenna {tag a : Nat} {s : State} (hp : s.pins.powered = true) (h : 1 ≤ a ∧ a ≤ 32) :
    execAntRead tag a s = .next (okReply 0x04 tag (.antRec (antRec? s a)) s) := by
  have hw : within 1 34 a = true := within_eq_true.2 (by omega)
  exact readRequest_ok hp (by simp [hw, show ¬ 33 ≤ a by omega])

theorem execAntRead_load {tag a : Nat} {s : State} (hp : s.pins.powered = true) (h : a = 33 ∨ a = 34) :
    execAntRead tag a s = .next (okReply 0x04 tag (.loadRating (loadRating s a)) s) := by
  have hw : within 1 34 a = true := within_eq_true.2 (by omega)
  exact readRequest_ok hp (by simp [hw, show 33 ≤ a by omega])

theorem execAntRead_outside {tag a : Nat} {s : State} (hp : s.pins.powered = true) (h : within 1 34 a = false) :
    execAntRead tag a s = .next (refusal 0x04 tag .badField s) :=
  readRequest_error hp (by simp [h])

theorem execEntryRead_noBank {tag bank n k : Nat} {s : State} (hp : s.pins.powered = true) (hb : BankId.ofCode bank = none) :
    execEntryRead tag bank n k s = .next (queueReply 0x13 tag .badField (.field 0 0 0) .none s) :=
  readRequest_error hp (by simp [hb])

theorem execEntryRead_outside {tag bank n k : Nat} {x : BankId} {s : State} (hp : s.pins.powered = true)
    (hb : BankId.ofCode bank = some x) (h : within 1 400 n = false) :
    execEntryRead tag bank n k s = .next (refusal 0x13 tag .badField s) :=
  readRequest_error hp (by simp [hb, h])

/-- The entry that ENTRY-READ looks for: the one at the number (EXACT), or the first from it on (NEXT) (R32). -/
def entrySought (n k : Nat) (e : Entry) : Bool := if k = 1 then e.number == n else decide (n ≤ e.number)

theorem execEntryRead_found {tag bank n k : Nat} {x : BankId} {s : State} {e : Entry} (hp : s.pins.powered = true)
    (hb : BankId.ofCode bank = some x) (h : within 1 400 n = true) (hk : within 1 2 k = true)
    (he : (bankOf s x).entries.find? (entrySought n k) = some e) :
    execEntryRead tag bank n k s = .next (okReply 0x13 tag (.entry e) s) := by
  unfold entrySought at he
  exact readRequest_ok hp (by simp [hb, h, hk, he])

theorem execEntryRead_notFound {tag bank n k : Nat} {x : BankId} {s : State} (hp : s.pins.powered = true)
    (hb : BankId.ofCode bank = some x) (h : within 1 400 n = true) (hk : within 1 2 k = true)
    (he : ∀ e ∈ (bankOf s x).entries, entrySought n k e = false) :
    execEntryRead tag bank n k s = .next (refusal 0x13 tag .notFound s) := by
  have hf : (bankOf s x).entries.find? (entrySought n k) = none := List.find?_eq_none.2 (by simpa using he)
  unfold entrySought at hf
  exact readRequest_error hp (by simp [hb, h, hk, hf])

/-- Settles O25: one equation for each outcome of each read. -/
theorem tableReadsAnswerTheTablesAsTheyStand : Obligations.TableReadsAnswerTheTablesAsTheyStand := by
  intro tag n s hp
  refine ⟨fun h1 h2 => execTxRead_defined hp (within_eq_true.2 ⟨h1, h2⟩),
    fun h => execTxRead_outside hp (within_eq_false.2 (by omega)), fun h1 h2 => execAntRead_antenna hp ⟨h1, h2⟩,
    execAntRead_load hp, fun h => execAntRead_outside hp (within_eq_false.2 (by omega)), 
    show execHallRead tag s = _ from readRequest_ok hp rfl, show execLineRead tag s = _ from readRequest_ok hp rfl,
    show execBankStatus tag s = _ from readRequest_ok hp rfl, fun _ _ hb => execEntryRead_noBank hp hb,
    fun _ _ _ hb h => execEntryRead_outside hp hb (within_eq_false.2 (by omega)), fun bank k hb h1 h2 => ?_⟩
  have hn : within 1 400 n = true := within_eq_true.2 ⟨h1, h2⟩
  exact ⟨fun _ he => execEntryRead_found hp hb hn rfl he, fun _ he => execEntryRead_found hp hb hn rfl he,
    fun he => execEntryRead_notFound hp hb hn rfl (by simpa [entrySought] using he),
    fun he => execEntryRead_notFound hp hb hn rfl (by simpa [entrySought] using he)⟩

/-- Settles O24: each body is cut and read by evaluation. -/
theorem someBodiesSpellTheirRequests : Obligations.SomeBodiesSpellTheirRequests := by
  refine ⟨rfl, rfl, rfl, rfl, rfl, rfl, rfl, rfl, rfl, rfl, rfl⟩


/-! ### The settings (R14, R15, R169) -/

theorem optWithin_iff {lo hi : Nat} {o : Option Nat} : optWithin lo hi o = true ↔ ∀ x ∈ o, lo ≤ x ∧ x ≤ hi := by
  cases o <;> simp [optWithin, within_eq_true]

theorem storeBusy_eq_false {s : State} (h : s.store.writing = none) : storeBusy s = false := by simp [storeBusy, h]

theorem rowXps_cutCounts (life : Nat) (s : State) (r : Nat) : rowXps (cutCounts life s) r =
    (rowXps s r).map (fun x => { x with remaining := min x.remaining life }) := by
  unfold rowXps cutCounts
  rw [onMx_mx, nth_map]
  cases nth s.mx.rows r <;> rfl

theorem xpAt_cutCounts_state (life : Nat) (s : State) (r c : Nat) :
    (xpAt (cutCounts life s) r c).state = (xpAt s r c).state := by
  unfold xpAt
  rw [rowXps_cutCounts, nth_map]
  cases nth (rowXps s r) c <;> rfl

theorem rowWhere_cutCounts (life : Nat) (s : State) (r : Nat) (p : XpState → Bool) :
    rowWhere (cutCounts life s) r p = rowWhere s r p := by
  unfold rowWhere
  rw [rowXps_cutCounts, List.zip_map_left, List.filterMap_map]
  rfl

/-- A cut of the counts leaves every crosspoint in its state, so R120 sees no difference. -/
theorem permitRule_cutCounts (life : Nat) (s : State) : permitRule (cutCounts life s) = permitRule s := by
  funext n
  simp only [permitRule, rowWhere_cutCounts, xpAt_cutCounts_state]
  rfl

theorem cutCounts_settled {life : Nat} {s : State} (h : s.settled) : (cutCounts life s).settled := by
  obtain ⟨hrest, hpermits⟩ := h
  refine ⟨hrest, ?_⟩
  unfold State.permitsFollow at *
  rw [permitRule_cutCounts]
  exact hpermits

/-- The effects of an accepted LINE-SET (R169). -/
def setLine (rate window : Option Nat) (s : State) : State :=
  s.onLine (fun l => { l with rate := rate.getD l.rate, window := window.getD l.window })

theorem execLineSet_accepted {tag : Nat} {s : State} (hs : s.running) (hw : s.store.writing = none) {rate window : Option Nat}
    (hr : ∀ r ∈ rate, r ≤ 4) (hwin : ∀ w ∈ window, 5 ≤ w ∧ w ≤ 100) (hsome : rate.isSome ∨ window.isSome) :
    execLineSet tag rate window s = .next (okReply 0x07 tag
      (.lineSettings (rate.getD s.line.rate) (window.getD s.line.window)) (setLine rate window s)) := by
  obtain ⟨hp, hset⟩ := hs
  have hr' : optWithin 0 4 rate = true := optWithin_iff.2 fun r h => ⟨Nat.zero_le r, hr r h⟩
  have hwin' : optWithin 5 100 window = true := optWithin_iff.2 hwin
  have hnone : (rate.isNone && window.isNone) = false := by
    cases rate <;> cases window <;> simp_all
  have hu : (setLine rate window s).settled := settled_eq rfl rfl rfl rfl rfl rfl hset
  refine request_accepted_settled hp (data := fun t => .lineSettings t.line.rate t.line.window) hu ?_
  exact checks_pass (by simp [hr', hwin', hnone, storeBusy_eq_false hw])

/-- The effects of an accepted HALL-SET (R14, R15). -/
def setParams (f : HallFields) (s : State) : State :=
  let p := HallParams.set s.hall.par f
  let t := s.onHall (fun h => { h with par := p })
  if p.opLife < s.hall.par.opLife then cutCounts p.opLife t else t

theorem setParams_settled {f : HallFields} {s : State} (h : s.settled) : (setParams f s).settled := by
  have ht : (s.onHall (fun k => { k with par := HallParams.set s.hall.par f })).settled :=
    settled_eq rfl rfl rfl rfl rfl rfl h
  unfold setParams
  dsimp only
  split
  · exact cutCounts_settled ht
  · exact ht

theorem execHallSet_accepted {tag : Nat} {f : HallFields} {s : State} (hs : s.running) (hw : s.store.writing = none)
    (hf : firstBad (hallRanges f) = none) (he : HallFields.empty f = false) (hc : f.credits = none ∨ s.mx.movements = []) :
    execHallSet tag f s = .next (okReply 0x05 tag .none (setParams f s)) := by
  obtain ⟨hp, hset⟩ := hs
  have hfree : (f.credits.isSome && !s.mx.movements.isEmpty) = false := by
    rcases hc with h | h <;> simp [h]
  refine request_accepted_settled hp (data := fun _ => .none) (setParams_settled hset) ?_
  rw [checks_pass (by simp [storeBusy_eq_false hw])]
  simp only [hf]
  exact checks_pass (by simp [he, hfree])

/-- Settles O28: both requests leave the blocks settled, so their effects stand in the answer as they are. -/
theorem settingsTakeTheValuesGiven : Obligations.SettingsTakeTheValuesGiven := by
  intro tag s hs hw
  refine ⟨fun rate window hr hwin hsome => execLineSet_accepted hs hw hr hwin hsome, fun f hf he hc => ?_⟩
  refine ⟨setParams f s, execHallSet_accepted hs hw hf he hc, ?_⟩
  unfold setParams
  dsimp only
  split <;> simp [cutCounts, State.onMx, State.onHall, *]

end Sys2Proof.Machine
end

section
/-! PROOFS. Members of the tables after an update, the unit table under binding, and a transmitter's definition (R7). -/

namespace Sys2Proof.Machine

/-! ### One member of a numbered table -/

theorem nth_updNth {α : Type} (l : List α) (n m : Nat) (f : α → α) :
    nth (updNth l n f) m = if m = n then (nth l n).map f else nth l m := by
  unfold nth updNth
  by_cases hn : n = 0
  · subst hn; by_cases hm : m = 0 <;> simp [hm]
  · by_cases hm : m = 0
    · subst hm; simp [Ne.symm hn]
    · simp only [hn, hm, if_false, List.getElem?_modify]
      by_cases h : m = n
      · subst h; simp
      · have : ¬ n - 1 = m - 1 := by omega
        simp [h, this]

theorem nth_updNth_same {α : Type} (l : List α) (n : Nat) (f : α → α) : nth (updNth l n f) n = (nth l n).map f := by
  rw [nth_updNth, if_pos rfl]

theorem nth_updNth_ne {α : Type} (l : List α) {n m : Nat} (h : m ≠ n) (f : α → α) : nth (updNth l n f) m = nth l m := by
  rw [nth_updNth, if_neg h]

theorem updNth_id {α : Type} (l : List α) (n : Nat) : updNth l n id = l := by
  unfold updNth; split <;> simp

theorem updNth_updNth {α : Type} (l : List α) (n : Nat) (f g : α → α) :
    updNth (updNth l n f) n g = updNth l n (g ∘ f) := by
  unfold updNth
  split
  · rfl
  · exact List.modify_modify_eq ..

theorem exists_nth {α : Type} {l : List α} {n : Nat} (h1 : 1 ≤ n) (h2 : n ≤ l.length) : ∃ x, nth l n = some x := by
  unfold nth
  rw [if_neg (by omega)]
  exact ⟨_, List.getElem?_eq_getElem (by omega)⟩

/-- A projection that no turn of a loop changes. -/
theorem forEach_keeps {α β : Type} (g : State → β) (l : List α) (f : α → State → State) (s : State)
    (h : ∀ x t, g (f x t) = g t) : g (forEach l f s) = g s := by
  unfold forEach
  induction l generalizing s with
  | nil => rfl
  | cons a l ih => rw [List.foldl_cons, ih, h]

/-! ### The sizes of the tables -/

theorem State.whole.tx_length {s : State} (h : s.whole) : s.tx.length = 16 := by
  have := congrArg (fun z => z.memories.length) h.1
  simpa [State.sizes, Sizes.whole] using this

theorem State.whole.prot_length {s : State} (h : s.whole) : s.prot.length = 16 := congrArg Sizes.prot h.1

theorem State.whole.units_length {s : State} (h : s.whole) : s.line.units.length = 63 := by
  obtain ⟨-, -, -, -, h, -⟩ := h
  exact h

/-! ### What binding and unbinding leave alone -/

/-- The state but for the Field Line and the messages, which binding and unbinding may touch. -/
def State.besidesLine (s : State) : State := { s with line := { units := [] }, agenda := [] }

theorem failCmds_besidesLine (p : Cmd → Bool) (s : State) : (failCmds p s).besidesLine = s.besidesLine :=
  forEach_keeps State.besidesLine _ _ _ fun _ _ => rfl

theorem unbindUnit_besidesLine (a : Nat) (s : State) : (unbindUnit a s).besidesLine = s.besidesLine :=
  failCmds_besidesLine _ s

/-- The polling scan touches the line alone, and no unit of it. -/
theorem wakeScan_line (s : State) : ∃ f : Line → Line, wakeScan s = s.onLine f ∧ (f s.line).units = s.line.units := by
  unfold wakeScan startPoll
  dsimp only
  (repeat' split)
  · exact ⟨_, rfl, rfl⟩
  · exact ⟨_, rfl, rfl⟩
  · exact ⟨id, rfl, rfl⟩

/-- The entry of an address just bound (R170). -/
def boundUnit (k : UnitKind) (n : Nat) : UnitEntry := { kind := some k, state := .alive, owner := n }

/-- Binding touches the line alone, and of its units the one bound. -/
theorem bindUnit_line (a : Nat) (k : UnitKind) (n : Nat) (s : State) : ∃ f : Line → Line,
    bindUnit a k n s = s.onLine f ∧ (f s.line).units = updNth s.line.units a (fun _ => boundUnit k n) := by
  obtain ⟨f, hf, hu⟩ := wakeScan_line (updUnit a (fun _ => boundUnit k n) s)
  exact ⟨fun l => f { l with units := updNth l.units a (fun _ => boundUnit k n) }, hf, hu⟩

theorem bindUnit_besidesLine (a : Nat) (k : UnitKind) (n : Nat) (s : State) :
    (bindUnit a k n s).besidesLine = s.besidesLine := by
  obtain ⟨f, hf, -⟩ := bindUnit_line a k n s
  rw [hf]; rfl

/-- The state but for the Field Line, Transmitter Control, the orders and the messages, which a change of a transmitter's
addresses may touch. -/
def State.besides (s : State) : State := { s.besidesLine with tx := [], chg := {} }

theorem besides_eq {s t : State} (h : t.besides = s.besides) :
    { t with line := s.line, tx := s.tx, chg := s.chg, agenda := s.agenda } = s := by
  cases s; cases t
  simp_all [State.besides, State.besidesLine]

section besidesLine
variable {s t : State} (h : t.besidesLine = s.besidesLine)
include h

theorem besides_of_besidesLine : t.besides = s.besides := by unfold State.besides; rw [h]
theorem tx_of_besidesLine : t.tx = s.tx := by injection h
theorem chg_of_besidesLine : t.chg = s.chg := by injection h

end besidesLine

@[simp] theorem unbindUnit_besides (a : Nat) (s : State) : (unbindUnit a s).besides = s.besides :=
  besides_of_besidesLine (unbindUnit_besidesLine a s)
@[simp] theorem unbindUnit_tx (a : Nat) (s : State) : (unbindUnit a s).tx = s.tx :=
  tx_of_besidesLine (unbindUnit_besidesLine a s)
@[simp] theorem unbindUnit_chg (a : Nat) (s : State) : (unbindUnit a s).chg = s.chg :=
  chg_of_besidesLine (unbindUnit_besidesLine a s)
@[simp] theorem bindUnit_besides (a : Nat) (k : UnitKind) (n : Nat) (s : State) : (bindUnit a k n s).besides = s.besides :=
  besides_of_besidesLine (bindUnit_besidesLine a k n s)
@[simp] theorem bindUnit_tx (a : Nat) (k : UnitKind) (n : Nat) (s : State) : (bindUnit a k n s).tx = s.tx :=
  tx_of_besidesLine (bindUnit_besidesLine a k n s)

@[simp] theorem emit_besides (g : Signal) (s : State) : (emit g s).besides = s.besides := rfl
@[simp] theorem updTx_besides (n f) (s : State) : (updTx n f s).besides = s.besides := rfl
@[simp] theorem setWork_besides (id f) (s : State) : (setWork id f s).besides = s.besides := rfl
@[simp] theorem setTxState_besides (n st) (s : State) : (setTxState n st s).besides = s.besides := rfl

/-! ### The unit table (R170) -/

theorem units_of_given {s t : State} (h : t.given = s.given) : t.line.units = s.line.units :=
  congrArg (fun g => g.outer.units) h

theorem unitAt_of_given {s t : State} (h : t.given = s.given) (a : Nat) : unitAt t a = unitAt s a := by
  unfold unitAt; rw [units_of_given h]

theorem unbindUnit_units (a : Nat) (s : State) : (unbindUnit a s).line.units = updNth s.line.units a (fun _ => {}) := by
  show updNth (failCmds (fun c => c.addr == a) s).line.units a (fun _ => {}) = _
  rw [units_of_given (failCmds_given _ s)]

@[simp] theorem unbindUnit_units_length (a : Nat) (s : State) :
    (unbindUnit a s).line.units.length = s.line.units.length := by rw [unbindUnit_units, updNth_length]

@[simp] theorem bindUnit_units_length (a : Nat) (k : UnitKind) (n : Nat) (s : State) :
    (bindUnit a k n s).line.units.length = s.line.units.length := by
  obtain ⟨f, hf, hu⟩ := bindUnit_line a k n s
  rw [hf, onLine_line, hu, updNth_length]

theorem unitAt_unbindUnit (a b : Nat) (s : State) : unitAt (unbindUnit a s) b = if b = a then {} else unitAt s b := by
  unfold unitAt
  rw [unbindUnit_units, nth_updNth]
  split
  · cases nth s.line.units a <;> rfl
  · rfl

theorem unitAt_bindUnit {a : Nat} {s : State} (ha : 1 ≤ a) (hl : a ≤ s.line.units.length) (k : UnitKind) (n b : Nat) :
    unitAt (bindUnit a k n s) b = if b = a then boundUnit k n else unitAt s b := by
  obtain ⟨f, hf, hu⟩ := bindUnit_line a k n s
  unfold unitAt
  rw [hf, onLine_line, hu, nth_updNth]
  split
  · obtain ⟨x, hx⟩ := exists_nth ha hl
    rw [hx]; rfl
  · rfl

/-! ### A transmitter that becomes OFFLINE with no order (R129) -/

@[simp] theorem dropTune_besides (n : Nat) (s : State) : (dropTune n s).besides = s.besides := by
  unfold dropTune; dsimp only; (repeat' split) <;> simp

@[simp] theorem failOrdersOn_besides (n : Nat) (lo hi : Stage) (cause : FailCause) (s : State) :
    (failOrdersOn n lo hi cause s).besides = s.besides := forEach_keeps State.besides _ _ _ fun _ _ => rfl

@[simp] theorem loseWork_besides (n : Nat) (lo : Stage) (s : State) : (loseWork n lo s).besides = s.besides := by
  unfold loseWork; dsimp only; split <;> simp

theorem goOffline_besides {n : Nat} {s : State} (h : ordersOf s n = []) : (goOffline n s).besides = s.besides := by
  unfold goOffline
  dsimp only
  rw [h]
  split <;> simp

theorem dropTune_tx (n : Nat) (s : State) : ∃ f : TxCtl → TxCtl,
    (dropTune n s).tx = updNth s.tx n f ∧ ∀ x, (f x).memory = x.memory ∧ (f x).state = x.state := by
  unfold dropTune
  dsimp only
  split
  · exact ⟨id, (updNth_id ..).symm, fun x => ⟨rfl, rfl⟩⟩
  · refine ⟨fun x => { x with tune := none }, ?_, fun x => ⟨rfl, rfl⟩⟩
    split <;> rfl

@[simp] theorem failOrdersOn_tx (n : Nat) (lo hi : Stage) (cause : FailCause) (s : State) :
    (failOrdersOn n lo hi cause s).tx = s.tx := forEach_keeps State.tx _ _ _ fun _ _ => rfl

theorem loseWork_tx (n : Nat) (lo : Stage) (s : State) : ∃ f : TxCtl → TxCtl,
    (loseWork n lo s).tx = updNth s.tx n f ∧ ∀ x, (f x).memory = x.memory ∧ (f x).state = x.state := by
  have h : (loseWork n lo s).tx = (dropTune n s).tx := by
    unfold loseWork
    dsimp only
    split <;> exact failOrdersOn_tx ..
  rw [h]
  exact dropTune_tx n s

/-- Of Transmitter Control, becoming OFFLINE changes the one record, and not its memory. -/
theorem goOffline_tx (n : Nat) (s : State) : ∃ f : TxCtl → TxCtl, (goOffline n s).tx = updNth s.tx n f ∧
    (∀ x, (f x).memory = x.memory) ∧ ((txCtl s n).state ≠ .lockedOut → (f (txCtl s n)).state = .offline) := by
  have lose : ∀ t : State, t.tx = updNth s.tx n (TxCtl.to .offline) →
      ∃ f : TxCtl → TxCtl, (loseWork n .warming t).tx = updNth s.tx n f ∧
        (∀ x, (f x).memory = x.memory) ∧ ((txCtl s n).state ≠ .lockedOut → (f (txCtl s n)).state = .offline) := by
    intro t ht
    obtain ⟨f, hf, hx⟩ := loseWork_tx n .warming t
    refine ⟨f ∘ TxCtl.to .offline, by rw [hf, ht, updNth_updNth], fun x => ?_, fun _ => ?_⟩
    · rw [Function.comp, (hx _).1, TxCtl.to_memory]
    · rw [Function.comp, (hx _).2, TxCtl.to_state]
  unfold goOffline
  dsimp only
  split
  next h =>
    refine ⟨id, (updNth_id ..).symm, fun _ => rfl, fun hl => ?_⟩
    simpa [hl] using h
  next h => exact lose _ (by split <;> rfl)

end Sys2Proof.Machine
end

section
/-! PROOFS. A transmitter is defined or removed (R7). -/

namespace Sys2Proof.Machine

/-! ### The three phases of a change of addresses (R7) -/

/-- The change of the record changes its TLU, or its MDU. -/
def tluChanges (old new : Option TxRec) : Bool := old.map (·.tlu) != new.map (·.tlu)
def mduChanges (old new : Option TxRec) : Bool := old.map (·.mdu) != new.map (·.mdu)

/-- The old addresses that the change gives up are unbound. -/
def freeOld (old new : Option TxRec) (s : State) : State :=
  match old with
  | some r =>
    let t := if tluChanges old new then unbindUnit r.tlu s else s
    if mduChanges old new then unbindUnit r.mdu t else t
  | none => s

/-- A transmitter that loses its TLU becomes OFFLINE. -/
def quietTx (n : Nat) (old new : Option TxRec) (s : State) : State :=
  if tluChanges old new then updTx n (fun x => { x with telemetry := none, tuned := none }) (goOffline n s) else s

/-- The new addresses are bound. -/
def bindNew (n : Nat) (old new : Option TxRec) (s : State) : State :=
  match new with
  | some r =>
    let t := if tluChanges old new then bindUnit r.tlu .tlu n s else s
    if mduChanges old new then bindUnit r.mdu .mdu n t else t
  | none => s

theorem rebindTx_eq (n : Nat) (old new : Option TxRec) (s : State) :
    rebindTx n old new s = bindNew n old new (quietTx n old new (freeOld old new s)) := rfl

@[simp] theorem freeOld_besides (old new : Option TxRec) (s : State) : (freeOld old new s).besides = s.besides := by
  unfold freeOld; dsimp only; (repeat' split) <;> simp
@[simp] theorem freeOld_tx (old new : Option TxRec) (s : State) : (freeOld old new s).tx = s.tx := by
  unfold freeOld; dsimp only; (repeat' split) <;> simp
@[simp] theorem freeOld_chg (old new : Option TxRec) (s : State) : (freeOld old new s).chg = s.chg := by
  unfold freeOld; dsimp only; (repeat' split) <;> simp
@[simp] theorem freeOld_units_length (old new : Option TxRec) (s : State) :
    (freeOld old new s).line.units.length = s.line.units.length := by
  unfold freeOld; dsimp only; (repeat' split) <;> simp

/-- Every address given up is free. -/
theorem unitAt_freeOld {o : TxRec} {new : Option TxRec} {s : State} {b : Nat}
    (h : (tluChanges (some o) new = true ∧ b = o.tlu) ∨ (mduChanges (some o) new = true ∧ b = o.mdu)) :
    unitAt (freeOld (some o) new s) b = {} := by
  unfold freeOld
  dsimp only
  rcases h with ⟨h, rfl⟩ | ⟨h, rfl⟩
  · rw [if_pos h]
    split
    · rw [unitAt_unbindUnit, unitAt_unbindUnit, if_pos rfl, ite_self]
    · rw [unitAt_unbindUnit, if_pos rfl]
  · rw [if_pos h, unitAt_unbindUnit, if_pos rfl]

theorem quietTx_besides {n : Nat} {old new : Option TxRec} {s : State} (h : ordersOf s n = []) :
    (quietTx n old new s).besides = s.besides := by
  unfold quietTx
  split
  · rw [updTx_besides, goOffline_besides h]
  · rfl

@[simp] theorem quietTx_given (n : Nat) (old new : Option TxRec) (s : State) : (quietTx n old new s).given = s.given := by
  unfold quietTx; split <;> simp

/-- Of Transmitter Control the one record changes, and not its memory (R7, log 25). -/
theorem quietTx_tx (n : Nat) (old new : Option TxRec) (s : State) : ∃ f : TxCtl → TxCtl,
    (quietTx n old new s).tx = updNth s.tx n f ∧ (∀ x, (f x).memory = x.memory) ∧
    (tluChanges old new = true → (∀ x, (f x).telemetry = none ∧ (f x).tuned = none) ∧
      ((txCtl s n).state ≠ .lockedOut → (f (txCtl s n)).state = .offline)) := by
  unfold quietTx
  split
  next h =>
    obtain ⟨f, hf, hm, hs⟩ := goOffline_tx n s
    refine ⟨fun x => { f x with telemetry := none, tuned := none }, ?_, hm, fun _ => ⟨fun x => ⟨rfl, rfl⟩, hs⟩⟩
    show updNth (goOffline n s).tx n _ = _
    rw [hf, updNth_updNth]; rfl
  next h => exact ⟨id, (updNth_id ..).symm, fun _ => rfl, fun h' => absurd h' h⟩

@[simp] theorem bindNew_besides (n : Nat) (old new : Option TxRec) (s : State) : (bindNew n old new s).besides = s.besides := by
  unfold bindNew; dsimp only; (repeat' split) <;> simp
@[simp] theorem bindNew_tx (n : Nat) (old new : Option TxRec) (s : State) : (bindNew n old new s).tx = s.tx := by
  unfold bindNew; dsimp only; (repeat' split) <;> simp

section units
variable {n : Nat} {old : Option TxRec} {r : TxRec} {s : State}
  (ht : 1 ≤ r.tlu ∧ r.tlu ≤ 63) (hm : 1 ≤ r.mdu ∧ r.mdu ≤ 63) (hl : s.line.units.length = 63)
include ht hm hl

theorem unitAt_bindNew_other {b : Nat} (h1 : b ≠ r.tlu) (h2 : b ≠ r.mdu) :
    unitAt (bindNew n old (some r) s) b = unitAt s b := by
  unfold bindNew
  dsimp only
  (repeat' split) <;> simp [unitAt_bindUnit, *]

theorem unitAt_bindNew_tlu (hne : r.tlu ≠ r.mdu) (hc : tluChanges old (some r) = true) :
    unitAt (bindNew n old (some r) s) r.tlu = boundUnit .tlu n := by
  unfold bindNew
  dsimp only
  split <;> simp [unitAt_bindUnit, *]

omit ht in
theorem unitAt_bindNew_mdu (hc : mduChanges old (some r) = true) :
    unitAt (bindNew n old (some r) s) r.mdu = boundUnit .mdu n := by
  unfold bindNew
  dsimp only
  rw [if_pos hc, unitAt_bindUnit hm.1 (by split <;> simp [hl, hm.2]), if_pos rfl]

end units

/-! ### The change as a whole -/

theorem rebindTx_besides {n : Nat} {old new : Option TxRec} {s : State} (h : ordersOf s n = []) :
    (rebindTx n old new s).besides = s.besides := by
  have h' : ordersOf (freeOld old new s) n = [] := by unfold ordersOf; rw [freeOld_chg]; exact h
  rw [rebindTx_eq, bindNew_besides, quietTx_besides h', freeOld_besides]

theorem rebindTx_tx (n : Nat) (old new : Option TxRec) (s : State) : ∃ f : TxCtl → TxCtl,
    (rebindTx n old new s).tx = updNth s.tx n f ∧ (∀ x, (f x).memory = x.memory) ∧
    (tluChanges old new = true → (∀ x, (f x).telemetry = none ∧ (f x).tuned = none) ∧
      ((txCtl s n).state ≠ .lockedOut → (f (txCtl s n)).state = .offline)) := by
  obtain ⟨f, hf, hm, hc⟩ := quietTx_tx n old new (freeOld old new s)
  have ht : txCtl (freeOld old new s) n = txCtl s n := by unfold txCtl; rw [freeOld_tx]
  rw [ht] at hc
  exact ⟨f, by rw [rebindTx_eq, bindNew_tx, hf, freeOld_tx], hm, hc⟩

/-- An address given up and not taken again is free. -/
theorem unitAt_rebindTx_freed {n : Nat} {o : TxRec} {new : Option TxRec} {s : State} {b : Nat}
    (hnew : ∀ r ∈ new, (1 ≤ r.tlu ∧ r.tlu ≤ 63) ∧ (1 ≤ r.mdu ∧ r.mdu ≤ 63) ∧ b ≠ r.tlu ∧ b ≠ r.mdu)
    (hl : s.line.units.length = 63)
    (h : (tluChanges (some o) new = true ∧ b = o.tlu) ∨ (mduChanges (some o) new = true ∧ b = o.mdu)) :
    unitAt (rebindTx n (some o) new s) b = {} := by
  have hq : unitAt (quietTx n (some o) new (freeOld (some o) new s)) b = {} :=
    (unitAt_of_given (quietTx_given ..) b).trans (unitAt_freeOld h)
  have hlen : (quietTx n (some o) new (freeOld (some o) new s)).line.units.length = 63 := by
    rw [units_of_given (quietTx_given ..), freeOld_units_length, hl]
  rw [rebindTx_eq]
  cases new with
  | none => exact hq
  | some r =>
    obtain ⟨ht, hm, h1, h2⟩ := hnew r rfl
    rw [unitAt_bindNew_other ht hm hlen h1 h2, hq]

section member
variable {s u : State} {n : Nat} {f : TxCtl → TxCtl} (h : u.tx = updNth s.tx n f)
include h

theorem txCtl_of_upd_other {m : Nat} (hm : m ≠ n) : txCtl u m = txCtl s m := by
  unfold txCtl; rw [h, nth_updNth_ne _ hm]

theorem txCtl_of_upd_same (h1 : 1 ≤ n) (h2 : n ≤ s.tx.length) : txCtl u n = f (txCtl s n) := by
  obtain ⟨x, hx⟩ := exists_nth h1 h2
  unfold txCtl; rw [h, nth_updNth_same, hx]; rfl

end member

section protection
variable {s u : State} {n : Nat} {f : ProtRec → ProtRec} (h : u.prot = updNth s.prot n f)
include h

theorem protRec_of_upd_other {m : Nat} (hm : m ≠ n) : protRec u m = protRec s m := by
  unfold protRec; rw [h, nth_updNth_ne _ hm]

theorem protRec_of_upd_same (h1 : 1 ≤ n) (h2 : n ≤ s.prot.length) : protRec u n = f (protRec s n) := by
  obtain ⟨x, hx⟩ := exists_nth h1 h2
  unfold protRec; rw [h, nth_updNth_same, hx]; rfl

end protection

/-! ### Definition -/

theorem firstBad_eq_none {l : List (Nat × Bool)} : firstBad l = none ↔ ∀ x ∈ l, x.2 = true := by
  induction l with
  | nil => simp [firstBad]
  | cons x l ih =>
    obtain ⟨k, ok⟩ := x
    cases ok <;> simp [firstBad, ih]

/-- The addresses of a record that passes the range check lie between 1 and 63 (R2). -/
theorem txRecord_addresses {f : TxFields} (h : firstBad (txRanges f) = none) (inhibited : Bool) :
    (1 ≤ (txRecord f inhibited).tlu ∧ (txRecord f inhibited).tlu ≤ 63) ∧
    (1 ≤ (txRecord f inhibited).mdu ∧ (txRecord f inhibited).mdu ≤ 63) := by
  have hall := firstBad_eq_none.1 h
  have ht := hall (2, reqWithin 1 63 f.tlu) (by simp [txRanges])
  have hm := hall (3, reqWithin 1 63 f.mdu) (by simp [txRanges])
  unfold txRecord
  cases hft : f.tlu <;> cases hfm : f.mdu <;> simp_all [reqWithin, within_eq_true]

/-- A consistent record has its TLU and its MDU at two addresses (R4). -/
theorem tlu_ne_mdu_of_consistent {s : State} {n : Nat} {r : TxRec} (h : txInconsistent s n r = none) : r.tlu ≠ r.mdu := by
  have hall := firstBad_eq_none.1 h
  simp only [List.forall_mem_cons] at hall
  obtain ⟨-, -, -, htlu, -⟩ := hall
  intro he
  simp [he] at htlu

/-- A definition keeps the presets inside the new range (R7). -/
def presetsWithin (r : TxRec) (x : TxCtl) : TxCtl :=
  { x with memory := x.memory.map (Option.filter (fun p => within r.low r.high p.freq)) }

theorem defineTx_eq (n : Nat) (r : TxRec) (s : State) :
    defineTx n r s = updTx n (presetsWithin r) (rebindTx n (txRec? s n) (some r) (updTxRec n (fun _ => some r) s)) := rfl

theorem defineTx_frame {n : Nat} {r : TxRec} {s : State} (h : ordersOf s n = []) :
    { defineTx n r s with line := s.line, tx := s.tx, chg := s.chg, agenda := s.agenda } =
      s.onHall (fun k => { k with tx := updNth k.tx n (fun _ => some r) }) := by
  have hb : (defineTx n r s).besides = (updTxRec n (fun _ => some r) s).besides := by
    rw [defineTx_eq, updTx_besides, rebindTx_besides (s := updTxRec n (fun _ => some r) s) h]
  exact besides_eq hb

/-- Of Transmitter Control, a definition changes the one record: its memory is filtered, and a change of the TLU leaves it
without telemetry and OFFLINE. -/
theorem defineTx_tx (n : Nat) (r : TxRec) (s : State) : ∃ f : TxCtl → TxCtl, (defineTx n r s).tx = updNth s.tx n f ∧
    (∀ x, (f x).memory = x.memory.map (Option.filter (fun p => within r.low r.high p.freq))) ∧
    (tluChanges (txRec? s n) (some r) = true → (∀ x, (f x).telemetry = none ∧ (f x).tuned = none) ∧
      ((txCtl s n).state ≠ .lockedOut → (f (txCtl s n)).state = .offline)) := by
  obtain ⟨f, hf, hm, hc⟩ := rebindTx_tx n (txRec? s n) (some r) (updTxRec n (fun _ => some r) s)
  refine ⟨fun x => presetsWithin r (f x), ?_, fun x => congrArg _ (hm x), hc⟩
  show updNth (rebindTx n (txRec? s n) (some r) (updTxRec n (fun _ => some r) s)).tx n _ = _
  rw [hf, updNth_updNth]
  rfl

theorem unitAt_defineTx (n : Nat) (r : TxRec) (s : State) (b : Nat) : unitAt (defineTx n r s) b =
    unitAt (rebindTx n (txRec? s n) (some r) (updTxRec n (fun _ => some r) s)) b := rfl

theorem join_filter_eq_some {p : Preset → Bool} {l : List (Option Preset)} {i : Nat} {x : Preset} :
    ((l.map (Option.filter p))[i]?).join = some x ↔ (l[i]?).join = some x ∧ p x = true := by
  rw [List.getElem?_map]
  cases l[i]? with
  | none => simp
  | some o => cases o <;> simp [Option.filter_eq_some_iff]

theorem execTxDefine_defines {tag n : Nat} {s : State} (hs : s.running) (h1 : 1 ≤ n) (h2 : n ≤ 16)
    (hw : s.store.writing = none) (ho : ordersOf s n = []) {f : TxFields} {r : TxRec}
    (hr : txRecord f (((txRec? s n).map (·.inhibited)).getD false) = r)
    (hf : firstBad (txRanges f) = none) (hc : txInconsistent s n r = none)
    (he : failingEntry s (fun e => e.tx == n && (!within r.low r.high e.freq || !ModeSet.has r.modes e.mode)) = none)
    (hm : (∀ o ∈ txRec? s n, o.mdu = r.mdu) ∨ rowWhere s n XpState.inFlight = []) :
    execTxDefine tag n 1 f s = .next (okReply 0x01 tag .none (settle (defineTx n r s))) := by
  have hn : within 1 16 n = true := within_eq_true.2 ⟨h1, h2⟩
  have hbusy : ((txRec? s n).any (fun o => o.mdu != r.mdu) && rowMoving s n) = false := by
    rcases hm with h | h
    · cases ht : txRec? s n <;> simp_all
    · simp [rowMoving, h]
  refine request_accepted (data := fun _ => .none) hs.1 ?_
  rw [checks_pass (by simp [storeBusy_eq_false hw, hn, show within 1 2 1 = true from rfl])]
  simp only [hf, hr, hc, he, if_true]
  exact checks_pass (by simp [ho, hbusy])

/-! ### Removal -/

theorem setFactor_tx (n v : Nat) (o rho : Option Nat) (c : FoldCause) (s : State) : (setFactor n v o rho c s).tx = s.tx := by
  unfold setFactor; dsimp only; (repeat' split) <;> rfl

/-- A factor set is the factor, and the trips stay (R155). -/
theorem setFactor_prot (n v : Nat) (o rho : Option Nat) (c : FoldCause) (s : State) : ∃ f : ProtRec → ProtRec,
    (setFactor n v o rho c s).prot = updNth s.prot n f ∧ ((f (protRec s n)).factor = v) := by
  unfold setFactor
  dsimp only
  split
  next h => exact ⟨id, (updNth_id ..).symm, h⟩
  next h =>
    split
    · refine ⟨fun q => { q with factor := v, reported := v }, ?_, rfl⟩
      show updNth (updNth s.prot n _) n _ = _
      rw [updNth_updNth]; rfl
    · exact ⟨_, rfl, rfl⟩

/-- The state but for what a removal may touch: `besides`, the protection and the reports. -/
def State.besidesProt (s : State) : State := { s.besides with prot := [], port := {} }

theorem besidesProt_eq {s t : State} (h : t.besidesProt = s.besidesProt) :
    { t with line := s.line, tx := s.tx, chg := s.chg, agenda := s.agenda, prot := s.prot, port := s.port } = s := by
  cases s; cases t
  simp_all [State.besidesProt, State.besides, State.besidesLine]

theorem besidesProt_of_besides {s t : State} (h : t.besides = s.besides) : t.besidesProt = s.besidesProt := by
  unfold State.besidesProt; rw [h]

theorem setFactor_besidesProt (n v : Nat) (o rho : Option Nat) (c : FoldCause) (s : State) :
    (setFactor n v o rho c s).besidesProt = s.besidesProt := by
  unfold setFactor; dsimp only; (repeat' split) <;> rfl

theorem updProt_besidesProt (n : Nat) (f) (s : State) : (updProt n f s).besidesProt = s.besidesProt := rfl
theorem updProt_tx (n : Nat) (f) (s : State) : (updProt n f s).tx = s.tx := rfl
theorem updProt_prot (n : Nat) (f) (s : State) : (updProt n f s).prot = updNth s.prot n f := rfl

/-- A removed transmitter is OFFLINE, with an empty Tuning Memory (R7). -/
def clearedTx (x : TxCtl) : TxCtl := { x.to .offline with memory := List.replicate 64 none }

/-- A transmitter removed, but for its protection. -/
def strippedTx (n : Nat) (o : TxRec) (s : State) : State :=
  updTx n clearedTx (rebindTx n (some o) none (updTxRec n (fun _ => none) s))

theorem strippedTx_besides {n : Nat} {o : TxRec} {s : State} (h : ordersOf s n = []) :
    (strippedTx n o s).besides = (updTxRec n (fun _ => none) s).besides :=
  rebindTx_besides (s := updTxRec n (fun _ => none) s) h

theorem strippedTx_tx (n : Nat) (o : TxRec) (s : State) : ∃ f : TxCtl → TxCtl, (strippedTx n o s).tx = updNth s.tx n f ∧
    ∀ x, (f x).memory = List.replicate 64 none ∧ (f x).state = .offline := by
  obtain ⟨f, hf, -⟩ := rebindTx_tx n (some o) none (updTxRec n (fun _ => none) s)
  refine ⟨clearedTx ∘ f, ?_, fun x => ⟨rfl, TxCtl.to_state ..⟩⟩
  show updNth (rebindTx n (some o) none (updTxRec n (fun _ => none) s)).tx n _ = _
  rw [hf, updNth_updNth]
  rfl

theorem strippedTx_prot {n : Nat} {o : TxRec} {s : State} (h : ordersOf s n = []) : (strippedTx n o s).prot = s.prot := by
  injection strippedTx_besides (o := o) h

theorem removeTx_eq {n : Nat} {o : TxRec} {s : State} (h : txRec? s n = some o) : removeTx n s =
    updProt n (fun p => { p with trips := [] }) (setFactor n 1000 none none .reset (strippedTx n o s)) := by
  unfold removeTx
  rw [h]
  rfl

theorem removeTx_undefined {n : Nat} {s : State} (h : txRec? s n = none) : removeTx n s = s := by
  unfold removeTx; simp [h]

section removal
variable {n : Nat} {o : TxRec} {s : State} (ho : txRec? s n = some o)
include ho

theorem removeTx_frame (h : ordersOf s n = []) :
    { removeTx n s with line := s.line, tx := s.tx, chg := s.chg, agenda := s.agenda, prot := s.prot, port := s.port } =
      s.onHall (fun k => { k with tx := updNth k.tx n (fun _ => none) }) := by
  have hb : (removeTx n s).besidesProt = (updTxRec n (fun _ => none) s).besidesProt := by
    rw [removeTx_eq ho, updProt_besidesProt, setFactor_besidesProt]
    exact besidesProt_of_besides (strippedTx_besides h)
  exact besidesProt_eq hb

theorem removeTx_tx : ∃ f : TxCtl → TxCtl, (removeTx n s).tx = updNth s.tx n f ∧
    ∀ x, (f x).memory = List.replicate 64 none ∧ (f x).state = .offline := by
  rw [removeTx_eq ho, updProt_tx, setFactor_tx]
  exact strippedTx_tx n o s

theorem removeTx_prot (hb : ordersOf s n = []) : ∃ f : ProtRec → ProtRec, (removeTx n s).prot = updNth s.prot n f ∧
    (f (protRec s n)).factor = 1000 ∧ ∀ p, (f p).trips = [] := by
  obtain ⟨f, hf, hv⟩ := setFactor_prot n 1000 none none .reset (strippedTx n o s)
  have hrec : protRec (strippedTx n o s) n = protRec s n := by unfold protRec; rw [strippedTx_prot hb]
  rw [hrec] at hv
  refine ⟨fun p => { f p with trips := [] }, ?_, hv, fun p => rfl⟩
  rw [removeTx_eq ho, updProt_prot, hf, strippedTx_prot hb, updNth_updNth]
  rfl

theorem unitAt_removeTx (b : Nat) :
    unitAt (removeTx n s) b = unitAt (rebindTx n (some o) none (updTxRec n (fun _ => none) s)) b := by
  rw [removeTx_eq ho, unitAt_of_given (updProt_given ..), unitAt_of_given (setFactor_given ..)]
  rfl

theorem unitAt_removeTx_freed (hw : s.whole) {b : Nat} (h : b = o.tlu ∨ b = o.mdu) : unitAt (removeTx n s) b = {} := by
  rw [unitAt_removeTx ho]
  exact unitAt_rebindTx_freed nofun hw.units_length (h.imp (fun e => ⟨rfl, e⟩) (fun e => ⟨rfl, e⟩))

end removal

theorem execTxDefine_removes {tag n : Nat} {s : State} (hs : s.running) (h1 : 1 ≤ n) (h2 : n ≤ 16)
    (hw : s.store.writing = none) (ho : ordersOf s n = []) {f : TxFields}
    (hsb : ∀ r ∈ otherTx s n, r.standby ≠ some n) (he : failingEntry s (fun e => e.tx == n) = none)
    (hm : rowWhere s n XpState.inFlight = []) :
    execTxDefine tag n 2 f s = .next (okReply 0x01 tag .none (settle (removeTx n s))) := by
  have hn : within 1 16 n = true := within_eq_true.2 ⟨h1, h2⟩
  have hst : (otherTx s n).any (fun r => r.standby == some n) = false := by simpa using hsb
  refine request_accepted (data := fun _ => .none) hs.1 ?_
  rw [checks_pass (by simp [storeBusy_eq_false hw, hn, show within 1 2 2 = true from rfl])]
  simp only [he, if_neg (show ¬ (2 = 1) by decide)]
  rw [checks_pass (by simp [hst])]
  exact checks_pass (by simp [ho, rowMoving, hm])

/-- Where the TLU or the MDU differs, the old address is given up, and the new one is bound. -/
theorem tluChanges_iff {old : Option TxRec} {r : TxRec} :
    tluChanges old (some r) = true ↔ old.map (·.tlu) ≠ some r.tlu := by simp [tluChanges]

theorem mduChanges_iff {old : Option TxRec} {r : TxRec} :
    mduChanges old (some r) = true ↔ old.map (·.mdu) ≠ some r.mdu := by simp [mduChanges]

section definition
variable {n : Nat} {r : TxRec} {s : State} (hwhole : s.whole)
  (ht : 1 ≤ r.tlu ∧ r.tlu ≤ 63) (hm : 1 ≤ r.mdu ∧ r.mdu ≤ 63)
include hwhole ht hm

theorem unitAt_defineTx_freed {o : TxRec} (ho : txRec? s n = some o) {b : Nat} (h1 : b ≠ r.tlu) (h2 : b ≠ r.mdu)
    (h : b = o.tlu ∨ b = o.mdu) : unitAt (defineTx n r s) b = {} := by
  rw [unitAt_defineTx, ho]
  refine unitAt_rebindTx_freed (by simpa using ⟨ht, hm, h1, h2⟩) hwhole.units_length ?_
  rw [tluChanges_iff, mduChanges_iff]
  rcases h with rfl | rfl
  · exact .inl ⟨by simpa using h1, rfl⟩
  · exact .inr ⟨by simpa using h2, rfl⟩

theorem unitAt_defineTx_tlu (hne : r.tlu ≠ r.mdu) (h : (txRec? s n).map (·.tlu) ≠ some r.tlu) :
    unitAt (defineTx n r s) r.tlu = boundUnit .tlu n := by
  rw [unitAt_defineTx, rebindTx_eq]
  exact unitAt_bindNew_tlu ht hm (by rw [units_of_given (quietTx_given ..), freeOld_units_length]; exact hwhole.units_length)
    hne (tluChanges_iff.2 h)

omit ht in
theorem unitAt_defineTx_mdu (h : (txRec? s n).map (·.mdu) ≠ some r.mdu) :
    unitAt (defineTx n r s) r.mdu = boundUnit .mdu n := by
  rw [unitAt_defineTx, rebindTx_eq]
  exact unitAt_bindNew_mdu hm (by rw [units_of_given (quietTx_given ..), freeOld_units_length]; exact hwhole.units_length)
    (mduChanges_iff.2 h)

end definition

/-- Settles O29: the addresses given up are freed, the transmitter is quieted, and the new addresses are bound, in turn. -/
theorem aTransmitterIsDefinedOrRemoved : Obligations.ATransmitterIsDefinedOrRemoved := by
  intro tag n s hs hwhole h1 h2 hw ho
  have hlen : n ≤ s.tx.length := by rw [hwhole.tx_length]; exact h2
  constructor
  · intro f
    dsimp only
    generalize hr : txRecord f (((txRec? s n).map (·.inhibited)).getD false) = r
    intro hf hc he hm
    obtain ⟨hrt, hrm⟩ : (1 ≤ r.tlu ∧ r.tlu ≤ 63) ∧ (1 ≤ r.mdu ∧ r.mdu ≤ 63) := hr ▸ txRecord_addresses hf _
    obtain ⟨g, hg, hmem, htlu⟩ := defineTx_tx n r s
    have hsame := txCtl_of_upd_same hg h1 hlen
    refine ⟨defineTx n r s, execTxDefine_defines hs h1 h2 hw ho hr hf hc he hm, defineTx_frame ho,
      fun m => txCtl_of_upd_other hg, fun i p => ?_, fun h => ?_, fun o hu => ⟨fun ha hb => ?_, fun ha hb => ?_⟩,
      unitAt_defineTx_mdu hwhole hrm⟩
    · unfold presetAt
      rw [hsame, hmem, join_filter_eq_some, within_eq_true]
    · obtain ⟨hcleared, hoff⟩ := htlu (tluChanges_iff.2 h)
      rw [hsame]
      exact ⟨unitAt_defineTx_tlu hwhole hrt hrm (tlu_ne_mdu_of_consistent hc) h, (hcleared _).1, (hcleared _).2, hoff⟩
    · exact unitAt_defineTx_freed hwhole hrt hrm hu ha hb (.inl rfl)
    · exact unitAt_defineTx_freed hwhole hrt hrm hu hb ha (.inr rfl)
  · intro f hsb he hm
    have hexec := execTxDefine_removes (tag := tag) (f := f) hs h1 h2 hw ho hsb he hm
    refine ⟨fun hu => ?_, fun o hu => ?_⟩
    · rw [removeTx_undefined hu, settle_of_settled hs.2] at hexec
      exact hexec
    · obtain ⟨g, hg, hx⟩ := removeTx_tx hu
      obtain ⟨q, hq, hfactor, htrips⟩ := removeTx_prot hu ho
      have hsame := txCtl_of_upd_same hg h1 hlen
      refine ⟨removeTx n s, hexec, removeTx_frame hu ho, fun m hm => ⟨txCtl_of_upd_other hg hm, ?_⟩, fun i => ?_,
        ?_, ?_, ?_, ?_, ?_⟩
      · exact protRec_of_upd_other hq hm
      · unfold presetAt
        rw [hsame, (hx _).1]
        exact nth_replicate_join 64 (i + 1)
      · rw [hsame, (hx _).2]
      · rw [protRec_of_upd_same hq h1 (by rw [hwhole.prot_length]; exact h2), hfactor]
      · rw [protRec_of_upd_same hq h1 (by rw [hwhole.prot_length]; exact h2), htrips]
      · exact unitAt_removeTx_freed hu hwhole (.inl rfl)
      · exact unitAt_removeTx_freed hu hwhole (.inr rfl)

end Sys2Proof.Machine
end

section
/-! PROOFS. An antenna is defined or removed, and a load takes its rating (R9, R12, R13). -/

namespace Sys2Proof.Machine

theorem State.whole.rotators_length {s : State} (h : s.whole) : s.mx.rotators.length = 32 := congrArg Sizes.rotators h.1

theorem State.whole.cols_length {s : State} (h : s.whole) : s.dir.cols.length = 34 := congrArg Sizes.cols h.1

/-! ### What a change of an antenna leaves alone -/

/-- The state but for the Field Line, the rotators and the messages, which a change of an antenna's rotator may touch. -/
def State.besidesRot (s : State) : State := { s.besidesLine with mx := { s.mx with rotators := [] } }

theorem besidesRot_of_besidesLine {s t : State} (h : t.besidesLine = s.besidesLine) : t.besidesRot = s.besidesRot := by
  have hm : t.mx = s.mx := by injection h
  unfold State.besidesRot; rw [h, hm]

theorem setRotatorRecord_besidesRot (a : Nat) (r : Option Rotator) (s : State) :
    (setRotatorRecord a r s).besidesRot = s.besidesRot := rfl

theorem updRotator_besidesRot (a : Nat) (f : Rotator → Rotator) (s : State) :
    (updRotator a f s).besidesRot = s.besidesRot := rfl

/-- The old unit, if the change gives its address up, is unbound. -/
def freeAru (old new : Option RotatorPart) (s : State) : State :=
  match old with
  | some p => if old.map (·.aru) != new.map (·.aru) then unbindUnit p.aru s else s
  | none => s

theorem freeAru_besidesLine (old new : Option RotatorPart) (s : State) : (freeAru old new s).besidesLine = s.besidesLine := by
  unfold freeAru
  (repeat' split)
  · exact unbindUnit_besidesLine _ _
  · rfl
  · rfl

theorem freeAru_units_length (old new : Option RotatorPart) (s : State) :
    (freeAru old new s).line.units.length = s.line.units.length := by
  unfold freeAru; (repeat' split) <;> simp

theorem unitAt_freeAru {p : RotatorPart} {new : Option RotatorPart} (s : State) (h : new.map (·.aru) ≠ some p.aru) :
    unitAt (freeAru (some p) new s) p.aru = {} := by
  unfold freeAru
  dsimp only
  rw [if_pos (by simpa using h.symm), unitAt_unbindUnit, if_pos rfl]

/-! The four cases of `rebindAnt`: no rotator, a new one, one that goes, one that stays. -/

theorem rebindAnt_none (a : Nat) (s : State) : rebindAnt a none none s = s := rfl

theorem rebindAnt_new (a : Nat) (q : RotatorPart) (s : State) :
    rebindAnt a none (some q) s = bindUnit q.aru .aru a (setRotatorRecord a (some {}) s) := rfl

theorem rebindAnt_gone (a : Nat) (p : RotatorPart) (s : State) :
    rebindAnt a (some p) none s = setRotatorRecord a none (freeAru (some p) none s) := rfl

theorem rebindAnt_kept (a : Nat) {p q : RotatorPart} (s : State) (h : p.aru = q.aru) :
    rebindAnt a (some p) (some q) s = s := by
  unfold rebindAnt; simp [h]

theorem rebindAnt_moved (a : Nat) {p q : RotatorPart} (s : State) (h : p.aru ≠ q.aru) :
    rebindAnt a (some p) (some q) s =
      bindUnit q.aru .aru a (updRotator a (fun r => { r with azimuth := none }) (freeAru (some p) (some q) s)) := by
  unfold rebindAnt freeAru; simp [h]

theorem rebindAnt_besidesRot (a : Nat) (old new : Option RotatorPart) (s : State) :
    (rebindAnt a old new s).besidesRot = s.besidesRot := by
  have hb : ∀ (b : Nat) (t : State), (bindUnit b .aru a t).besidesRot = t.besidesRot :=
    fun b t => besidesRot_of_besidesLine (bindUnit_besidesLine ..)
  have hf : (freeAru old new s).besidesRot = s.besidesRot := besidesRot_of_besidesLine (freeAru_besidesLine ..)
  match old, new with
  | none, none => rw [rebindAnt_none]
  | none, some q => rw [rebindAnt_new, hb, setRotatorRecord_besidesRot]
  | some p, none => rw [rebindAnt_gone, setRotatorRecord_besidesRot, hf]
  | some p, some q =>
    by_cases h : p.aru = q.aru
    · rw [rebindAnt_kept a s h]
    · rw [rebindAnt_moved a s h, hb, updRotator_besidesRot, hf]

/-! ### The rotator records -/

theorem rotator_of_besidesLine {s t : State} (h : t.besidesLine = s.besidesLine) (b : Nat) : rotator? t b = rotator? s b := by
  have hm : t.mx = s.mx := by injection h
  unfold rotator?; rw [hm]

theorem rotator_setRotatorRecord {a : Nat} {s : State} (h1 : 1 ≤ a) (h2 : a ≤ s.mx.rotators.length) (r : Option Rotator) :
    rotator? (setRotatorRecord a r s) a = r := by
  obtain ⟨x, hx⟩ := exists_nth h1 h2
  show (nth (updNth s.mx.rotators a fun _ => r) a).join = r
  rw [nth_updNth_same, hx]; rfl

theorem rotator_setRotatorRecord_other {a b : Nat} (h : b ≠ a) (r : Option Rotator) (s : State) :
    rotator? (setRotatorRecord a r s) b = rotator? s b := by
  show (nth (updNth s.mx.rotators a fun _ => r) b).join = _
  rw [nth_updNth_ne _ h]; rfl

theorem rotator_updRotator (a b : Nat) (f : Rotator → Rotator) (s : State) :
    rotator? (updRotator a f s) b = if b = a then (rotator? s a).map f else rotator? s b := by
  show (nth (updNth s.mx.rotators a (Option.map f)) b).join = _
  rw [nth_updNth]
  split
  · unfold rotator?
    cases nth s.mx.rotators a with
    | none => rfl
    | some r => cases r <;> rfl
  · rfl

theorem rotator_freeAru (old new : Option RotatorPart) (s : State) (b : Nat) :
    rotator? (freeAru old new s) b = rotator? s b := rotator_of_besidesLine (freeAru_besidesLine ..) b

theorem rotator_bindUnit (c : Nat) (k : UnitKind) (n : Nat) (s : State) (b : Nat) :
    rotator? (bindUnit c k n s) b = rotator? s b := rotator_of_besidesLine (bindUnit_besidesLine ..) b

theorem rotator_rebindAnt_other {a b : Nat} (h : b ≠ a) (old new : Option RotatorPart) (s : State) :
    rotator? (rebindAnt a old new s) b = rotator? s b := by
  match old, new with
  | none, none => rw [rebindAnt_none]
  | none, some q => rw [rebindAnt_new, rotator_bindUnit, rotator_setRotatorRecord_other h]
  | some p, none => rw [rebindAnt_gone, rotator_setRotatorRecord_other h, rotator_freeAru]
  | some p, some q =>
    by_cases hc : p.aru = q.aru
    · rw [rebindAnt_kept a s hc]
    · rw [rebindAnt_moved a s hc, rotator_bindUnit, rotator_updRotator, if_neg h, rotator_freeAru]

section rebind
variable {a : Nat} {s : State} (h1 : 1 ≤ a) (h2 : a ≤ s.mx.rotators.length)

include h1 h2 in
theorem rotator_rebindAnt_new (q : RotatorPart) : rotator? (rebindAnt a none (some q) s) a = some {} := by
  rw [rebindAnt_new, rotator_bindUnit, rotator_setRotatorRecord h1 h2]

include h1 h2 in
theorem rotator_rebindAnt_gone (p : RotatorPart) : rotator? (rebindAnt a (some p) none s) a = none := by
  have hmx : (freeAru (some p) none s).mx = s.mx := by injection freeAru_besidesLine (some p) none s
  rw [rebindAnt_gone, rotator_setRotatorRecord h1 (by rw [hmx]; exact h2)]

theorem rotator_rebindAnt_moved {p q : RotatorPart} (h : p.aru ≠ q.aru) :
    rotator? (rebindAnt a (some p) (some q) s) a = (rotator? s a).map (fun k => { k with azimuth := none }) := by
  rw [rebindAnt_moved a s h, rotator_bindUnit, rotator_updRotator, if_pos rfl, rotator_freeAru]

theorem unitAt_rebindAnt_gone (p : RotatorPart) : unitAt (rebindAnt a (some p) none s) p.aru = {} := by
  rw [rebindAnt_gone, unitAt_of_given (setRotatorRecord_given ..)]
  exact unitAt_freeAru s nofun

section bound
variable {q : RotatorPart} (hq : 1 ≤ q.aru ∧ q.aru ≤ s.line.units.length)
include hq

theorem unitAt_rebindAnt_moved {p : RotatorPart} (h : p.aru ≠ q.aru) :
    unitAt (rebindAnt a (some p) (some q) s) p.aru = {} := by
  rw [rebindAnt_moved a s h, unitAt_bindUnit hq.1, if_neg h, unitAt_of_given (updRotator_given ..)]
  · exact unitAt_freeAru s (by simpa using h.symm)
  · exact hq.2.trans_eq (freeAru_units_length (some p) (some q) s).symm

theorem unitAt_rebindAnt_bound {old : Option RotatorPart} (h : old.map (·.aru) ≠ some q.aru) :
    unitAt (rebindAnt a old (some q) s) q.aru = boundUnit .aru a := by
  match old with
  | none => rw [rebindAnt_new, unitAt_bindUnit (s := setRotatorRecord a (some {}) s) hq.1 hq.2, if_pos rfl]
  | some p =>
    have hc : p.aru ≠ q.aru := by simpa using h
    rw [rebindAnt_moved a s hc, unitAt_bindUnit hq.1, if_pos rfl]
    exact hq.2.trans_eq (freeAru_units_length (some p) (some q) s).symm

end bound
end rebind

/-! ### Definition (R9, R12) -/

theorem defineAnt_eq (a : Nat) (r : AntRec) (s : State) :
    defineAnt a r s = rebindAnt a (rotatorPart? s a) r.rotator (updAntRec a (fun _ => some r) s) := rfl

theorem besidesRot_frame {s t : State} (h : t.besidesRot = s.besidesRot) :
    { t with line := s.line, mx := s.mx, agenda := s.agenda } = s ∧ { t.mx with rotators := s.mx.rotators } = s.mx := by
  cases s with | mk _ _ _ _ _ _ _ smx => cases t with | mk _ _ _ _ _ _ _ tmx =>
  cases smx; cases tmx
  simp_all [State.besidesRot, State.besidesLine]

theorem defineAnt_frame (a : Nat) (r : AntRec) (s : State) :
    { defineAnt a r s with line := s.line, mx := s.mx, agenda := s.agenda } =
      s.onHall (fun h => { h with ant := updNth h.ant a (fun _ => some r) }) ∧
    { (defineAnt a r s).mx with rotators := s.mx.rotators } = s.mx :=
  besidesRot_frame (rebindAnt_besidesRot a (rotatorPart? s a) r.rotator (updAntRec a (fun _ => some r) s))

/-- The ARU address of a record that passes the range check lies between 1 and 63 (R10). -/
theorem antRecord_address {f : AntFields} (h : antRangeFault f = none) {q : RotatorPart}
    (hq : (antRecord f).rotator = some q) : 1 ≤ q.aru ∧ q.aru ≤ 63 := by
  obtain ⟨r, hr, rfl⟩ := Option.map_eq_some_iff.1 hq
  have hfault : rotatorFault r = none := by
    unfold antRangeFault at h
    (repeat' split at h) <;> simp_all
  have hall := firstBad_eq_none.1 hfault
  simp only [List.forall_mem_cons] at hall
  exact within_eq_true.1 hall.1

theorem execAntDefine_defines {tag a : Nat} {s : State} (hs : s.running) (hw : s.store.writing = none) {f : AntFields}
    (h1 : 1 ≤ a) (h2 : a ≤ 32) (hf : antRangeFault f = none) (hc : antInconsistent s a f = none)
    (he : failingEntry s (entryFailsAnt a (antRecord f)) = none) (hb : antBusy s a (antRecord f).rotator = false) :
    execAntDefine tag a 1 f s = .next (okReply 0x03 tag .none (settle (defineAnt a (antRecord f) s))) := by
  have ha : within 1 34 a = true := within_eq_true.2 (by omega)
  refine request_accepted (data := fun _ => .none) hs.1 ?_
  rw [checks_pass (by simp [storeBusy_eq_false hw, ha]), if_neg (by omega),
    checks_pass (by simp [show within 1 2 1 = true from rfl])]
  simp only [hf, hc, he, if_true]
  exact checks_pass (by simp [hb])

/-! ### Removal (R12) -/

/-- The directory of an antenna removed: its flags are cleared (R12, log 58). -/
def unflagged (d : DirRec) : DirRec := { d with inhibited := false, suspect := false }

/-- The state but for what a removal may touch: the Field Line, the messages, the matrix, the directory and the reports. -/
def State.besidesDir (s : State) : State :=
  { s.besidesLine with mx := { rows := [], rotators := [] }, dir := { cols := [] }, port := {} }

theorem besidesDir_eq {s t : State} (h : t.besidesDir = s.besidesDir) :
    { t with line := s.line, mx := s.mx, agenda := s.agenda, dir := s.dir, port := s.port } = s := by
  cases s; cases t
  simp_all [State.besidesDir, State.besidesLine]

theorem besidesDir_of_besidesRot {s t : State} (h : t.besidesRot = s.besidesRot) : t.besidesDir = s.besidesDir :=
  congrArg (fun u : State => { u with mx := { rows := [], rotators := [] }, dir := { cols := [] }, port := {} }) h

/-- A removal without its flags: the record and its rotator go. -/
def strippedAnt (a : Nat) (s : State) : State := rebindAnt a (rotatorPart? s a) none (updAntRec a (fun _ => none) s)

theorem strippedAnt_besidesRot (a : Nat) (s : State) :
    (strippedAnt a s).besidesRot = (updAntRec a (fun _ => none) s).besidesRot :=
  rebindAnt_besidesRot ..

theorem strippedAnt_dir (a : Nat) (s : State) : (strippedAnt a s).dir = s.dir := by
  injection strippedAnt_besidesRot a s

theorem removeAnt_eq (a : Nat) (s : State) : removeAnt a s =
    if (dirRec s a).inhibited || (dirRec s a).suspect then antReport a .definition (updDir a unflagged (strippedAnt a s))
    else strippedAnt a s := rfl

theorem removeAnt_frame (a : Nat) (s : State) :
    { removeAnt a s with line := s.line, mx := s.mx, agenda := s.agenda, dir := s.dir, port := s.port } =
      s.onHall (fun h => { h with ant := updNth h.ant a (fun _ => none) }) := by
  have hs := besidesDir_of_besidesRot (strippedAnt_besidesRot a s)
  have hb : (removeAnt a s).besidesDir = (updAntRec a (fun _ => none) s).besidesDir := by
    rw [removeAnt_eq]
    split
    · exact hs
    · exact hs
  exact besidesDir_eq hb

theorem dirRec_updDir (c b : Nat) {f : DirRec → DirRec} (hf : f {} = {}) (s : State) :
    dirRec (updDir c f s) b = if b = c then f (dirRec s c) else dirRec s b := by
  show (nth (updNth s.dir.cols c f) b).getD {} = _
  rw [nth_updNth]
  split
  · unfold dirRec
    cases nth s.dir.cols c with
    | none => exact hf.symm
    | some d => rfl
  · rfl

theorem unflagged_of_clear {d : DirRec} (h1 : d.inhibited = false) (h2 : d.suspect = false) : unflagged d = d := by
  cases d; simp_all [unflagged]

theorem dirRec_removeAnt (a b : Nat) (s : State) :
    dirRec (removeAnt a s) b = if b = a then unflagged (dirRec s a) else dirRec s b := by
  have hd : ∀ c, dirRec (strippedAnt a s) c = dirRec s c := by
    intro c; unfold dirRec; rw [strippedAnt_dir]
  rw [removeAnt_eq]
  split
  · show dirRec (updDir a unflagged (strippedAnt a s)) b = _
    rw [dirRec_updDir a b rfl, hd, hd]
  next h =>
    obtain ⟨h1, h2⟩ : (dirRec s a).inhibited = false ∧ (dirRec s a).suspect = false := by simpa using h
    rw [hd]
    split
    next hb => rw [hb, unflagged_of_clear h1 h2]
    · rfl

theorem removeAnt_rotator (a b : Nat) (s : State) : rotator? (removeAnt a s) b = rotator? (strippedAnt a s) b := by
  rw [removeAnt_eq]; split <;> rfl

theorem unitAt_removeAnt (a b : Nat) (s : State) : unitAt (removeAnt a s) b = unitAt (strippedAnt a s) b := by
  rw [removeAnt_eq]; split <;> rfl

theorem execAntDefine_removes {tag a : Nat} {s : State} (hs : s.running) (hw : s.store.writing = none) {f : AntFields}
    (h1 : 1 ≤ a) (h2 : a ≤ 32) (he : failingEntry s (fun e => e.primary == a || e.alternate == some a) = none)
    (hb : antBusy s a none = false) :
    execAntDefine tag a 2 f s = .next (okReply 0x03 tag .none (settle (removeAnt a s))) := by
  have ha : within 1 34 a = true := within_eq_true.2 (by omega)
  refine request_accepted (data := fun _ => .none) hs.1 ?_
  rw [checks_pass (by simp [storeBusy_eq_false hw, ha]), if_neg (by omega),
    checks_pass (by simp [show within 1 2 2 = true from rfl])]
  simp only [he, if_neg (show ¬ (2 = 1) by decide)]
  exact checks_pass (by simp [hb])

/-! ### Loads (R13) -/

theorem mem_otherTx {s : State} {n : Nat} {r : TxRec} (h : r ∈ otherTx s n) : ∃ k, txRec? s k = some r := by
  unfold otherTx at h
  obtain ⟨k, -, hk⟩ := List.mem_filterMap.1 h
  split at hk
  · cases hk
  · exact ⟨k, hk⟩

/-- The effects of an accepted ANT-DEFINE of a load (R13). -/
def setLoad (a k : Nat) (s : State) : State := s.onHall (fun h => { h with loads := updNth h.loads (a - 32) (fun _ => k) })

theorem execAntDefine_load {tag a k : Nat} {s : State} (hs : s.running) (hw : s.store.writing = none)
    (ha : a = 33 ∨ a = 34) (h1 : 100 ≤ k) (h2 : k ≤ 1000) (hp : ∀ n r, txRec? s n = some r → r.searchPower ≤ k)
    (hres : (dirRec s a).state ≠ .reserved) (hass : (dirRec s a).state ≠ .assigned) :
    execAntDefine tag a 1 { rating := some k } s = .next (okReply 0x03 tag .none (setLoad a k s)) := by
  obtain ⟨hpow, hset⟩ := hs
  have hin : within 1 34 a = true := within_eq_true.2 (by omega)
  have hu : (setLoad a k s).settled := settled_eq rfl rfl rfl rfl rfl rfl hset
  have hrating : reqWithin 100 1000 (some k) = true := within_eq_true.2 ⟨h1, h2⟩
  have hpower : (otherTx s 0).any (fun r => decide (k < r.searchPower)) = false := by
    rw [List.any_eq_false]
    intro r hr
    obtain ⟨n, hn⟩ := mem_otherTx hr
    have := hp n r hn
    simp only [decide_eq_true_eq]
    omega
  refine request_accepted_settled (data := fun _ => .none) hpow hu ?_
  rw [checks_pass (by simp [storeBusy_eq_false hw, hin]), if_pos (by omega)]
  exact checks_pass (by simp [hrating, hpower, hres, hass])

/-- Settles O30: by the cases of `rebindAnt`, whether the antenna had a rotator and whether it has one now. -/
theorem anAntennaIsDefinedOrRemoved : Obligations.AnAntennaIsDefinedOrRemoved := by
  intro tag a s hs hwhole hw
  have hrot : ∀ {b}, b ≤ 32 → b ≤ s.mx.rotators.length := fun h => by rw [hwhole.rotators_length]; exact h
  refine ⟨fun f h1 h2 hf hc he hb => ?_, fun f h1 h2 he hb => ?_,
    fun k ha h1 h2 hp hres hass => execAntDefine_load hs hw ha h1 h2 hp hres hass⟩
  · have haddr : ∀ q, (antRecord f).rotator = some q → 1 ≤ q.aru ∧ q.aru ≤ s.line.units.length := by
      intro q hq
      rw [hwhole.units_length]
      exact antRecord_address hf hq
    obtain ⟨hframe, hmx⟩ := defineAnt_frame a (antRecord f) s
    refine ⟨defineAnt a (antRecord f) s, execAntDefine_defines hs hw h1 h2 hf hc he hb, hframe, hmx,
      fun b hb => rotator_rebindAnt_other hb _ _ _, fun ho hn => ?_,
      fun p ho => ⟨fun hn => ?_, fun q hn => ⟨fun hpq => ?_, fun hpq => ?_⟩⟩, fun q hn hpq => ?_⟩
    · obtain ⟨q, hq⟩ := Option.isSome_iff_exists.1 hn
      rw [defineAnt_eq, ho, hq]
      exact rotator_rebindAnt_new (s := updAntRec a _ s) h1 (hrot h2) q
    · rw [defineAnt_eq, ho, hn]
      exact ⟨rotator_rebindAnt_gone (s := updAntRec a _ s) h1 (hrot h2) p, unitAt_rebindAnt_gone p⟩
    · rw [defineAnt_eq, ho, hn]
      exact ⟨unitAt_rebindAnt_moved (s := updAntRec a _ s) (haddr q hn) hpq,
        rotator_rebindAnt_moved (s := updAntRec a _ s) hpq⟩
    · rw [defineAnt_eq, ho, hn, rebindAnt_kept _ _ hpq]
      exact ⟨rfl, rfl⟩
    · rw [defineAnt_eq, hn]
      exact unitAt_rebindAnt_bound (s := updAntRec a _ s) (haddr q hn) hpq
  · refine ⟨removeAnt a s, execAntDefine_removes hs hw h1 h2 he hb, removeAnt_frame a s,
      fun b hb => by rw [dirRec_removeAnt, if_neg hb], by rw [dirRec_removeAnt, if_pos rfl]; rfl, fun p ho => ?_⟩
    rw [removeAnt_rotator, unitAt_removeAnt]
    unfold strippedAnt
    rw [ho]
    exact ⟨rotator_rebindAnt_gone (s := updAntRec a _ s) h1 (hrot h2) p, unitAt_rebindAnt_gone p⟩

end Sys2Proof.Machine
end

section
/-! PROOFS. What a completed STORE has written comes back at power-on (R196, R197). -/

namespace Sys2Proof.Machine

/-! ### The slots and their generations (R196, R197) -/

/-- The generation written after `g` (R196). -/
def nextGeneration (g : Nat) : Nat := if g = 4294967295 then 1 else g + 1

theorem laterGeneration_next (g : Nat) : laterGeneration (nextGeneration g) g = true := by
  unfold laterGeneration nextGeneration
  by_cases h : g = 4294967295
  · simp [h]
  · simp [h]; omega

theorem not_laterGeneration_next (g : Nat) : laterGeneration g (nextGeneration g) = false := by
  unfold laterGeneration nextGeneration
  by_cases h : g = 4294967295
  · simp [h]
  · simp [h]; omega

/-- A slot named as the latest holds that good image. -/
theorem slot_of_latest {t : Store} {first : Bool} {g : Nat} {i : Image} (h : t.latest = some (first, g, i)) :
    (if first then t.slot1 else t.slot2) = .good g i := by
  unfold Store.latest at h
  (repeat' split at h) <;> cases h <;> simpa

theorem bad_of_latest_none {t : Store} (h : t.latest = none) : t.slot2 = .bad := by
  unfold Store.latest at h
  (repeat' split at h) <;> simp_all

/-- An image written where the next write goes is the latest. -/
theorem latest_setSlot_next (t : Store) (i : Image) :
    (t.setSlot t.nextWrite.1 (.good t.nextWrite.2 i)).latest = some (t.nextWrite.1, t.nextWrite.2, i) := by
  cases h : t.latest with
  | none =>
    have hn : t.nextWrite = (true, 1) := by unfold Store.nextWrite; rw [h]
    rw [hn]
    simp [Store.setSlot, Store.latest, bad_of_latest_none h]
  | some k =>
    obtain ⟨first, g, j⟩ := k
    have hn : t.nextWrite = (!first, nextGeneration g) := by unfold Store.nextWrite; rw [h]; rfl
    have hs := slot_of_latest h
    rw [hn]
    cases first
    · have hs' : t.slot2 = .good g j := hs
      simp [Store.setSlot, Store.latest, hs', laterGeneration_next]
    · have hs' : t.slot1 = .good g j := hs
      simp [Store.setSlot, Store.latest, hs', not_laterGeneration_next]

/-! ### STORE and its completion (R196) -/

theorem beginStore_settled {s : State} (tag : Nat) (h : s.settled) : (beginStore tag s).settled :=
  settled_eq rfl rfl rfl rfl rfl rfl h

theorem execStore_begins {tag : Nat} {s : State} (hp : s.pins.powered = true) (hw : s.store.writing = none) :
    execStore tag s = .next (beginStore tag s) := by
  simp [execStore, hp, storeBusy_eq_false hw]

/-- A write in flight whose completion comes: its slot is good, the reply is sent, and the report is offered. -/
def completeWrite (w : StoreWrite) (s : State) : State :=
  offerReport (.store (.written w.generation)) (queueReply 0x48 w.tag .ok .none (.stored w.generation)
    (s.onStore (fun t => { t.setSlot w.first (.good w.generation w.image) with writing := none })))

theorem execStoreWriteComplete_completes {s : State} {w : StoreWrite} (hp : s.pins.powered = true) (hset : s.settled)
    (hw : s.store.writing = some w) : execStoreWriteComplete s = .next (completeWrite w s) := by
  have h : (completeWrite w s).settled := settled_eq rfl rfl rfl rfl rfl rfl hset
  unfold execStoreWriteComplete event
  rw [if_pos hp]
  simp only [hw]
  exact congrArg _ (settle_of_settled h)

theorem completeWrite_frame (w : StoreWrite) (s : State) (x : Store) (p : Port) :
    { completeWrite w s with store := x, port := p } = { s with store := x, port := p } := rfl

/-- The write that a STORE begins (R196). -/
def storeWrite (tag : Nat) (s : State) : StoreWrite where
  first := s.store.nextWrite.1
  generation := s.store.nextWrite.2
  image := imageOf s
  tag := tag

theorem beginStore_writing (tag : Nat) (s : State) : (beginStore tag s).store.writing = some (storeWrite tag s) := rfl

theorem setSlot_setSlot (first : Bool) (x y : Slot) (w v : Option StoreWrite) (t : Store) :
    { ({ t.setSlot first x with writing := w } : Store).setSlot first y with writing := v } =
      { t.setSlot first y with writing := v } := by
  cases first <;> rfl

/-- The slots after a STORE and its completion: the image stands in the slot of the write. -/
theorem completeWrite_store (tag : Nat) (s : State) : (completeWrite (storeWrite tag s) (beginStore tag s)).store =
    { s.store.setSlot s.store.nextWrite.1 (.good s.store.nextWrite.2 (imageOf s)) with writing := none } :=
  setSlot_setSlot ..

theorem completeWrite_latest (tag : Nat) (s : State) : (completeWrite (storeWrite tag s) (beginStore tag s)).store.latest =
    some (s.store.nextWrite.1, s.store.nextWrite.2, imageOf s) := by
  rw [completeWrite_store]
  exact latest_setSlot_next s.store (imageOf s)

/-! ### Power-on from an image (R197) -/

/-- The state but for the Field Line. -/
def State.offLine (s : State) : State := { s with line := { units := [] } }

theorem bindAll_offLine (s : State) : (bindAll s).offLine = s.offLine := by
  unfold bindAll
  rw [forEach_keeps State.offLine, forEach_keeps State.offLine]
  all_goals
    intro n t
    split <;> rfl

theorem startPoll_offLine (s : State) : (startPoll s).offLine = s.offLine := by
  unfold startPoll; dsimp only; split <;> rfl

/-- The tables as an image gives them, before the addresses are bound. -/
def imageTables (i : Image) (s : State) : State :=
  let t : State := { s with
    hall := { tx := i.tx, ant := i.ant, loads := i.loads, par := i.par }
    banks := i.banks
    tx := i.memories.map (fun m => { memory := m })
    line := { s.line with rate := i.rate, window := i.window }
    mx := powerOnMatrix i }
  t.onDir (fun d => { d with cols := powerOnDir t (i.inhibited.zip i.suspect) })

theorem loadImage_eq (i : Image) (s : State) : loadImage i s = startPoll (bindAll (imageTables i s)) := rfl

theorem loadImage_offLine (i : Image) (s : State) : (loadImage i s).offLine = (imageTables i s).offLine := by
  rw [loadImage_eq, startPoll_offLine, bindAll_offLine]

theorem powerOnRow_counts (bound : Bool) (l : List (Nat × Bool)) :
    (powerOnRow bound l).map (fun x => (x.remaining, x.serviceDue)) = l := by
  unfold powerOnRow
  rw [List.map_map]
  exact List.map_id' l

theorem powerOnMatrix_counts {i : Image} (h : i.counts.length ≤ i.tx.length) :
    (powerOnMatrix i).rows.map (List.map (fun x => (x.remaining, x.serviceDue))) = i.counts := by
  unfold powerOnMatrix
  rw [List.map_map]
  simp only [Function.comp_def, powerOnRow_counts]
  exact List.map_snd_zip h

theorem upTo_length (n : Nat) : (upTo n).length = n := by simp [upTo]

theorem powerOnDir_flags {s : State} {l : List (Bool × Bool)} (h : l.length ≤ 34) :
    (powerOnDir s l).map (fun d => (d.inhibited, d.suspect)) = l := by
  unfold powerOnDir
  rw [List.map_map]
  exact List.map_snd_zip (by rw [upTo_length]; exact h)

/-- What the image of a state brings back of it, and what power-on leaves empty. -/
structure Restored (s t : State) : Prop where
  hall : t.hall = s.hall
  banks : t.banks = s.banks
  rate : t.line.rate = s.line.rate
  window : t.line.window = s.line.window
  memories : t.tx.map (·.memory) = s.tx.map (·.memory)
  counts : t.mx.rows.map (List.map (fun x => (x.remaining, x.serviceDue))) =
    s.mx.rows.map (List.map (fun x => (x.remaining, x.serviceDue)))
  flags : t.dir.cols.map (fun d => (d.inhibited, d.suspect)) = s.dir.cols.map (fun d => (d.inhibited, d.suspect))
  orders : t.chg.orders = []
  clock : t.clock = {}
  atRest : t.atRest

theorem Restored.offerReport {s t : State} (h : Restored s t) (b : ReportBody) : Restored s (offerReport b t) :=
  { h with }

theorem Restored.judgePermits {s t : State} (h : Restored s t) : Restored s (judgePermits t) := { h with }

theorem State.whole.rows_length {s : State} (h : s.whole) : s.mx.rows.length = 16 := by
  have := congrArg (fun z => z.rows.length) h.1
  simpa [State.sizes, Sizes.whole] using this

theorem loadImage_restores {s : State} (hw : s.whole) (u : State) : Restored s (loadImage (imageOf s) (freshFrom u)) := by
  have hnamed := loadImage_named (imageOf s) (freshFrom u)
  have hoff := loadImage_offLine (imageOf s) (freshFrom u)
  generalize loadImage (imageOf s) (freshFrom u) = t at hnamed hoff ⊢
  injection hoff with
    _ hhall hbanks hclock _ hchg hdir hmx htx _ _ _ _ _ _ hagenda hnotes _
  have htxs : s.hall.tx.length = 16 := hw.2.1
  have hflags : (imageOf s).inhibited.zip (imageOf s).suspect = s.dir.cols.map (fun d => (d.inhibited, d.suspect)) :=
    List.zip_map' ..
  exact {
    hall := hhall
    banks := hbanks
    rate := congrArg Named.rate hnamed
    window := congrArg Named.window hnamed
    memories := by
      rw [htx]
      show ((s.tx.map (·.memory)).map (fun m => ({ memory := m } : TxCtl))).map (·.memory) = _
      rw [List.map_map]
      exact List.map_id _
    counts := by
      rw [hmx]
      refine powerOnMatrix_counts ?_
      show (s.mx.rows.map _).length ≤ s.hall.tx.length
      rw [List.length_map, hw.rows_length, htxs]
    flags := by
      rw [hdir]
      refine (powerOnDir_flags ?_).trans hflags
      rw [hflags, List.length_map, hw.cols_length]
    orders := congrArg Changeover.orders hchg
    clock := hclock
    atRest := ⟨hagenda, hnotes⟩ }

theorem powerUp_restores {s u : State} (hw : s.whole) {first : Bool} {g : Nat}
    (h : u.store.latest = some (first, g, imageOf s)) : Restored s (powerUp u) := by
  have hr := loadImage_restores hw u
  rcases powerUp_cases u with ⟨_, _, i, hi, e⟩ | ⟨hn, -⟩
  · obtain ⟨-, -, rfl⟩ : _ ∧ _ ∧ imageOf s = i := by simpa [h] using hi
    rcases e with e | e
    · rw [e]; exact hr
    · rw [e]; exact hr.offerReport _
  · rw [h] at hn
    cases hn

/-- The state after POWER_LOSS (log 6). -/
def unpowered (s : State) : State :=
  judgePermits ((s.onPins (fun p => { p with powered := false })).onStore (fun t => { t with writing := none }))

theorem execPowerOn_unpowered (s : State) : execPowerOn (unpowered s) = .next (judgePermits (powerUp (unpowered s))) := by
  unfold execPowerOn
  rw [if_neg (by simp [unpowered, judgePermits])]

/-- The state after a STORE, its completion, and a loss of power. -/
def storedAndLost (tag : Nat) (s : State) : State := unpowered (completeWrite (storeWrite tag s) (beginStore tag s))

theorem powerOn_restores_stored (tag : Nat) {s : State} (hw : s.whole) :
    Restored s (judgePermits (powerUp (storedAndLost tag s))) :=
  (powerUp_restores (u := storedAndLost tag s) hw (completeWrite_latest tag s)).judgePermits

/-- Settles O56: the image stands in the slot of the write, that slot is the latest, and power-on loads it. -/
theorem aCompletedStoreComesBackAtPowerOn : Obligations.ACompletedStoreComesBackAtPowerOn := by
  intro tag s hs hw hwriting
  obtain ⟨hp, hset⟩ := hs
  have hcomplete := execStoreWriteComplete_completes (s := beginStore tag s) hp (beginStore_settled tag hset)
    (beginStore_writing tag s)
  have hon := execPowerOn_unpowered (completeWrite (storeWrite tag s) (beginStore tag s))
  obtain ⟨hhall, hbanks, hrate, hwindow, hmem, hcounts, hflags, horders, hclock, hrest⟩ := powerOn_restores_stored tag hw
  have hjudged := judgePermits_follow (powerUp (storedAndLost tag s))
  unfold storedAndLost at *
  generalize judgePermits (powerUp _) = t4 at *
  exact ⟨beginStore tag s, _, _, t4, execStore_begins hp hwriting, rfl, rfl, hcomplete,
    completeWrite_frame .., congrArg Store.writing (completeWrite_store tag s), ⟨_, _, completeWrite_latest tag s⟩, rfl, hon,
    ⟨hrest, hjudged⟩, hhall, hbanks, hrate, hwindow, hmem, hcounts, hflags, horders,
    congrArg Clock.state hclock, congrArg Clock.enable hclock⟩

end Sys2Proof.Machine
end

section
/-! PROOFS. The limits of the queues, rings, tables and lists (O7): the invariant, and the rule of each update of the state. -/

-- The side conditions that the lemmas close by tactics (`:= by intro o; rfl`) hold a thread each when proofs run in parallel.
set_option Elab.async false

namespace Sys2Proof.Machine

/-! ### The invariant

While an order takes a new stage it may stand in a wait list for a moment under a stage that does not wait: between its entry
into CLOSING and its leaving the lists (R81), and between its claim and its entry into WARMING or CLEARING (R70). The invariant
below therefore allows one order, `x`, to wait in any stage; with `x = none` it is `State.limits`. -/

/-- The id is that of a live order which meets `p`, and which is in a waiting stage or the one excepted. -/
def Waitable (x : Option Nat) (l : List Order) (p : Order → Prop) (id : Nat) : Prop :=
  ∃ o ∈ l, o.id = id ∧ p o ∧ (Stage.between .warming .recovering o.stage = true ∨ x = some id)

/-- The wait list of antenna `c` holds no id twice, none that claims the antenna or is its handover order, and only ids of
orders that may wait for it (R101). -/
structure WaitsWell (x : Option Nat) (l : List Order) (c : Nat) (d : DirRec) : Prop where
  nodup : d.waiting.Nodup
  claiming : ∀ id ∈ d.waiting, d.claiming ≠ some id
  handover : ∀ id ∈ d.waiting, d.handover ≠ some id
  live : ∀ id ∈ d.waiting, Waitable x l (·.antenna = some c) id

/-- The load wait list holds no id twice, and only ids of orders that may wait (R104). -/
structure LoadsWell (x : Option Nat) (l : List Order) (w : List Nat) : Prop where
  nodup : w.Nodup
  live : ∀ id ∈ w, Waitable x l (fun _ => True) id

/-- `State.limits`, but that the order excepted may wait in any stage. -/
structure LimitsBut (x : Option Nat) (s : State) : Prop where
  reports : s.port.reports ≤ Config.maxReports
  rx : s.port.rx.length ≤ Config.maxReceived
  ring : s.log.ring.length ≤ Config.maxFaults
  commands : s.line.queue.length ≤ Config.maxCommands
  orders : s.chg.orders.length ≤ Config.maxOrders
  ids : (s.chg.orders.map (·.id)).Nodup
  tripTimes : ∀ o ∈ s.chg.orders, o.tripTimes.length ≤ 5
  deferred : s.staging.deferred.length ≤ Config.maxDeferred
  trips : ∀ p ∈ s.prot, p.trips.length ≤ 5
  banks : s.banksInOrder
  waits : ∀ c ∈ upTo 32, WaitsWell x s.chg.orders c (dirRec s c)
  loads : LoadsWell x s.chg.orders s.dir.loadWait
  requests : s.mx.queue.Pairwise (fun p q => (p.row, p.col, p.dir) ≠ (q.row, q.col, q.dir))
  credits : s.mx.movements.length ≤ s.hall.par.credits

/-- A list of ids of live orders, none twice, is no longer than the Order Table. -/
theorem waiting_length_le {x : Option Nat} {l : List Order} {p : Order → Prop} {w : List Nat} (hw : w.Nodup)
    (hl : ∀ id ∈ w, Waitable x l p id) : w.length ≤ l.length := by
  have hsub : w ⊆ l.map (·.id) := fun id hid => by
    obtain ⟨o, ho, rfl, -⟩ := hl id hid
    exact List.mem_map_of_mem ho
  simpa using (hw.subperm hsub).length_le

theorem limits_iff (s : State) : s.limits ↔ LimitsBut none s := by
  constructor
  · rintro ⟨h1, h2, h3, h4, h5, h6, h7, h8, h9, h10, hw, ⟨-, hn, hl⟩, hq, hm⟩
    refine ⟨h1, h2, h3, h4, h5, h6, h8, h7, h9, h10, fun c hc => ?_, ⟨hn, fun id hid => ?_⟩, hq, hm⟩
    · obtain ⟨-, hnodup, hlive⟩ := hw c hc
      refine ⟨hnodup, fun id hid => (hlive id hid).1, fun id hid => (hlive id hid).2.1, fun id hid => ?_⟩
      obtain ⟨-, -, o, ho, hoid, ha, hst⟩ := hlive id hid
      exact ⟨o, ho, hoid, ha, .inl hst⟩
    · obtain ⟨o, ho, hoid, hst⟩ := hl id hid
      exact ⟨o, ho, hoid, trivial, .inl hst⟩
  · intro h
    refine ⟨h.reports, h.rx, h.ring, h.commands, h.orders, h.ids, h.deferred, h.tripTimes, h.trips, h.banks, fun c hc => ?_,
      ⟨(waiting_length_le h.loads.nodup h.loads.live).trans h.orders, h.loads.nodup, fun id hid => ?_⟩, h.requests, h.credits⟩
    · have w := h.waits c hc
      refine ⟨(waiting_length_le w.nodup w.live).trans h.orders, w.nodup, fun id hid =>
        ⟨w.claiming id hid, w.handover id hid, ?_⟩⟩
      obtain ⟨o, ho, hoid, ha, hst⟩ := w.live id hid
      exact ⟨o, ho, hoid, ha, hst.resolve_right nofun⟩
    · obtain ⟨o, ho, hoid, -, hst⟩ := h.loads.live id hid
      exact ⟨o, ho, hoid, hst.resolve_right nofun⟩

/-! ### Waiting lists and directory records -/

section waiting
variable {x : Option Nat} {l : List Order} {c : Nat} {d e : DirRec}

/-- Another Order Table in which every order that may wait may still wait. -/
theorem WaitsWell.of_waitable {y : Option Nat} {m : List Order} (h : WaitsWell x l c d)
    (hl : ∀ id ∈ d.waiting, Waitable x l (·.antenna = some c) id → Waitable y m (·.antenna = some c) id) : WaitsWell y m c d :=
  { h with live := fun id hid => hl id hid (h.live id hid) }

theorem LoadsWell.of_waitable {y : Option Nat} {m : List Order} {w : List Nat} (h : LoadsWell x l w)
    (hl : ∀ id ∈ w, Waitable x l (fun _ => True) id → Waitable y m (fun _ => True) id) : LoadsWell y m w :=
  { h with live := fun id hid => hl id hid (h.live id hid) }

/-- A shorter wait list, and no new claiming or handover order that waits. -/
theorem WaitsWell.shrink (h : WaitsWell x l c d) (hw : e.waiting.Sublist d.waiting)
    (hc : ∀ id ∈ e.waiting, e.claiming = some id → d.claiming = some id)
    (hh : ∀ id ∈ e.waiting, e.handover = some id → d.handover = some id) : WaitsWell x l c e where
  nodup := h.nodup.sublist hw
  claiming id hid he := h.claiming id (hw.subset hid) (hc id hid he)
  handover id hid he := h.handover id (hw.subset hid) (hh id hid he)
  live id hid := h.live id (hw.subset hid)

/-- The same wait list, claim and handover order. -/
theorem WaitsWell.same (h : WaitsWell x l c d) (hw : e.waiting = d.waiting) (hc : e.claiming = d.claiming)
    (hh : e.handover = d.handover) : WaitsWell x l c e :=
  h.shrink (hw ▸ List.Sublist.refl _) (fun _ _ he => hc ▸ he) (fun _ _ he => hh ▸ he)

theorem LoadsWell.sublist {w v : List Nat} (h : LoadsWell x l w) (hv : v.Sublist w) : LoadsWell x l v :=
  ⟨h.nodup.sublist hv, fun id hid => h.live id (hv.subset hid)⟩

theorem WaitsWell.empty (hw : d.waiting = []) : WaitsWell x l c d := by
  constructor <;> simp [hw]

end waiting

/-- An order joins a wait list at its place, and nothing else changes there (R101). -/
theorem insertWaiting_perm (s : State) (o : Order) (l : List Nat) : (insertWaiting s o l).Perm (o.id :: l) := by
  induction l with
  | nil => exact .refl _
  | cons k l ih =>
    have hlater : (k :: insertWaiting s o l).Perm (o.id :: k :: l) := (ih.cons k).trans (.swap ..)
    unfold insertWaiting
    split
    · split
      · exact .refl _
      · exact hlater
    · exact hlater

theorem mem_upTo {n k : Nat} : k ∈ upTo n ↔ 1 ≤ k ∧ k ≤ n := by
  simp only [upTo, List.mem_map, List.mem_range]
  constructor
  · rintro ⟨a, ha, rfl⟩; omega
  · intro h; exact ⟨k - 1, by omega, by omega⟩

/-- A column's record after an update is the old one, or what the update makes of it. -/
theorem dirRec_updDir_cases (c b : Nat) (f : DirRec → DirRec) (s : State) :
    dirRec (updDir c f s) b = dirRec s b ∨ b = c ∧ dirRec (updDir c f s) b = f (dirRec s c) := by
  have h : dirRec (updDir c f s) b = (nth (updNth s.dir.cols c f) b).getD {} := rfl
  rw [h, nth_updNth]
  split
  next hb =>
    subst hb
    unfold dirRec
    cases nth s.dir.cols b with
    | none => exact .inl rfl
    | some d => exact .inr ⟨rfl, rfl⟩
  · exact .inl rfl

theorem mem_updNth {α : Type} {l : List α} {n : Nat} {f : α → α} {y : α} (h : y ∈ updNth l n f) : y ∈ l ∨ ∃ z ∈ l, y = f z := by
  unfold updNth at h
  split at h
  · exact .inl h
  · obtain ⟨i, hi⟩ := List.mem_iff_getElem?.mp h
    rw [List.getElem?_modify] at hi
    cases hz : l[i]? with
    | none => simp [hz] at hi
    | some z =>
      have hmem : z ∈ l := List.mem_of_getElem? hz
      simp only [hz, Option.map_eq_map, Option.map_some, Option.some.injEq] at hi
      split at hi
      · exact .inr ⟨z, hmem, hi.symm⟩
      · exact .inl (hi ▸ hmem)

/-! ### One rule for each update of the state -/

namespace LimitsBut

variable {x : Option Nat} {s : State} (h : LimitsBut x s)
include h

protected theorem onPins {f} : LimitsBut x (s.onPins f) := { h with }
protected theorem onClock {f} : LimitsBut x (s.onClock f) := { h with }
protected theorem onTx {f} : LimitsBut x (s.onTx f) := { h with }
protected theorem onStats {f} : LimitsBut x (s.onStats f) := { h with }
protected theorem onAgenda {f} : LimitsBut x (s.onAgenda f) := { h with }
protected theorem onNotes {f} : LimitsBut x (s.onNotes f) := { h with }
protected theorem withPending {l} : LimitsBut x { s with pending := l } := { h with }
protected theorem emit {g} : LimitsBut x (emit g s) := { h with }
protected theorem updTx {n f} : LimitsBut x (updTx n f s) := { h with }
protected theorem updUnit {a f} : LimitsBut x (updUnit a f s) := { h with }
protected theorem updRotator {a f} : LimitsBut x (updRotator a f s) := { h with }
protected theorem updXp {r c f} : LimitsBut x (updXp r c f s) := { h with }
protected theorem setXp {r c st} : LimitsBut x (setXp r c st s) := { h with }
protected theorem setRotatorRecord {a r} : LimitsBut x (setRotatorRecord a r s) := { h with }
protected theorem updTxRec {n f} : LimitsBut x (updTxRec n f s) := { h with }
protected theorem updAntRec {a f} : LimitsBut x (updAntRec a f s) := { h with }
protected theorem judgePermits : LimitsBut x (judgePermits s) := { h with }
protected theorem count {k q} : LimitsBut x (count k q s) := { h with }
protected theorem countDir {t} : LimitsBut x (countDir t s) := { h with }

protected theorem onHall {f} (hf : (f s.hall).par.credits = s.hall.par.credits) : LimitsBut x (s.onHall f) :=
  { h with credits := hf ▸ h.credits }

protected theorem onPort {f} (ho : (f s.port).reports ≤ Config.maxReports) (hr : (f s.port).rx.length ≤ Config.maxReceived) :
    LimitsBut x (s.onPort f) := { h with reports := ho, rx := hr }

protected theorem onLog {f} (hf : (f s.log).ring.length ≤ Config.maxFaults) : LimitsBut x (s.onLog f) :=
  { h with ring := hf }

protected theorem onLine {f} (hf : (f s.line).queue.length ≤ s.line.queue.length) : LimitsBut x (s.onLine f) :=
  { h with commands := hf.trans h.commands }

protected theorem onStaging {f} (hf : (f s.staging).deferred.length ≤ s.staging.deferred.length) :
    LimitsBut x (s.onStaging f) := { h with deferred := hf.trans h.deferred }

/-- A change of the protection records, each of which keeps no more than five trips. -/
protected theorem onProt {f} (hf : ∀ p ∈ f s.prot, p.trips.length ≤ 5) : LimitsBut x (s.onProt f) := { h with trips := hf }

protected theorem updProt {n : Nat} {f : ProtRec → ProtRec}
    (hf : ∀ p, p.trips.length ≤ 5 → (f p).trips.length ≤ 5 := by intro p hp; exact hp) :
    LimitsBut x (updProt n f s) := h.onProt fun p hp => by
  rcases mem_updNth hp with hp | ⟨q, hq, rfl⟩
  · exact h.trips p hp
  · exact hf q (h.trips q hq)

/-- The matrix with queued requests that name different crosspoints or directions, and no more movements than before. -/
protected theorem onMx {f}
    (hq : (f s.mx).queue.Pairwise (fun p q => (p.row, p.col, p.dir) ≠ (q.row, q.col, q.dir)))
    (hm : (f s.mx).movements.length ≤ s.mx.movements.length) : LimitsBut x (s.onMx f) :=
  { h with requests := hq, credits := hm.trans h.credits }

/-- The directory with a wait list in order in each column. -/
protected theorem onDir {f} (hw : ∀ c ∈ upTo 32, WaitsWell x s.chg.orders c (dirRec (s.onDir f) c))
    (hl : LoadsWell x s.chg.orders (f s.dir).loadWait) : LimitsBut x (s.onDir f) := { h with waits := hw, loads := hl }

protected theorem updDir {c : Nat} {f : DirRec → DirRec}
    (hf : c ∈ upTo 32 → WaitsWell x s.chg.orders c (dirRec s c) → WaitsWell x s.chg.orders c (f (dirRec s c))) :
    LimitsBut x (updDir c f s) := h.onDir (fun b hb => by
      rcases dirRec_updDir_cases c b f s with e | ⟨rfl, e⟩
      · exact e ▸ h.waits b hb
      · exact e ▸ hf hb (h.waits b hb)) h.loads

/-- An update of a column that keeps its wait list, claim and handover order. -/
protected theorem updDir_same {c : Nat} {f : DirRec → DirRec}
    (hw : (f (dirRec s c)).waiting = (dirRec s c).waiting := by rfl)
    (hc : (f (dirRec s c)).claiming = (dirRec s c).claiming := by rfl)
    (hh : (f (dirRec s c)).handover = (dirRec s c).handover := by rfl) : LimitsBut x (updDir c f s) :=
  h.updDir fun _ w => w.same hw hc hh

/-- A loop each of whose turns keeps the limits. -/
protected theorem forEach {α : Type} {l : List α} {f : α → State → State}
    (hf : ∀ a ∈ l, ∀ t, LimitsBut x t → LimitsBut x (f a t)) : LimitsBut x (forEach l f s) := by
  unfold Machine.forEach
  induction l generalizing s with
  | nil => exact h
  | cons a l ih =>
    exact ih (hf a (List.mem_cons_self ..) s h) fun b hb => hf b (List.mem_cons_of_mem _ hb)

protected theorem ite {c : Prop} {_ : Decidable c} {t : State} (ht : LimitsBut x t) : LimitsBut x (if c then s else t) := by
  split
  · exact h
  · exact ht

/-- The order excepted by name may also be none. -/
theorem but (id : Nat) (hx : x = none := by rfl) : LimitsBut (some id) s := by
  subst hx
  have hmore : ∀ {p : Order → Prop} (k), Waitable none s.chg.orders p k → Waitable (some id) s.chg.orders p k := by
    rintro p k ⟨o, ho, hid, hp, hst⟩
    exact ⟨o, ho, hid, hp, .inl (hst.resolve_right nofun)⟩
  exact { h with
    waits := fun c hc => (h.waits c hc).of_waitable fun k _ => hmore k
    loads := h.loads.of_waitable fun k _ => hmore k }

end LimitsBut

/-! ### The Order Table -/

/-- No two live orders have one id, so the order found by its id is every one that has it. -/
theorem eq_of_order? {s : State} {id : Nat} {o p : Order} (hn : (s.chg.orders.map (·.id)).Nodup) (ho : order? s id = some o)
    (hp : p ∈ s.chg.orders) (hid : p.id = id) : p = o := by
  have hmem : o ∈ s.chg.orders := List.mem_of_find?_eq_some ho
  have hoid : o.id = id := by simpa using List.find?_some ho
  exact List.inj_on_of_nodup_map hn hp hmem (hid.trans hoid.symm)

theorem order?_mem {s : State} {id : Nat} {o : Order} (ho : order? s id = some o) : o ∈ s.chg.orders ∧ o.id = id :=
  ⟨List.mem_of_find?_eq_some ho, by simpa using List.find?_some ho⟩

theorem mem_updOrder {s : State} {id : Nat} {f : Order → Order} {p : Order} (h : p ∈ (updOrder id f s).chg.orders) :
    p ∈ s.chg.orders ∧ p.id ≠ id ∨ ∃ o ∈ s.chg.orders, o.id = id ∧ p = f o := by
  obtain ⟨o, ho, rfl⟩ := List.mem_map.mp h
  by_cases hid : o.id = id
  · exact .inr ⟨o, ho, hid, if_pos hid⟩
  · rw [if_neg hid]; exact .inl ⟨ho, hid⟩

theorem mem_updOrder_of_ne {s : State} {id : Nat} {f : Order → Order} {p : Order} (h : p ∈ s.chg.orders) (hid : p.id ≠ id) :
    p ∈ (updOrder id f s).chg.orders := List.mem_map.mpr ⟨p, h, if_neg hid⟩

theorem mem_updOrder_of_eq {s : State} {id : Nat} {f : Order → Order} {p : Order} (h : p ∈ s.chg.orders) (hid : p.id = id) :
    f p ∈ (updOrder id f s).chg.orders := List.mem_map.mpr ⟨p, h, if_pos hid⟩

/-- An order that may wait may still do so after an update that keeps ids, and keeps the updated order where it was. -/
theorem Waitable.updOrder {x y : Option Nat} {s : State} {p : Order → Prop} {id k : Nat} {f : Order → Order}
    (hid : ∀ o, (f o).id = o.id)
    (hf : ∀ o ∈ s.chg.orders, o.id = id → p o → Stage.between .warming .recovering o.stage = true ∨ x = some id →
      p (f o) ∧ (Stage.between .warming .recovering (f o).stage = true ∨ y = some id))
    (hxy : k ≠ id → x = some k → y = some k) (h : Waitable x s.chg.orders p k) :
    Waitable y (updOrder id f s).chg.orders p k := by
  obtain ⟨o, ho, hk, hp, hst⟩ := h
  subst hk
  by_cases he : o.id = id
  · subst he
    obtain ⟨hp', hst'⟩ := hf o ho rfl hp hst
    exact ⟨f o, mem_updOrder_of_eq ho rfl, hid o, hp', hst'⟩
  · exact ⟨o, mem_updOrder_of_ne ho he, rfl, hp, hst.imp_right (hxy he)⟩

theorem updOrder_ids (id : Nat) {f : Order → Order} (hid : ∀ o, (f o).id = o.id) (s : State) :
    (updOrder id f s).chg.orders.map (·.id) = s.chg.orders.map (·.id) := by
  show (s.chg.orders.map _).map _ = _
  rw [List.map_map]
  refine List.map_congr_left fun o _ => ?_
  by_cases he : o.id = id <;> simp [he, hid]

namespace LimitsBut

variable {x : Option Nat} {s : State}

/-- An update of one order under which every order that waits may still wait. -/
theorem updOrder_of_waitable {y : Option Nat} (h : LimitsBut x s) {id : Nat} {f : Order → Order}
    (hid : ∀ o, (f o).id = o.id) (htrips : ∀ o, o.tripTimes.length ≤ 5 → (f o).tripTimes.length ≤ 5)
    (hw : ∀ c ∈ upTo 32, ∀ k ∈ (dirRec s c).waiting, Waitable x s.chg.orders (·.antenna = some c) k →
      Waitable y (updOrder id f s).chg.orders (·.antenna = some c) k)
    (hl : ∀ k ∈ s.dir.loadWait, Waitable x s.chg.orders (fun _ => True) k →
      Waitable y (updOrder id f s).chg.orders (fun _ => True) k) : LimitsBut y (updOrder id f s) :=
  { h with
    orders := (List.length_map _).trans_le h.orders, ids := updOrder_ids id hid s ▸ h.ids
    tripTimes := fun p hp => by
      rcases mem_updOrder hp with ⟨hp, -⟩ | ⟨o, ho, -, rfl⟩
      · exact h.tripTimes p hp
      · exact htrips o (h.tripTimes o ho)
    waits := fun c hc => (h.waits c hc).of_waitable (hw c hc)
    loads := h.loads.of_waitable hl }

/-- An update of one order that keeps its id and no more than five trip times, and its place in the wait lists it is in. -/
theorem updOrder_of {y : Option Nat} (h : LimitsBut x s) {id : Nat} {f : Order → Order} (hid : ∀ o, (f o).id = o.id)
    (htrips : ∀ o, o.tripTimes.length ≤ 5 → (f o).tripTimes.length ≤ 5) (hxy : ∀ k ≠ id, x = some k → y = some k)
    (hw : ∀ o ∈ s.chg.orders, o.id = id → Stage.between .warming .recovering o.stage = true ∨ x = some id →
      (∀ c, o.antenna = some c → (f o).antenna = some c) ∧
        (Stage.between .warming .recovering (f o).stage = true ∨ y = some id)) : LimitsBut y (updOrder id f s) := by
  refine h.updOrder_of_waitable hid htrips
    (fun c _ k _ => Waitable.updOrder hid (fun o ho he ha hst => ?_) (hxy k))
    (fun k _ => Waitable.updOrder hid (fun o ho he _ hst => ?_) (hxy k))
  · exact ⟨(hw o ho he hst).1 c ha, (hw o ho he hst).2⟩
  · exact ⟨trivial, (hw o ho he hst).2⟩

/-- An update of one order that touches neither its id nor its antenna nor its stage. -/
protected theorem updOrder (h : LimitsBut x s) {id : Nat} {f : Order → Order}
    (hid : ∀ o, (f o).id = o.id := by intro o; rfl)
    (ha : ∀ o, (f o).antenna = o.antenna := by intro o; rfl) (hst : ∀ o, (f o).stage = o.stage := by intro o; rfl)
    (htrips : ∀ o, o.tripTimes.length ≤ 5 → (f o).tripTimes.length ≤ 5 := by intro o ho; exact ho) :
    LimitsBut x (Machine.updOrder id f s) :=
  h.updOrder_of hid htrips (fun _ _ hk => hk) fun o _ _ hw => ⟨fun _ hc => (ha o).trans hc, hst o ▸ hw⟩

protected theorem setWork (h : LimitsBut x s) {id f} : LimitsBut x (setWork id f s) := h.updOrder

/-- A change of all orders that touches no id, antenna, stage or trip times. -/
theorem mapOrders (h : LimitsBut x s) {f : Order → Order} (hid : ∀ o, (f o).id = o.id := by intro o; rfl)
    (ha : ∀ o, (f o).antenna = o.antenna := by intro o; rfl) (hst : ∀ o, (f o).stage = o.stage := by intro o; rfl)
    (htrips : ∀ o, (f o).tripTimes = o.tripTimes := by intro o; rfl) :
    LimitsBut x (s.onChg (fun c => { c with orders := c.orders.map f })) := by
  have hlive : ∀ {p : Order → Prop} (k), (∀ o, p o → p (f o)) → Waitable x s.chg.orders p k →
      Waitable x (s.chg.orders.map f) p k := by
    rintro p k hp ⟨o, ho, hk, hpo, hw⟩
    exact ⟨f o, List.mem_map_of_mem ho, (hid o).trans hk, hp o hpo, by rwa [hst]⟩
  refine { h with
    orders := (List.length_map _).trans_le h.orders, ids := ?_, tripTimes := fun p hp => ?_
    waits := fun c hc => (h.waits c hc).of_waitable fun k _ => hlive k fun o hoc => (ha o).trans hoc
    loads := h.loads.of_waitable fun k _ => hlive k fun _ _ => trivial }
  · show ((s.chg.orders.map f).map (·.id)).Nodup
    rw [List.map_map, show ((·.id) ∘ f) = (fun o : Order => o.id) from funext hid]
    exact h.ids
  · obtain ⟨o, ho, rfl⟩ := List.mem_map.mp hp
    exact (htrips o).symm ▸ h.tripTimes o ho

end LimitsBut

/-- The order waits for no antenna and no load. -/
def State.waitsNowhere (s : State) (id : Nat) : Prop := (∀ c ∈ upTo 32, id ∉ (dirRec s c).waiting) ∧ id ∉ s.dir.loadWait

/-- No live order of the id is in a stage that waits. -/
def State.idleStage (s : State) (id : Nat) : Prop :=
  ∀ o ∈ s.chg.orders, o.id = id → Stage.between .warming .recovering o.stage = false

namespace LimitsBut

variable {s : State}

/-- An order in a stage that does not wait is in no wait list. -/
theorem waitsNowhere (h : LimitsBut none s) {id : Nat} (hid : s.idleStage id) : s.waitsNowhere id := by
  have hno : ∀ {p : Order → Prop}, ¬ Waitable none s.chg.orders p id := by
    rintro p ⟨o, ho, hoid, -, hst⟩
    rw [hid o ho hoid] at hst
    simp at hst
  exact ⟨fun c hc hmem => hno ((h.waits c hc).live id hmem), fun hmem => hno (h.loads.live id hmem)⟩

/-- An order that waits nowhere may take any antenna and stage. -/
theorem updOrder_idle {x : Option Nat} (h : LimitsBut x s) {id : Nat} (hid : s.waitsNowhere id) {f : Order → Order}
    (hfid : ∀ o, (f o).id = o.id := by intro o; rfl)
    (htrips : ∀ o, o.tripTimes.length ≤ 5 → (f o).tripTimes.length ≤ 5 := by intro o ho; exact ho) :
    LimitsBut x (Machine.updOrder id f s) := by
  have hlive : ∀ {p : Order → Prop} (k), k ≠ id → Waitable x s.chg.orders p k →
      Waitable x (Machine.updOrder id f s).chg.orders p k := by
    rintro p k hk ⟨o, ho, hok, hp, hst⟩
    exact ⟨o, mem_updOrder_of_ne ho (hok ▸ hk), hok, hp, hst⟩
  exact h.updOrder_of_waitable hfid htrips (fun c hc k hk => hlive k fun e => hid.1 c hc (e ▸ hk))
    fun k hk => hlive k fun e => hid.2 (e ▸ hk)

/-- An order that waits nowhere may leave the table. -/
theorem removeOrder {x : Option Nat} (h : LimitsBut x s) {id : Nat} (hid : s.waitsNowhere id) :
    LimitsBut x (s.onChg (fun c => { c with orders := c.orders.filter (fun p => p.id != id) })) := by
  have hsub : (s.chg.orders.filter (fun p => p.id != id)).Sublist s.chg.orders := List.filter_sublist
  have hlive : ∀ {p : Order → Prop} (k), k ≠ id → Waitable x s.chg.orders p k →
      Waitable x (s.chg.orders.filter (fun p => p.id != id)) p k := by
    rintro p k hk ⟨o, ho, hok, hp, hst⟩
    exact ⟨o, List.mem_filter.mpr ⟨ho, by simpa [hok] using hk⟩, hok, hp, hst⟩
  exact { h with
    orders := hsub.length_le.trans h.orders, ids := h.ids.sublist (hsub.map _)
    tripTimes := fun p hp => h.tripTimes p (hsub.subset hp)
    waits := fun c hc => (h.waits c hc).of_waitable fun k hk => hlive k fun e => hid.1 c hc (e ▸ hk)
    loads := h.loads.of_waitable fun k hk => hlive k fun e => hid.2 (e ▸ hk) }

end LimitsBut

end Sys2Proof.Machine
end

section
/-! PROOFS. The limits (O7): reports, the Field Line and Transmitter Control keep them. -/

set_option Elab.async false

namespace Sys2Proof.Machine

/-! ### Reports -/

/-- A report is admitted only where fewer than 64 wait (R184). -/
theorem offer_reports_le {p : Port} (b : ReportBody) (h : p.reports ≤ Config.maxReports) :
    (p.offer b).reports ≤ Config.maxReports := by
  unfold Port.offer
  dsimp only
  split
  · exact h
  · split
    next hlt =>
      show ((p.out ++ [_]).filter OutFrame.isReport).length ≤ _
      rw [List.filter_append, List.length_append]
      exact hlt
    · exact h

theorem offer_rx (b : ReportBody) (p : Port) : (p.offer b).rx = p.rx := by
  unfold Port.offer
  dsimp only
  (repeat' split) <;> rfl

/-- A reply is not counted against the 64 reports (R184). -/
theorem reply_reports (p : Port) (kind tag : Nat) (st : Status) (d : Detail) (data : ReplyData) :
    Port.reports { p with out := p.out ++ [.reply kind tag st d data] } = p.reports := by
  simp [Port.reports, List.filter_append, OutFrame.isReport]

namespace LimitsBut

variable {x : Option Nat} {s : State} (h : LimitsBut x s)
include h

protected theorem offerReport {b} : LimitsBut x (offerReport b s) :=
  h.onPort (offer_reports_le b h.reports) (by rw [offer_rx]; exact h.rx)

protected theorem queueReply {kind tag st d data} : LimitsBut x (queueReply kind tag st d data s) :=
  h.onPort ((reply_reports ..).trans_le h.reports) h.rx

protected theorem countOutcome {out} : LimitsBut x (countOutcome out s) := by
  cases out with
  | ended | failed | expired | preempted => exact h.count
  | cancelled | withdrawn => exact h

/-- A record enters the ring, which drops its oldest where it is full (R191). -/
protected theorem logFault {r} : LimitsBut x (logFault r s) := by
  have hring := h.ring
  refine LimitsBut.offerReport (h.onLog ?_)
  simp only [List.length_append, List.length_singleton]
  unfold Config.maxFaults at *
  split
  · omega
  · rw [List.length_drop]; omega

protected theorem makeFaultWith {k sub o fl tele n} : LimitsBut x (makeFaultWith k sub o fl tele n s) := h.logFault
protected theorem makeTxFault {k n o} : LimitsBut x (makeTxFault k n o s) := h.logFault
protected theorem makeFault {k sub o} : LimitsBut x (makeFault k sub o s) := h.logFault
protected theorem hallReport {cause} : LimitsBut x (hallReport cause s) := h.offerReport

protected theorem noteOrder {id} : LimitsBut x (noteOrder id s) := by
  unfold Machine.noteOrder
  split
  · exact h
  · split
    · exact h.onNotes
    · exact h

protected theorem noteCreated {id} : LimitsBut x (noteCreated id s) := h.onNotes
protected theorem updNote {id f} : LimitsBut x (updNote id f s) := h.onNotes

protected theorem flushNote {k} : LimitsBut x (flushNote k s) := by
  unfold Machine.flushNote
  split
  · exact h.offerReport
  · split
    · exact h.offerReport
    · exact h

protected theorem flushOrders : LimitsBut x (flushOrders s) := (h.forEach fun _ _ _ ht => ht.flushNote).onNotes

/-! ### The Field Line -/

/-- A command joins the queue only where there is room, or where it displaces one that is there (R175). -/
theorem placeLine {c} : LimitsBut x (s.onLine (Line.place c)) := by
  have hq := h.commands
  suffices hp : (s.line.place c).queue.length ≤ Config.maxCommands from { h with commands := hp }
  unfold Line.place
  split
  · simp only [List.length_append, List.length_singleton]; omega
  · split
    · split
      next d hd =>
        have hmem : d ∈ s.line.queue := (List.mem_filter.mp (List.mem_of_getLast? hd)).1
        have hlt : (s.line.queue.filter (fun x => x.serial != d.serial)).length < s.line.queue.length :=
          List.length_filter_lt_length_iff_exists.mpr ⟨d, hmem, by simp⟩
        simp only [List.length_append, List.length_singleton]; omega
      · exact hq
    · exact hq

protected theorem placeCmd {c} : LimitsBut x (placeCmd c s) := by
  unfold Machine.placeCmd
  split
  · exact h.placeLine
  · exact h.emit

protected theorem offerCmd {addr fn urgent subject} : LimitsBut x (offerCmd addr fn urgent subject s) :=
  (h.onLine le_rfl).placeCmd

protected theorem removeCmds {p} : LimitsBut x (removeCmds p s) := h.onLine (List.length_filter_le ..)

protected theorem failCmds {p} : LimitsBut x (failCmds p s) := h.removeCmds.forEach fun _ _ _ ht => ht.emit

protected theorem startPoll : LimitsBut x (startPoll s) := by
  unfold Machine.startPoll
  dsimp only
  split <;> exact h.onLine le_rfl

protected theorem wakeScan : LimitsBut x (wakeScan s) := by
  unfold Machine.wakeScan
  split
  · exact h.startPoll
  · exact h

protected theorem bindUnit {addr k owner} : LimitsBut x (bindUnit addr k owner s) := h.updUnit.wakeScan

protected theorem unbindUnit {addr} : LimitsBut x (unbindUnit addr s) := h.failCmds.updUnit.onLine le_rfl

protected theorem reofferHeld : LimitsBut x (reofferHeld s) := h.forEach fun _ _ _ ht => (ht.onLine le_rfl).placeCmd

protected theorem commandSlot : LimitsBut x (commandSlot s) := by
  unfold Machine.commandSlot
  dsimp only
  split
  · exact (h.reofferHeld.onLine (List.length_filter_le ..)).updTx
  · exact h.reofferHeld.startPoll

protected theorem unitReport {addr new previous cause} : LimitsBut x (unitReport s addr new previous cause) := h.offerReport

protected theorem goodReply {addr} : LimitsBut x (goodReply addr s) := by
  unfold Machine.goodReply
  dsimp only
  split
  · exact h.updUnit.unitReport
  · exact h.updUnit

protected theorem becomeSilent {addr cause} : LimitsBut x (becomeSilent addr cause s) := h.updUnit.failCmds.emit

protected theorem unitLost {addr fl cause} : LimitsBut x (unitLost addr fl cause s) := by
  unfold Machine.unitLost
  dsimp only
  split
  · exact h.emit.emit
  · exact h.emit

protected theorem unitDown {addr fl cause} : LimitsBut x (unitDown addr fl cause s) :=
  (LimitsBut.makeFaultWith h.unitReport).count

protected theorem countMiss {addr cause} : LimitsBut x (countMiss addr cause s) := by
  unfold Machine.countMiss
  dsimp only
  split
  · exact h.count
  · exact h.count
  · split
    · exact h.count.updUnit
    · exact h.count.becomeSilent

protected theorem endTxn : LimitsBut x (endTxn s) := h.onLine le_rfl

/-! ### Transmitter Control -/

protected theorem setTxState {n st} : LimitsBut x (setTxState n st s) := h.updTx

protected theorem offerTlu {n fn urgent} : LimitsBut x (offerTlu n fn urgent s) := by
  unfold Machine.offerTlu
  split
  · exact h.offerCmd
  · exact h

protected theorem dropTune {n} : LimitsBut x (dropTune n s) := by
  unfold Machine.dropTune
  split
  · exact h
  · dsimp only
    split
    · exact h.updTx.setWork
    · exact h.updTx

protected theorem failOrdersOn {n lo hi cause} : LimitsBut x (failOrdersOn n lo hi cause s) :=
  h.forEach fun _ _ _ ht => ht.emit

protected theorem loseWork {n lo} : LimitsBut x (loseWork n lo s) := by
  unfold Machine.loseWork
  dsimp only
  split
  · exact h.dropTune.failOrdersOn.emit
  · exact h.dropTune.failOrdersOn

protected theorem goOffline {n} : LimitsBut x (goOffline n s) := by
  unfold Machine.goOffline
  dsimp only
  split
  · exact h
  · split
    · exact h.setTxState.makeTxFault.loseWork
    · exact h.setTxState.loseWork

protected theorem warmFromReply {n} : LimitsBut x (warmFromReply n s) := h.updTx

protected theorem takeState {n} : LimitsBut x (takeState n s) := by
  unfold Machine.takeState
  split
  · exact h.goOffline
  · dsimp only
    split
    · exact h.setTxState.warmFromReply
    · exact h.setTxState
  · exact h.setTxState

protected theorem takeStateIfTuning {n} : LimitsBut x (takeStateIfTuning n s) := by
  unfold Machine.takeStateIfTuning
  split
  · exact h.takeState
  · exact h

protected theorem leaveTripped {n} : LimitsBut x (leaveTripped n s) := by
  unfold Machine.leaveTripped
  split
  · exact h.takeState
  · exact h

protected theorem carrierOffRequest {n who} : LimitsBut x (carrierOffRequest n who s) := by
  refine LimitsBut.ite ?_ (LimitsBut.ite ?_ ?_)
  · exact h.updTx.removeCmds.updProt.updTx
  · exact h.updTx.removeCmds.updProt.updTx
  · exact h.updTx.removeCmds.updProt.updTx.offerTlu

protected theorem carrierOn {n level} : LimitsBut x (carrierOn n level s) := h.updTx.updProt.offerTlu

protected theorem setpointRequest {n power} : LimitsBut x (setpointRequest n power s) := by
  unfold Machine.setpointRequest
  dsimp only
  split
  · exact h
  · exact h.removeCmds.updProt.offerTlu

protected theorem confirmOff {n} : LimitsBut x (confirmOff n s) := h.updTx.forEach fun _ _ _ ht => ht.setWork.emit

protected theorem cancelCoolDown {n} : LimitsBut x (cancelCoolDown n s) := by
  unfold Machine.cancelCoolDown
  split
  · exact h.updTx.removeCmds
  · exact h

protected theorem informCoolDown {n} : LimitsBut x (informCoolDown n s) := h.updTx.cancelCoolDown

protected theorem requestWarmUp {n id} : LimitsBut x (requestWarmUp n id s) := by
  unfold Machine.requestWarmUp
  dsimp only
  split
  · exact h.updTx.cancelCoolDown.updTx.offerTlu.ite h.updTx
  · exact h.updTx.ite h.cancelCoolDown.updTx.offerTlu

protected theorem dropWarm {n id} : LimitsBut x (dropWarm n id s) := h.updTx

protected theorem warmUpDone {n} : LimitsBut x (warmUpDone n s) := by
  unfold Machine.warmUpDone
  split
  · exact h
  · exact h.updTx.forEach fun _ _ _ ht => ht.setWork.emit

protected theorem warmUpFailed {n} : LimitsBut x (warmUpFailed n s) := by
  unfold Machine.warmUpFailed
  split
  · exact h
  · exact h.updTx.forEach fun _ _ _ ht => ht.setWork.emit

protected theorem filamentOffAcked {n} : LimitsBut x (filamentOffAcked n s) := by
  unfold Machine.filamentOffAcked
  dsimp only
  split
  · exact h.updTx
  · exact h.updTx.setTxState.loseWork

protected theorem setPreset {n i p} : LimitsBut x (setPreset n i p s) := h.updTx

protected theorem invalidate {n f} : LimitsBut x (invalidate n f s) := by
  unfold Machine.invalidate
  split
  · exact h.setPreset
  · exact h

protected theorem countTuneKind {k} : LimitsBut x (countTuneKind k s) := by
  cases k
  · exact h
  · exact h.count
  · exact h.count

protected theorem openTune {n t} : LimitsBut x (openTune n t s) := h.updTx.updProt
protected theorem startMode {n id f m} : LimitsBut x (startMode n id f m s) := h.openTune.offerTlu
protected theorem startPreset {n id f m p} : LimitsBut x (startPreset n id f m p s) := h.openTune.offerTlu
protected theorem startSearch {n id f m} : LimitsBut x (startSearch n id f m s) := h.openTune.offerTlu

protected theorem tuneResult {n ok} : LimitsBut x (tuneResult n ok s) := by
  unfold Machine.tuneResult
  split
  · exact h
  · dsimp only
    split
    · exact h.dropTune.takeStateIfTuning.emit
    · exact h.dropTune.takeStateIfTuning

protected theorem searchFail {n ranOut} : LimitsBut x (searchFail n ranOut s) := by
  unfold Machine.searchFail
  dsimp only
  split
  · exact (LimitsBut.makeTxFault h.carrierOffRequest.count).tuneResult
  · exact (LimitsBut.makeTxFault h.count).tuneResult

protected theorem presetFail {n drop} : LimitsBut x (presetFail n drop s) := by
  unfold Machine.presetFail
  split
  · exact h
  · dsimp only
    split
    · exact h.invalidate.makeTxFault.tuneResult
    · exact h.makeTxFault.tuneResult

protected theorem endSearch {n} : LimitsBut x (endSearch n s) := h.dropTune.takeStateIfTuning

protected theorem holdSearch {n} : LimitsBut x (holdSearch n s) := by
  unfold Machine.holdSearch
  dsimp only
  split
  · exact h.removeCmds.updTx
  · exact h.removeCmds.updTx.carrierOffRequest

protected theorem resumeSearch {n} : LimitsBut x (resumeSearch n s) := by
  unfold Machine.resumeSearch
  split
  · exact h.updTx.offerTlu
  · exact h

protected theorem beginBlind {n id} : LimitsBut x (beginBlind n id s) := (h.noteOrder.updTx (n := n)).updOrder

protected theorem endBlind {n} : LimitsBut x (endBlind n s) := by
  unfold Machine.endBlind
  split
  · exact h
  · exact (h.updTx.forEach fun _ _ _ ht => ht.updOrder).goOffline

end LimitsBut

/-! ### Stages -/

namespace LimitsBut

variable {x y : Option Nat} {s : State}

/-- What follows the new stage of an order keeps the limits (R143, R151). -/
theorem setStage_of {id : Nat} {st : Stage}
    (h : LimitsBut x (Machine.updOrder id (fun o => { o with stage := st, stageSecs := 0 }) (Machine.noteOrder id s)))
    (hnone : order? s id = none → LimitsBut x s) : LimitsBut x (setStage id st s) := by
  unfold setStage
  split
  · exact hnone ‹_›
  · dsimp only
    split
    · exact h.updProt.endBlind
    · exact h

/-- An order takes a stage that may wait (R101). -/
protected theorem setStage (h : LimitsBut x s) {id : Nat} {st : Stage}
    (hst : Stage.between .warming .recovering st = true := by rfl) : LimitsBut x (setStage id st s) :=
  setStage_of (h.noteOrder.updOrder_of (fun _ => rfl) (fun _ ho => ho) (fun _ _ hk => hk)
    fun _ _ _ _ => ⟨fun _ hc => hc, .inl hst⟩) fun _ => h

/-- The order excepted takes a stage that may wait, and is excepted no longer. -/
theorem setStage_waiting {id : Nat} (h : LimitsBut (some id) s) {st : Stage}
    (hst : Stage.between .warming .recovering st = true := by rfl) : LimitsBut none (setStage id st s) := by
  refine setStage_of (h.noteOrder.updOrder_of (fun _ => rfl) (fun _ ho => ho)
    (fun k hk he => absurd (Option.some.inj he).symm hk) fun _ _ _ _ => ⟨fun _ hc => hc, .inl hst⟩) fun hno => ?_
  have hne : ∀ o ∈ s.chg.orders, o.id ≠ id := by simpa [order?] using hno
  have hlive : ∀ {p : Order → Prop} (k), Waitable (some id) s.chg.orders p k → Waitable none s.chg.orders p k := by
    rintro p k ⟨o, ho, hk, hp, hw⟩
    exact ⟨o, ho, hk, hp, .inl (hw.resolve_right fun e => hne o ho (hk.trans (Option.some.inj e).symm))⟩
  exact { h with
    waits := fun c hc => (h.waits c hc).of_waitable fun k _ => hlive k
    loads := h.loads.of_waitable fun k _ => hlive k }

/-- The order excepted takes any stage. -/
theorem setStage_but {id : Nat} (h : LimitsBut (some id) s) {st : Stage} : LimitsBut (some id) (Machine.setStage id st s) :=
  setStage_of (h.noteOrder.updOrder_of (fun _ => rfl) (fun _ ho => ho) (fun _ _ hk => hk)
    fun _ _ _ _ => ⟨fun _ hc => hc, .inr rfl⟩) fun _ => h

/-- An order that waits nowhere takes any stage. -/
theorem setStage_idle (h : LimitsBut x s) {id : Nat} (hid : s.waitsNowhere id) {st : Stage} :
    LimitsBut x (Machine.setStage id st s) := by
  refine setStage_of (h.noteOrder.updOrder_idle ?_) fun _ => h
  have hdir : (Machine.noteOrder id s).dir = s.dir := by
    unfold Machine.noteOrder
    (repeat' split) <;> rfl
  unfold State.waitsNowhere dirRec at *
  rwa [hdir]

end LimitsBut

end Sys2Proof.Machine
end

section
/-! PROOFS. The limits (O7): the Antenna Directory and Matrix Control keep them. -/

set_option Elab.async false

namespace Sys2Proof.Machine

/-- Requests that name different crosspoints or directions do so after any change that keeps what each of them names. -/
theorem pairwise_map_place {l : List DriveReq} (h : l.Pairwise (fun p q => (p.row, p.col, p.dir) ≠ (q.row, q.col, q.dir)))
    {f : DriveReq → DriveReq} (hf : ∀ q, ((f q).row, (f q).col, (f q).dir) = (q.row, q.col, q.dir)) :
    (l.map f).Pairwise (fun p q => (p.row, p.col, p.dir) ≠ (q.row, q.col, q.dir)) :=
  List.pairwise_map.mpr (h.imp fun hne => by rwa [hf, hf])

theorem countMaybe_dir (t : Option DirTransition) (s : State) : (countMaybe t s).dir = s.dir := by
  cases t <;> rfl

namespace LimitsBut

variable {x : Option Nat} {s : State} (h : LimitsBut x s)
include h

protected theorem antReport {c cause} : LimitsBut x (antReport c cause s) := h.offerReport
protected theorem xpReport {r c old new reported cause} : LimitsBut x (xpReport r c old new reported cause s) := h.offerReport

protected theorem setFault {c k} : LimitsBut x (setFault c k s) := by
  unfold Machine.setFault
  split
  · exact h
  · refine (h.updDir_same ?_ ?_ ?_).antReport <;> cases k <;> rfl

protected theorem settleTo {c law} : LimitsBut x (settleTo c law s) :=
  h.updDir_same.antReport.ite (h.updDir_same.antReport.ite h.updDir_same)

protected theorem settleColumn {c} : LimitsBut x (settleColumn c s) := h.settleTo

protected theorem offerWaiters {c} : LimitsBut x (offerWaiters c s) := by
  unfold Machine.offerWaiters
  split <;> exact h.emit

/-! ### Movement requests -/

/-- A change of the matrix that leaves the queue and the number of movements as they were. -/
theorem onMx_same {f} (hq : (f s.mx).queue = s.mx.queue := by rfl)
    (hm : (f s.mx).movements.length = s.mx.movements.length := by rfl) : LimitsBut x (s.onMx f) :=
  h.onMx (hq ▸ h.requests) hm.le

/-- A request joins the queue only where none names its crosspoint and direction (R108). -/
protected theorem requestMove {r c dir essential who} : LimitsBut x (requestMove r c dir essential who s) := by
  unfold Machine.requestMove
  dsimp only
  split
  · exact h.emit
  split
  · exact h.onMx_same rfl (List.length_map _)
  split
  · exact h.onMx (pairwise_map_place h.requests fun q => by split <;> rfl) le_rfl
  next hnone =>
    have hnew : ∀ q ∈ s.mx.queue, (q.row, q.col, q.dir) ≠ (r, c, dir) := by
      intro q hq he
      simp only [Prod.mk.injEq] at he
      exact hnone (List.any_eq_true.mpr ⟨q, hq, by simp [he]⟩)
    split
    · exact h.emit
    split
    · exact h.emit
    split
    · exact h.xpReport.emit
    · refine LimitsBut.ite (LimitsBut.count ?_) ?_ <;>
        exact h.onMx (List.pairwise_append.mpr ⟨h.requests, List.pairwise_singleton .., fun q hq p hp =>
          (List.mem_singleton.mp hp) ▸ hnew q hq⟩) le_rfl

protected theorem tellAll {l r c ok} : LimitsBut x (tellAll l r c ok s) := h.forEach fun _ _ _ ht => ht.emit

protected theorem dropRequesters {p} : LimitsBut x (dropRequesters p s) :=
  h.onMx (.sublist List.filter_sublist (pairwise_map_place h.requests (by intro q; rfl))) le_rfl

protected theorem sweepQueue {r c} : LimitsBut x (sweepQueue r c s) :=
  (h.onMx (h.requests.sublist List.filter_sublist) le_rfl).forEach fun _ _ _ ht => ht.tellAll

protected theorem returnCredit {r c} : LimitsBut x (returnCredit r c s) := h.onMx h.requests (List.length_filter_le ..)

protected theorem wear {r c} : LimitsBut x (wear r c s) := h.ite (h.updXp.xpReport.ite h.updXp)

/-! ### Claims -/

/-- The order that takes the claim of a column no longer stands in its wait list (R103). -/
protected theorem grantClaim {c id} (hid : c ∈ upTo 32 → id ∉ (dirRec s c).waiting) : LimitsBut x (grantClaim c id s) := by
  refine LimitsBut.emit (LimitsBut.settleColumn (h.updDir fun hc w => w.shrink (.refl _) ?_ ?_))
  · rintro k hk he
    exact absurd (Option.some.inj he ▸ hk) (hid hc)
  · rintro k - he
    exact absurd he nofun

/-- An order joins the wait list of a column in which it neither waits nor has a claim (R101). -/
theorem joinWaiting {c o} (hc : (dirRec s c).claiming ≠ some o.id) (hh : (dirRec s c).handover ≠ some o.id)
    (hn : o.id ∉ (dirRec s c).waiting) (ho : c ∈ upTo 32 → Waitable x s.chg.orders (·.antenna = some c) o.id) :
    LimitsBut x (Machine.updDir c (fun e => { e with waiting := insertWaiting s o e.waiting }) s) := by
  refine h.updDir fun hcol w => ?_
  have hperm := insertWaiting_perm s o (dirRec s c).waiting
  have hmem : ∀ k, k ∈ insertWaiting s o (dirRec s c).waiting → k = o.id ∨ k ∈ (dirRec s c).waiting := fun k hk =>
    List.mem_cons.mp (hperm.mem_iff.mp hk)
  refine ⟨hperm.nodup_iff.mpr (List.nodup_cons.mpr ⟨hn, w.nodup⟩), fun k hk => ?_, fun k hk => ?_, fun k hk => ?_⟩
  all_goals rcases hmem k hk with rfl | hk
  · exact hc
  · exact w.claiming k hk
  · exact hh
  · exact w.handover k hk
  · exact ho hcol
  · exact w.live k hk

/-- A claim is answered: granted, put into the wait list, or begun as a handover (R100). -/
protected theorem requestClaim {c : Nat} {o : Order}
    (ho : c ∈ upTo 32 → Waitable x s.chg.orders (·.antenna = some c) o.id) : LimitsBut x (requestClaim c o s) := by
  unfold Machine.requestClaim
  dsimp only
  split
  · exact h
  next hnew =>
    simp only [Bool.or_eq_true, decide_eq_true_eq, List.contains_iff_mem, not_or] at hnew
    obtain ⟨⟨hc, hh⟩, hn⟩ := hnew
    have hjoin := h.joinWaiting hc hh hn ho
    have hgrant : ∀ t, LimitsBut x (Machine.grantClaim c o.id (Machine.countDir t s)) := fun t =>
      LimitsBut.grantClaim (h.countDir (t := t)) fun _ => hn
    have hhand : LimitsBut x (Machine.updDir c (fun e => { e with handover := some o.id }) s) :=
      h.updDir fun _ w => w.shrink (.refl _) (fun _ _ he => he) fun k hk he => absurd (Option.some.inj he ▸ hk) hn
    split
    · exact h.emit
    split
    · exact hgrant _
    · exact hjoin.ite ((hgrant _).ite (hjoin.ite hhand.requestMove))
    · exact hjoin

/-- The head of a wait list leaves it, and its claim is answered (R103). -/
protected theorem offerColumn {c} : LimitsBut x (offerColumn c s) := by
  unfold Machine.offerColumn
  dsimp only
  split
  · exact h
  next id rest hw =>
    split
    · exact h
    next o ho =>
      refine LimitsBut.ite h ?_
      have hid : o.id = id := (order?_mem ho).2
      have hshort : LimitsBut x (Machine.updDir c (fun e => { e with waiting := rest }) s) :=
        h.updDir fun _ w => w.shrink (hw ▸ List.sublist_cons_self ..) (fun _ _ he => he) fun _ _ he => he
      exact hshort.requestClaim fun hc => (h.waits c hc).live o.id (by simp [hw, hid])

protected theorem grantLoad : LimitsBut x (grantLoad s) := by
  unfold Machine.grantLoad
  split
  next id rest c hw hc =>
    have hcol : c = 33 ∨ c = 34 := by simpa using List.mem_of_find?_eq_some hc
    have hdir : LimitsBut x (s.onDir (fun d => { d with loadWait := rest })) :=
      h.onDir h.waits (h.loads.sublist (hw ▸ List.sublist_cons_self ..))
    have hclaim : LimitsBut x (Machine.updDir c (fun d => { d with claiming := some id })
        (s.onDir (fun d => { d with loadWait := rest }))) :=
      hdir.updDir fun hm => absurd (mem_upTo.mp hm).2 (by omega)
    exact (LimitsBut.updOrder (hclaim.settleColumn.countDir)).emit
  · exact h

protected theorem openParkedLoad {c} : LimitsBut x (openParkedLoad c s) :=
  LimitsBut.ite (h.forEach fun _ _ _ ht => ht.requestMove) h

protected theorem offerLoads : LimitsBut x (offerLoads s) := h.openParkedLoad.openParkedLoad.grantLoad.grantLoad

/-- The claim on a column is given up. -/
theorem updDir_unclaimed {c} : LimitsBut x (Machine.updDir c DirRec.unclaimed s) :=
  h.updDir fun _ w => w.shrink (.refl _) (fun _ _ he => absurd he nofun) fun _ _ he => he

protected theorem plainRelease {c id} : LimitsBut x (plainRelease c id s) := by
  have hdrop : ∀ t, LimitsBut x (Machine.offerWaiters c (Machine.countDir t (Machine.settleColumn c
      (Machine.updDir c DirRec.unclaimed s)))) := fun t => h.updDir_unclaimed.settleColumn.countDir.offerWaiters
  unfold Machine.plainRelease
  dsimp only
  split
  · exact h
  split
  · exact hdrop _
  · split
    next hd _ _ =>
      refine (hdrop _).ite (LimitsBut.requestMove (h.updDir fun _ w => w.shrink List.filter_sublist
        (by rintro _ - ⟨⟩) fun k hk he => ?_))
      have hne := (List.mem_filter.mp hk).2
      simp [Option.some.inj he] at hne
    · exact hdrop _
  · exact h.updDir_unclaimed.settleColumn.offerWaiters

protected theorem releaseWithOpening {c o} : LimitsBut x (releaseWithOpening c o s) :=
  h.plainRelease.emit.ite h.setWork.requestMove

protected theorem updDir_noHandover {c} : LimitsBut x (Machine.updDir c (fun d => { d with handover := none }) s) :=
  h.updDir fun _ w => w.shrink (.refl _) (fun _ _ he => he) fun _ _ he => absurd he nofun

protected theorem cancelHandover {id} : LimitsBut x (cancelHandover id s) := by
  unfold Machine.cancelHandover
  split
  · exact h
  next c _ =>
    have hs := (h.dropRequesters (p := (· == .handover id))).onMx_same (f := fun m => { m with
      movements := m.movements.map (fun v => { v with who := v.who.filter (· != .handover id) }) }) rfl (List.length_map _)
    exact LimitsBut.offerWaiters (hs.updDir_noHandover.settleColumn.countDir.ite hs.updDir_noHandover.settleColumn)

protected theorem failWaiting {c} : LimitsBut x (failWaiting c s) :=
  (h.updDir fun _ _ => .empty rfl).forEach fun _ _ _ ht => ht.emit

/-! ### The end of a movement -/

protected theorem countMaybe {t} : LimitsBut x (countMaybe t s) := by
  cases t
  · exact h
  · exact h.countDir

/-- The handover order to which an opened column passes is in no wait list of it (R102). -/
protected theorem columnOpened {c released} : LimitsBut x (columnOpened c released s) := by
  unfold Machine.columnOpened
  dsimp only
  split
  next hgiven =>
    have hnone : (dirRec s c).handover = none := by
      simp only [Bool.and_eq_true, Option.isNone_iff_eq_none] at hgiven
      exact hgiven.2
    rw [hnone]
    exact h.updDir_unclaimed.settleColumn.offerWaiters.ite h.updDir_unclaimed.settleColumn.countMaybe.offerWaiters
  · refine h.settleColumn.offerWaiters.ite ?_
    split
    next id hd =>
      refine LimitsBut.grantClaim h.countMaybe fun hc hmem => (h.waits c hc).handover id ?_ hd
      unfold dirRec at hmem ⊢
      rwa [countMaybe_dir] at hmem
    · exact h.settleColumn.countMaybe.offerWaiters

protected theorem completeMove {m} : LimitsBut x (completeMove m s) := by
  have hs := (h.setXp (r := m.row) (c := m.col) (st := m.dir.target)).returnCredit (r := m.row) (c := m.col)
  unfold Machine.completeMove
  dsimp only
  split
  · exact hs.wear.tellAll.settleColumn.sweepQueue.emit
  · exact hs.wear.tellAll.columnOpened.sweepQueue.emit

protected theorem moveNak {m} : LimitsBut x (moveNak m s) := by
  have hs := (h.setXp (r := m.row) (c := m.col) (st := m.dir.source)).returnCredit (r := m.row) (c := m.col)
  exact (LimitsBut.ite hs.tellAll.settleColumn.sweepQueue hs.tellAll.settleColumn.sweepQueue.offerWaiters).emit

protected theorem moveNoReply {m} : LimitsBut x (moveNoReply m s) :=
  (h.setXp.onMx_same rfl (List.length_map _)).tellAll.xpReport.settleColumn

protected theorem settleStuck {c} : LimitsBut x (settleStuck c s) := h.settleTo

protected theorem failHandover {c who} : LimitsBut x (failHandover c who s) := by
  unfold Machine.failHandover
  split
  · exact h.ite h.cancelHandover.emit
  · exact h

protected theorem moveTimedOut {m} : LimitsBut x (moveTimedOut m s) :=
  h.setXp.returnCredit.settleStuck.setFault.xpReport.makeFault.tellAll.sweepQueue.failWaiting.failHandover.emit

/-! ### What the MDU reports -/

protected theorem makeStuck {r c reported cause} : LimitsBut x (makeStuck r c reported cause s) := by
  unfold Machine.makeStuck
  dsimp only
  split
  · exact h
  · split
    · exact h.setXp.returnCredit.tellAll.xpReport.sweepQueue.emit
    · exact h.setXp.xpReport.sweepQueue.emit

protected theorem failStuckClaim {c} : LimitsBut x (failStuckClaim c s) := by
  unfold Machine.failStuckClaim
  split
  · exact h.emit.ite h
  · exact h

protected theorem foundClosed {r c others} : LimitsBut x (foundClosed r c others s) := by
  unfold Machine.foundClosed
  dsimp only
  split
  · exact (((((h.forEach fun _ _ _ ht => ht.makeStuck).forEach fun _ _ _ ht => ht.settleColumn).forEach
      fun _ _ _ ht => ht.setFault).forEach fun _ _ _ ht => ht.makeFault).forEach
      fun _ _ _ ht => ht.failStuckClaim).forEach fun _ _ _ ht => ht.failWaiting
  · split
    · exact h.makeStuck.settleColumn.setFault.emit.failWaiting
    · exact h.setXp.xpReport.settleColumn.sweepQueue.emit.offerWaiters

/-- The credit of a resolved crosspoint comes back, and what its position brings keeps the limits (R115). -/
protected theorem resolveCredit {m r c pos become} (hb : ∀ t, LimitsBut x t → LimitsBut x (become t)) :
    LimitsBut x (resolveCredit m r c pos become s) := by
  unfold Machine.resolveCredit
  split
  · have hs := hb _ (h.returnCredit (r := r) (c := c))
    split
    · exact hs.wear
    · exact hs
  · exact hb s h

protected theorem foundAway {c} : LimitsBut x (foundAway c s) := h.columnOpened.ite h.settleColumn.offerWaiters

protected theorem foundOpen {r c} : LimitsBut x (foundOpen r c s) := by
  unfold Machine.foundOpen
  dsimp only
  split
  · exact (LimitsBut.ite h.setXp.xpReport.settleColumn.emit h.setXp.xpReport.foundAway).sweepQueue.emit
  · exact h.setXp.xpReport.foundAway.sweepQueue.emit

protected theorem resolvedOpen {r c} : LimitsBut x (resolvedOpen r c s) :=
  (LimitsBut.ite h.setXp.xpReport.columnOpened h.setXp.xpReport.settleColumn.offerWaiters).sweepQueue.emit

protected theorem compareSwitch {was r c pos others} : LimitsBut x (compareSwitch was r c pos others s) := by
  have hfinish : LimitsBut x (match movementAt? s r c with
      | some m => Machine.completeMove m s
      | none => s) := by
    split
    · exact h.completeMove
    · exact h
  unfold Machine.compareSwitch
  dsimp only
  split
  · exact h.foundClosed
  · exact hfinish
  · exact hfinish
  · exact h.foundOpen
  · exact h.resolveCredit fun _ ht => ht.resolvedOpen
  · exact h.resolveCredit fun _ ht => ht.foundClosed
  · exact h.setXp.xpReport.settleColumn.offerWaiters
  · have hs := (LimitsBut.offerWaiters (c := c) (LimitsBut.settleColumn (c := c) (LimitsBut.xpReport (r := r) (c := c)
      (old := .closed) (new := .unknown) (reported := some .between) (cause := .poll) (h.setXp (r := r) (c := c) (st := .unknown)))))
    split
    · exact hs.emit.ite hs
    · exact hs
  · exact h

protected theorem pollRow {r positions} : LimitsBut x (pollRow r positions s) :=
  (h.forEach fun _ _ _ ht => ht.compareSwitch).emit

/-! ### The Drive Credit Arbiter -/

/-- A movement takes a credit that is free, and its request leaves the queue (R110). -/
protected theorem startMove {q} (hfree : s.mx.movements.length < s.hall.par.credits) : LimitsBut x (startMove q s) := by
  have hmx : ∀ m : Movement, LimitsBut x (s.onMx (fun x => { x with
      queue := x.queue.filter (fun p => !(p.row == q.row && p.col == q.col && p.dir == q.dir))
      movements := x.movements ++ [m] })) := fun m =>
    { h with
      requests := h.requests.sublist List.filter_sublist
      credits := by
        show (s.mx.movements ++ [m]).length ≤ _
        rw [List.length_append]; exact hfree }
  refine LimitsBut.count ?_
  split
  · exact ((hmx _).setXp.settleColumn.countDir.ite (hmx _).setXp.settleColumn).offerCmd
  · exact (hmx _).setXp.settleColumn.countDir.ite (hmx _).setXp.settleColumn

protected theorem arbiterStart : LimitsBut x (arbiterStart s) := by
  unfold Machine.arbiterStart
  split
  · exact h
  next hfree =>
    split
    · exact h.startMove (by unfold creditsFree at hfree; omega)
    · exact h

/-! ### Rotators -/

protected theorem slewEnded {id} : LimitsBut x (slewEnded id s) := h.setWork.emit
protected theorem slewFailedFor {id} : LimitsBut x (slewFailedFor id s) := h.setWork.emit

protected theorem startSlew {a id target} : LimitsBut x (startSlew a id target s) := by
  unfold Machine.startSlew
  split
  · exact h.updRotator.offerCmd
  · exact h

protected theorem tellEarlier {id k} : LimitsBut x (tellEarlier id k s) := by
  unfold Machine.tellEarlier
  split
  · exact h.ite h.slewEnded
  · exact h

protected theorem requestSlew {a id target} : LimitsBut x (requestSlew a id target s) := by
  unfold Machine.requestSlew
  split
  · split
    · exact h.slewFailedFor
    split
    · exact h.slewEnded
    split
    · split
      · exact h.tellEarlier.updRotator
      · exact h.tellEarlier.startSlew
    · exact h.tellEarlier.updRotator
  · exact h.slewFailedFor

protected theorem dropSlew {id} : LimitsBut x (dropSlew id s) := h.onMx_same

protected theorem failSlew {a} : LimitsBut x (failSlew a s) := by
  unfold Machine.failSlew
  split
  · exact h
  · dsimp only
    split <;> split
    · exact (h.updRotator.ite h.updRotator.offerCmd).setFault.makeFault.slewFailedFor
    · exact h.updRotator.setFault.makeFault.slewFailedFor
    · exact (h.updRotator.ite h.updRotator.offerCmd).setFault.makeFault
    · exact h.updRotator.setFault.makeFault

protected theorem completeSlew {a} : LimitsBut x (completeSlew a s) := by
  unfold Machine.completeSlew
  split
  · exact h
  · dsimp only
    split
    · exact h.updRotator.slewEnded
    · exact h.updRotator

protected theorem pollRotator {a rep} : LimitsBut x (pollRotator a rep s) := by
  unfold Machine.pollRotator
  dsimp only
  split
  · exact (h.updRotator.failSlew.ite (h.updRotator.completeSlew.ite h.updRotator)).ite h.updRotator
  · exact h.updRotator

/-! ### The Protection Unit -/

protected theorem offerSetpoint {n want} : LimitsBut x (offerSetpoint n want s) := h.setpointRequest.ite h

protected theorem setFactor {n value order rho cause} : LimitsBut x (setFactor n value order rho cause s) :=
  h.ite (h.updProt.updProt.offerReport.ite h.updProt)

protected theorem dropRecovery {n id} : LimitsBut x (dropRecovery n id s) := by
  unfold Machine.dropRecovery
  split
  · exact h.updProt.leaveTripped.ite h
  · exact h

end LimitsBut

/-- Five at most, with the oldest dropped (R79, R162). -/
theorem pushFive_length_le {α : Type} {l : List α} (x : α) (h : l.length ≤ 5) : (pushFive l x).length ≤ 5 := by
  unfold pushFive
  simp only [List.length_append, List.length_singleton]
  split
  · omega
  · rw [List.length_drop]; omega

end Sys2Proof.Machine
end

section
/-! PROOFS. The limits (O7): the stages of the orders under the operations that come between an order's stage and the wait lists
that depend on it. -/

set_option Elab.async false

namespace Sys2Proof.Machine

/-! ### The stages of the live orders -/

/-- The ids of the live orders with their stages. -/
def State.stages (s : State) : List (Nat × Stage) := s.chg.orders.map (fun o => (o.id, o.stage))

section stages
variable (s : State)
@[simp] theorem onTx_stages (f) : (s.onTx f).stages = s.stages := rfl
@[simp] theorem onProt_stages (f) : (s.onProt f).stages = s.stages := rfl
@[simp] theorem onLine_stages (f) : (s.onLine f).stages = s.stages := rfl
@[simp] theorem onAgenda_stages (f) : (s.onAgenda f).stages = s.stages := rfl
@[simp] theorem onNotes_stages (f) : (s.onNotes f).stages = s.stages := rfl
@[simp] theorem onDir_stages (f) : (s.onDir f).stages = s.stages := rfl
@[simp] theorem onMx_stages (f) : (s.onMx f).stages = s.stages := rfl
@[simp] theorem updTx_stages (n f) : (updTx n f s).stages = s.stages := rfl
@[simp] theorem updProt_stages (n f) : (updProt n f s).stages = s.stages := rfl
@[simp] theorem updDir_stages (n f) : (updDir n f s).stages = s.stages := rfl
@[simp] theorem updRotator_stages (n f) : (updRotator n f s).stages = s.stages := rfl
@[simp] theorem emit_stages (g) : (emit g s).stages = s.stages := rfl
@[simp] theorem offerReport_stages (b) : (offerReport b s).stages = s.stages := rfl
@[simp] theorem count_stages (k q) : (count k q s).stages = s.stages := rfl
@[simp] theorem countDir_stages (t) : (countDir t s).stages = s.stages := rfl
@[simp] theorem makeTxFault_stages (k n o) : (makeTxFault k n o s).stages = s.stages := rfl
@[simp] theorem antReport_stages (c k) : (antReport c k s).stages = s.stages := rfl
@[simp] theorem xpReport_stages (r c old new p k) : (xpReport r c old new p k s).stages = s.stages := rfl
end stages

theorem updOrder_stages_of {id : Nat} {f : Order → Order} (hf : ∀ o, ((f o).id, (f o).stage) = (o.id, o.stage)) (s : State) :
    (updOrder id f s).stages = s.stages := by
  show (s.chg.orders.map _).map _ = _
  rw [List.map_map]
  refine List.map_congr_left fun o _ => ?_
  show ((if o.id = id then f o else o).id, (if o.id = id then f o else o).stage) = (o.id, o.stage)
  split
  · exact hf o
  · rfl

@[simp] theorem setWork_stages (id f) (s : State) : (setWork id f s).stages = s.stages :=
  updOrder_stages_of (by intro o; rfl) s
@[simp] theorem refreshMove_stages (id) (s : State) : (refreshMove id s).stages = s.stages := setWork_stages ..

@[simp] theorem forEach_stages {α : Type} {l : List α} {f : α → State → State} (s : State)
    (hf : (∀ a t, (f a t).stages = t.stages) = True) : (forEach l f s).stages = s.stages :=
  forEach_keeps State.stages l f s (of_eq_true hf)

@[simp] theorem noteOrder_stages (id) (s : State) : (noteOrder id s).stages = s.stages := by
  unfold noteOrder; (repeat' split) <;> rfl
@[simp] theorem placeCmd_stages (c) (s : State) : (placeCmd c s).stages = s.stages := by
  unfold placeCmd; split <;> rfl
@[simp] theorem offerCmd_stages (addr fn urgent subject) (s : State) : (offerCmd addr fn urgent subject s).stages = s.stages := by
  unfold offerCmd; simp
@[simp] theorem dropTune_stages (n) (s : State) : (dropTune n s).stages = s.stages := by
  unfold dropTune; dsimp only; (repeat' split) <;> simp
@[simp] theorem failOrdersOn_stages (n lo hi cause) (s : State) : (failOrdersOn n lo hi cause s).stages = s.stages := by
  unfold failOrdersOn; simp
@[simp] theorem loseWork_stages (n lo) (s : State) : (loseWork n lo s).stages = s.stages := by
  unfold loseWork; dsimp only; split <;> simp
@[simp] theorem goOffline_stages (n) (s : State) : (goOffline n s).stages = s.stages := by
  unfold goOffline setTxState; dsimp only; (repeat' split) <;> simp
@[simp] theorem endBlind_stages (n) (s : State) : (endBlind n s).stages = s.stages := by
  unfold endBlind
  split
  · rfl
  · simp [updOrder_stages_of]
@[simp] theorem setFactor_stages (n value order rho cause) (s : State) :
    (setFactor n value order rho cause s).stages = s.stages := by
  unfold setFactor; dsimp only; (repeat' split) <;> rfl
@[simp] theorem settleTo_stages (c law) (s : State) : (settleTo c law s).stages = s.stages := by
  unfold settleTo; dsimp only; (repeat' split) <;> rfl
@[simp] theorem settleColumn_stages (c) (s : State) : (settleColumn c s).stages = s.stages := settleTo_stages ..
@[simp] theorem offerWaiters_stages (c) (s : State) : (offerWaiters c s).stages = s.stages := by
  unfold offerWaiters; split <;> rfl
@[simp] theorem requestMove_stages (r c dir essential who) (s : State) :
    (requestMove r c dir essential who s).stages = s.stages := by
  unfold requestMove; dsimp only; (repeat' split) <;> rfl
@[simp] theorem plainRelease_stages (c id) (s : State) : (plainRelease c id s).stages = s.stages := by
  unfold plainRelease; dsimp only; (repeat' split) <;> simp
@[simp] theorem releaseWithOpening_stages (c o) (s : State) : (releaseWithOpening c o s).stages = s.stages := by
  unfold releaseWithOpening; dsimp only; split <;> simp
@[simp] theorem slewEnded_stages (id) (s : State) : (slewEnded id s).stages = s.stages := by unfold slewEnded; simp
@[simp] theorem slewFailedFor_stages (id) (s : State) : (slewFailedFor id s).stages = s.stages := by unfold slewFailedFor; simp
@[simp] theorem startSlew_stages (a id target) (s : State) : (startSlew a id target s).stages = s.stages := by
  unfold startSlew; split <;> simp
@[simp] theorem tellEarlier_stages (id k) (s : State) : (tellEarlier id k s).stages = s.stages := by
  unfold tellEarlier; (repeat' split) <;> simp
@[simp] theorem requestSlew_stages (a id target) (s : State) : (requestSlew a id target s).stages = s.stages := by
  unfold requestSlew; (repeat' split) <;> simp

/-- The order of the id takes the stage, and no other order changes its own. -/
theorem setStage_stages (id : Nat) (st : Stage) (s : State) :
    (setStage id st s).stages = s.stages.map (fun k => if k.1 = id then (k.1, st) else k) := by
  have hupd : ∀ t : State, t.stages = s.stages →
      (updOrder id (fun x => { x with stage := st, stageSecs := 0 }) t).stages =
        s.stages.map (fun k => if k.1 = id then (k.1, st) else k) := by
    intro t ht
    rw [← ht]
    show (t.chg.orders.map _).map _ = (t.chg.orders.map _).map _
    rw [List.map_map, List.map_map]
    refine List.map_congr_left fun o _ => ?_
    by_cases he : o.id = id <;> simp [he]
  unfold setStage
  split
  next hnone =>
    have hne : ∀ o ∈ s.chg.orders, o.id ≠ id := by simpa [order?] using hnone
    unfold State.stages
    rw [List.map_map]
    exact List.map_congr_left fun o ho => by simp [hne o ho]
  · dsimp only
    split
    · rw [endBlind_stages, updProt_stages, hupd _ (noteOrder_stages id s)]
    · exact hupd _ (noteOrder_stages id s)

/-! ### Orders that wait, and orders that do not -/

/-- A live order of the id is in a stage that waits. -/
def State.waitStage (s : State) (id : Nat) : Prop := ∃ st, (id, st) ∈ s.stages ∧ Stage.between .warming .recovering st = true

theorem idleStage_iff (s : State) (id : Nat) :
    s.idleStage id ↔ ∀ st, (id, st) ∈ s.stages → Stage.between .warming .recovering st = false := by
  simp only [State.idleStage, State.stages, List.mem_map, Prod.mk.injEq]
  constructor
  · rintro h st ⟨o, ho, hid, rfl⟩; exact h o ho hid
  · intro h o ho hid; exact h o.stage ⟨o, ho, hid, rfl⟩

theorem idleStage_congr {s t : State} (h : t.stages = s.stages) {id : Nat} (hs : s.idleStage id) : t.idleStage id := by
  rw [idleStage_iff] at *; rwa [h]

theorem waitStage_congr {s t : State} (h : t.stages = s.stages) {id : Nat} (hs : s.waitStage id) : t.waitStage id := by
  unfold State.waitStage at *; rwa [h]

/-- An order found in a stage that does not wait is the only one of its id. -/
theorem idleStage_of_order? {s : State} {id : Nat} {o : Order} (hn : (s.chg.orders.map (·.id)).Nodup) (ho : order? s id = some o)
    (hst : Stage.between .warming .recovering o.stage = false) : s.idleStage id := fun p hp hid => by
  rwa [eq_of_order? hn ho hp hid]

theorem waitStage_of_order? {s : State} {id : Nat} {o : Order} (ho : order? s id = some o)
    (hst : Stage.between .warming .recovering o.stage = true) : s.waitStage id := by
  obtain ⟨hmem, hid⟩ := order?_mem ho
  exact ⟨o.stage, List.mem_map.mpr ⟨o, hmem, by rw [hid]⟩, hst⟩

/-- Of one id there is one order, and so one stage. -/
theorem stage_of_waitStage {s : State} {id : Nat} {o : Order} (hn : (s.chg.orders.map (·.id)).Nodup)
    (ho : o ∈ s.chg.orders) (hid : o.id = id) (h : s.waitStage id) : Stage.between .warming .recovering o.stage = true := by
  obtain ⟨st, hmem, hst⟩ := h
  obtain ⟨p, hp, he⟩ := List.mem_map.mp hmem
  obtain ⟨hpid, rfl⟩ : p.id = id ∧ p.stage = st := by simpa using he
  rwa [List.inj_on_of_nodup_map hn ho hp (hid.trans hpid.symm)]

theorem waitsNowhere_congr {s t : State} (h : t.dir = s.dir) {id : Nat} (hs : s.waitsNowhere id) : t.waitsNowhere id := by
  unfold State.waitsNowhere dirRec at *; rwa [h]

/-! ### Leaving the wait lists (R81, R101) -/

/-- The wait lists of the columns and of the loads. -/
def State.waitLists (s : State) : List (List Nat) × List Nat := (s.dir.cols.map (·.waiting), s.dir.loadWait)

theorem updDir_waitLists {c : Nat} {f : DirRec → DirRec} (hf : ∀ d, (f d).waiting = d.waiting) (s : State) :
    (updDir c f s).waitLists = s.waitLists := by
  show ((updNth s.dir.cols c f).map (·.waiting), s.dir.loadWait) = _
  rw [updNth_map_same _ _ _ _ hf]; rfl

theorem settleColumn_waitLists (c : Nat) (s : State) : (settleColumn c s).waitLists = s.waitLists := by
  unfold settleColumn settleTo
  dsimp only
  have h := updDir_waitLists (c := c) (f := fun d => { d with state := (lawOf s c).1, owner := (lawOf s c).2 }) (fun _ => rfl) s
  (repeat' split) <;> exact h

theorem cancelHandover_waitLists (id : Nat) (s : State) : (cancelHandover id s).waitLists = s.waitLists := by
  have hoffer : ∀ c t, (offerWaiters c t).waitLists = t.waitLists := by
    intro c t; unfold offerWaiters; split <;> rfl
  unfold cancelHandover
  split
  · rfl
  · dsimp only
    rw [hoffer]
    split <;> exact (settleColumn_waitLists ..).trans (updDir_waitLists (by intro d; rfl) _)

theorem waitsNowhere_of_waitLists {s t : State} (h : t.waitLists = s.waitLists) {id : Nat} (hs : s.waitsNowhere id) :
    t.waitsNowhere id := by
  obtain ⟨hcols, hload⟩ := Prod.mk.inj h
  have hdir : ∀ c, (dirRec t c).waiting = (dirRec s c).waiting := by
    intro c
    have e := congrArg (fun l => (nth l c).getD []) hcols
    simp only [nth_map] at e
    unfold dirRec
    cases ht : nth t.dir.cols c <;> cases hs : nth s.dir.cols c <;> simp_all
  unfold State.waitsNowhere at *
  simpa only [hdir, hload] using hs

/-- The order leaves the wait lists of the antennas and of the loads. -/
def leaveLists (id : Nat) : State → State :=
  State.onDir (fun d => { d with cols := d.cols.map (fun e => { e with waiting := e.waiting.filter (· != id) })
                                 loadWait := d.loadWait.filter (· != id) })

theorem leaveWaits_eq (id : Nat) (s : State) : leaveWaits id s = cancelHandover id (leaveLists id s) := rfl

theorem dirRec_leaveLists (id c : Nat) (s : State) :
    dirRec (leaveLists id s) c = { dirRec s c with waiting := (dirRec s c).waiting.filter (· != id) } := by
  show (nth (s.dir.cols.map _) c).getD _ = _
  unfold dirRec
  rw [nth_map]
  cases nth s.dir.cols c <;> rfl

theorem leaveWaits_waitsNowhere (id : Nat) (s : State) : (leaveWaits id s).waitsNowhere id := by
  refine waitsNowhere_of_waitLists (cancelHandover_waitLists id _) ⟨fun c _ => ?_, ?_⟩
  · show id ∉ (dirRec (leaveLists id s) c).waiting
    rw [dirRec_leaveLists]; simp
  · show id ∉ s.dir.loadWait.filter (· != id)
    simp

/-- Once the order excepted has left the wait lists, none is excepted. -/
theorem LimitsBut.leaveWaits_but {s : State} {id : Nat} (h : LimitsBut (some id) s) : LimitsBut none (leaveWaits id s) := by
  have hlive : ∀ {p : Order → Prop} (k), k ≠ id → Waitable (some id) s.chg.orders p k → Waitable none s.chg.orders p k := by
    rintro p k hk ⟨o, ho, hok, hp, hst⟩
    exact ⟨o, ho, hok, hp, .inl (hst.resolve_right fun e => hk (Option.some.inj e).symm)⟩
  have hleft : LimitsBut none (leaveLists id s) :=
    { h with
      waits := fun c hc => by
        have hshort : WaitsWell (some id) s.chg.orders c
            { dirRec s c with waiting := (dirRec s c).waiting.filter (· != id) } :=
          (h.waits c hc).shrink List.filter_sublist (fun _ _ he => he) fun _ _ he => he
        rw [dirRec_leaveLists]
        exact hshort.of_waitable fun k hk => hlive k (by simpa using (List.mem_filter.mp hk).2)
      loads := (h.loads.sublist List.filter_sublist).of_waitable
        fun k hk => hlive k (by simpa using (List.mem_filter.mp hk).2) }
  rw [leaveWaits_eq]
  exact hleft.cancelHandover

end Sys2Proof.Machine
end

section
/-! PROOFS. The limits (O7): the Changeover Unit, the judgement of samples and the messages between the blocks keep them. -/

set_option Elab.async false

namespace Sys2Proof.Machine

@[simp] theorem noteOrder_chg (id : Nat) (s : State) : (noteOrder id s).chg = s.chg := by
  unfold noteOrder; (repeat' split) <;> rfl
@[simp] theorem noteOrder_dir (id : Nat) (s : State) : (noteOrder id s).dir = s.dir := by
  unfold noteOrder; (repeat' split) <;> rfl
@[simp] theorem updNote_dir (id f) (s : State) : (updNote id f s).dir = s.dir := rfl
@[simp] theorem updTx_dir (n f) (s : State) : (updTx n f s).dir = s.dir := rfl
@[simp] theorem updProt_dir (n f) (s : State) : (updProt n f s).dir = s.dir := rfl
@[simp] theorem dropWarm_dir (n id) (s : State) : (dropWarm n id s).dir = s.dir := rfl
@[simp] theorem dropSlew_dir (id) (s : State) : (dropSlew id s).dir = s.dir := rfl
@[simp] theorem setFactor_dir (n value order rho cause) (s : State) : (setFactor n value order rho cause s).dir = s.dir := by
  unfold setFactor; dsimp only; (repeat' split) <;> rfl

/-- Asking for a slew changes no order's stage (R74). -/
@[simp] theorem askSlew_stages (o) (s : State) : (askSlew o s).stages = s.stages := by
  unfold askSlew
  split
  · rfl
  · split
    · split
      · rw [requestSlew_stages]
        exact updOrder_stages_of (by intro o; rfl) s
      · rfl
    · rfl

namespace LimitsBut

/-! ### Outcomes, closing and rescue -/

section outcomes
variable {s : State}

protected theorem setMark {x : Option Nat} (h : LimitsBut x s) {id m} : LimitsBut x (setMark id m s) := h.noteOrder.updOrder

protected theorem rechooseMark {x : Option Nat} (h : LimitsBut x s) {o} : LimitsBut x (rechooseMark o s) := h.setMark

protected theorem leaveWaits (h : LimitsBut none s) {id} : LimitsBut none (leaveWaits id s) := (h.but id).leaveWaits_but

/-- An order leaves the table from a stage that does not wait, or after it has left the wait lists (R69, R81). -/
protected theorem finishOrder (h : LimitsBut none s) {id out} : LimitsBut none (finishOrder id out s) := by
  unfold Machine.finishOrder
  split
  · exact h
  next o ho =>
    have hnote : LimitsBut none (updNote id (fun k => { k with left := some (o, out) }) (Machine.noteOrder id s)) :=
      h.noteOrder.updNote
    have hgone : ∀ t : State, LimitsBut none t → t.waitsNowhere id → LimitsBut none (countOutcome out
        (t.onChg (fun c => { c with orders := c.orders.filter (fun p => p.id != id) }))) := fun t ht hid =>
      (ht.removeOrder hid).countOutcome
    dsimp only
    split
    next hst =>
      have hidle : s.idleStage id := idleStage_of_order? h.ids ho (by rw [hst]; rfl)
      have hid := waitsNowhere_congr (t := updNote id (fun k => { k with left := some (o, out) }) (Machine.noteOrder id s))
        (noteOrder_dir id s) (h.waitsNowhere hidle)
      exact ((hgone _ hnote hid).forEach fun _ _ _ ht => ht.rechooseMark).forEach fun _ _ _ ht => ht.emit
    · refine ((hgone _ hnote.leaveWaits.dropSlew.dropWarm.updTx.updProt ?_).forEach
        fun _ _ _ ht => ht.rechooseMark).forEach fun _ _ _ ht => ht.emit
      refine waitsNowhere_congr ?_ (leaveWaits_waitsNowhere id (updNote id (fun k => { k with left := some (o, out) })
        (Machine.noteOrder id s)))
      simp

protected theorem refreshMove {x : Option Nat} (h : LimitsBut x s) {id} : LimitsBut x (refreshMove id s) := h.setWork

/-- An order enters CLOSING and leaves the wait lists in one event (R81). -/
protected theorem enterClosing (h : LimitsBut none s) {id out} : LimitsBut none (enterClosing id out s) := by
  unfold Machine.enterClosing
  split
  · exact h
  · refine h.ite (LimitsBut.emit (LimitsBut.refreshMove ?_))
    refine LimitsBut.ite (LimitsBut.carrierOffRequest (LimitsBut.setWork ?_)) ?_ <;>
      refine LimitsBut.ite (LimitsBut.endSearch ?_) ?_ <;>
        exact (LimitsBut.updOrder (h.but id).setStage_but).leaveWaits_but.dropRequesters.dropSlew.dropWarm.dropRecovery

protected theorem preempt (h : LimitsBut none s) {id} : LimitsBut none (preempt id s) := by
  unfold Machine.preempt
  split
  · exact h
  next o _ =>
    have hs : LimitsBut none (if o.preempting.isSome then Machine.setMark id none s else s) := h.setMark.ite h
    dsimp only
    split
    · exact hs.finishOrder
    · exact hs
    · exact hs.enterClosing

protected theorem conclude (h : LimitsBut none s) {id out} : LimitsBut none (conclude id out s) := by
  unfold Machine.conclude
  split
  · exact h
  · exact h.finishOrder.ite h.enterClosing

protected theorem preemptFor (h : LimitsBut none s) {rescued id} : LimitsBut none (preemptFor rescued id s) :=
  h.updOrder.ite h.preempt

/-- A rescued order returns to STAGED on its new antenna; it was in CLOSING or STAGED, and waited for none (R88). -/
protected theorem rescue (h : LimitsBut none s) {o c} (hid : s.waitsNowhere o.id) : LimitsBut none (rescue o c s) := by
  refine LimitsBut.emit (LimitsBut.forEach (LimitsBut.count (LimitsBut.setFactor (LimitsBut.updTx ?_)))
    fun _ _ _ ht => ht.preemptFor)
  exact LimitsBut.updOrder_idle h.noteOrder.updNote.updProt (waitsNowhere_congr (noteOrder_dir o.id s) hid)
    (htrips := fun _ _ => Nat.zero_le _)

protected theorem finishClosing (h : LimitsBut none s) {id} (hid : s.idleStage id) : LimitsBut none (finishClosing id s) := by
  unfold Machine.finishClosing
  split
  · exact h
  next o ho =>
    split
    · exact h.rescue ((order?_mem ho).2 ▸ h.waitsNowhere hid)
    · exact h.finishOrder

protected theorem closingStep (h : LimitsBut none s) {o} (hid : s.idleStage o.id) : LimitsBut none (closingStep o s) := by
  have hrel : ∀ t : State, LimitsBut none t → t.stages = s.stages → LimitsBut none (match o.load with
      | none => Machine.finishClosing o.id t
      | some c =>
        if (xpAt t o.snap.tx c).state.moving then if isLocal t then t else Machine.releaseWithOpening c o t
        else Machine.finishClosing o.id (Machine.updOrder o.id (fun x => { x with load := none })
          (Machine.plainRelease c o.id t))) := by
    intro t ht hst
    split
    · exact ht.finishClosing (idleStage_congr hst hid)
    next c _ =>
      refine (ht.ite ht.releaseWithOpening).ite (ht.plainRelease.updOrder.finishClosing (idleStage_congr ?_ hid))
      rw [updOrder_stages_of fun _ => by rfl, plainRelease_stages, hst]
  unfold Machine.closingStep
  refine h.refreshMove.ite ?_
  cases o.antenna with
  | none => exact hrel _ h.refreshMove (by simp)
  | some a => exact hrel _ h.refreshMove.plainRelease (by simp)

protected theorem failOrder (h : LimitsBut none s) {id cause} : LimitsBut none (failOrder id cause s) := by
  unfold Machine.failOrder
  split
  · exact h
  · split
    · exact h
    · exact h.updOrder
    · exact h.updOrder.ite h.updOrder.enterClosing

/-! ### Preparation -/

protected theorem failPreparation (h : LimitsBut none s) {id cause} (hid : s.idleStage id) :
    LimitsBut none (failPreparation id cause s) :=
  h.updOrder.finishClosing (idleStage_congr (updOrder_stages_of (by intro o; rfl) s) hid)

/-- An order asks for the claim of its antenna in a stage that waits, or on the way there (R70, R74). -/
protected theorem askClaim {x : Option Nat} (h : LimitsBut x s) {id : Nat} (hid : x = some id ∨ s.waitStage id) :
    LimitsBut x (askClaim id s) := by
  unfold Machine.askClaim
  dsimp only
  have hs : LimitsBut x (Machine.updOrder id (fun x => { x with claimDue := false, work := { x.work with claim := true } }) s) :=
    h.updOrder
  split
  next o ho =>
    obtain ⟨hmem, hoid⟩ := order?_mem ho
    refine hs.emit.ite (hs.requestClaim fun hc => ⟨o, hmem, rfl, ?_, ?_⟩)
    · cases ha : o.antenna with
      | none => rw [ha] at hc; exact absurd (mem_upTo.mp hc).1 (by simp)
      | some a => exact ha
    · rcases hid with hx | hw
      · exact .inr (hoid ▸ hx)
      · exact .inl (stage_of_waitStage hs.ids hmem hoid (waitStage_congr (updOrder_stages_of (by intro o; rfl) s) hw))
  · exact hs

protected theorem enterClearing (h : LimitsBut none s) {id} : LimitsBut none (enterClearing id s) := h.setStage.emit

protected theorem enterWarming (h : LimitsBut none s) {id n} : LimitsBut none (enterWarming id n s) :=
  h.setStage.setWork.requestWarmUp

/-- Preparation begins: the order takes its antenna while it waits nowhere, asks for the claim, and takes a stage that waits
(R70). -/
protected theorem beginPreparation (h : LimitsBut none s) {id} (hid : s.idleStage id) :
    LimitsBut none (beginPreparation id s) := by
  unfold Machine.beginPreparation
  split
  · exact h
  next o _ =>
    have hs : LimitsBut none (Machine.setFactor o.snap.tx 1000 (some id) none .preparation (Machine.noteOrder id s)) :=
      h.noteOrder.setFactor
    have hidle := idleStage_congr (t := Machine.setFactor o.snap.tx 1000 (some id) none .preparation (Machine.noteOrder id s))
      (by simp) hid
    dsimp only
    split
    · exact hs.failPreparation hidle
    · exact hs.failPreparation hidle
    · split
      · exact hs.failPreparation hidle
      · have hclaim : ∀ t p, [Decidable p] → LimitsBut none t → LimitsBut (some id) (if p then t else Machine.askClaim id t) :=
          fun t p _ ht => (ht.but id).ite ((ht.but id).askClaim (.inl rfl))
        have hant : ∀ f : Order → Order, (∀ o, (f o).id = o.id) → (∀ o, (f o).tripTimes = o.tripTimes) →
            LimitsBut none (Machine.updOrder id f (Machine.setFactor o.snap.tx 1000 (some id) none .preparation
              (Machine.noteOrder id s))) := fun f hf hf' =>
          hs.updOrder_idle (hs.waitsNowhere hidle) hf fun o ho => hf' o ▸ ho
        refine LimitsBut.ite (LimitsBut.requestWarmUp (LimitsBut.setWork ?_)) (LimitsBut.emit ?_) <;>
          exact LimitsBut.setStage_waiting (hclaim _ _ (LimitsBut.countTuneKind (hant _ (by intro o; rfl) (by intro o; rfl))))

protected theorem askSlew {x : Option Nat} (h : LimitsBut x s) {o} : LimitsBut x (askSlew o s) := by
  unfold Machine.askSlew
  split
  · exact h
  · split
    · exact h.updOrder.requestSlew.ite h
    · exact h

end outcomes

section steps
variable {s : State}

/-- An order in a stage that waits joins the load wait list (R104). -/
protected theorem joinLoadWait (h : LimitsBut none s) {o} (ho : s.waitStage o.id) : LimitsBut none (joinLoadWait o s) := by
  refine h.onDir h.waits ?_
  show LoadsWell _ _ (if s.dir.loadWait.contains o.id then s.dir.loadWait else insertWaiting s o s.dir.loadWait)
  split
  · exact h.loads
  next hn =>
    have hperm := insertWaiting_perm s o s.dir.loadWait
    have hnot : o.id ∉ s.dir.loadWait := by simpa using hn
    refine ⟨hperm.nodup_iff.mpr (List.nodup_cons.mpr ⟨hnot, h.loads.nodup⟩), fun k hk => ?_⟩
    rcases List.mem_cons.mp (hperm.mem_iff.mp hk) with rfl | hk
    · obtain ⟨st, hmem, hst⟩ := ho
      obtain ⟨p, hp, he⟩ := List.mem_map.mp hmem
      obtain ⟨hpid, rfl⟩ : p.id = o.id ∧ p.stage = st := by simpa using he
      exact ⟨p, hp, hpid, trivial, .inl hst⟩
    · exact h.loads.live k hk

protected theorem beginSearch (h : LimitsBut none s) {o} (ho : s.waitStage o.id) : LimitsBut none (beginSearch o s) := by
  have hload : ∀ t, LimitsBut none t → t.stages = s.stages → LimitsBut none (Machine.emit .offerLoads
      (Machine.joinLoadWait o (Machine.setWork o.id (fun w => { w with load := true }) t))) := fun t ht hst =>
    (ht.setWork.joinLoadWait (waitStage_congr (by simp [hst]) ho)).emit
  unfold Machine.beginSearch
  dsimp only
  split
  · split
    · refine hload _ h.updOrder.releaseWithOpening ?_
      rw [releaseWithOpening_stages]
      exact updOrder_stages_of (by intro o; rfl) s
    · exact hload _ h rfl
  · exact hload _ h rfl

/-- After an entry into a stage that waits, an order found by its id is in it. -/
theorem waitStage_setStage {id : Nat} {st : Stage} {o : Order} {t : State} (ht : t.stages = (Machine.setStage id st s).stages)
    (ho : order? t id = some o) (hst : Stage.between .warming .recovering st = true := by rfl) : t.waitStage o.id := by
  obtain ⟨hmem, hoid⟩ := order?_mem ho
  have hin : (o.id, o.stage) ∈ t.stages := List.mem_map_of_mem hmem
  rw [ht, setStage_stages] at hin
  obtain ⟨k, -, hk⟩ := List.mem_map.mp hin
  have hstage : o.stage = st := by
    split at hk
    · exact (Prod.mk.inj hk).2.symm
    next hne => exact absurd (congrArg Prod.fst hk) (by simpa [hoid] using hne)
  exact ⟨o.stage, List.mem_map_of_mem hmem, hstage ▸ hst⟩

protected theorem enterTuning (h : LimitsBut none s) {id} : LimitsBut none (enterTuning id s) := by
  have hs : LimitsBut none (Machine.updOrder id (fun x => { x with tuneDone := false }) (Machine.setStage id .tuning s)) :=
    h.setStage.updOrder
  have hstages : (Machine.updOrder id (fun x => { x with tuneDone := false }) (Machine.setStage id .tuning s)).stages =
      (Machine.setStage id .tuning s).stages := updOrder_stages_of (by intro o; rfl) _
  unfold Machine.enterTuning
  dsimp only
  split
  · exact hs
  next o ho =>
    have hwait := waitStage_setStage hstages ho
    split
    · exact hs.emit
    · refine hs.emit.ite ?_
      split
      · exact hs.setWork.startPreset
      · exact LimitsBut.beginSearch hs.updOrder.count (waitStage_congr (updOrder_stages_of (by intro o; rfl) _) hwait)
      · exact hs.beginSearch hwait
      · exact hs.emit.ite hs.setWork.startMode

protected theorem enterRouting (h : LimitsBut none s) {id} : LimitsBut none (enterRouting id s) := h.setStage.emit
protected theorem enterPoised (h : LimitsBut none s) {id} : LimitsBut none (enterPoised id s) := h.setStage.emit

protected theorem enterProving (h : LimitsBut none s) {id} : LimitsBut none (enterProving id s) := by
  unfold Machine.enterProving
  split
  · exact h
  · exact h.setStage.updOrder.dropRecovery.updProt.carrierOn

protected theorem enterRamping (h : LimitsBut none s) {id} : LimitsBut none (enterRamping id s) := by
  unfold Machine.enterRamping
  split
  · exact h
  · exact h.setStage.updOrder

protected theorem firstArrival (h : LimitsBut none s) {o} : LimitsBut none (firstArrival o s) :=
  h.ite (h.updOrder.count.ite h.updOrder.count)

protected theorem enterOnAir (h : LimitsBut none s) {id} : LimitsBut none (enterOnAir id s) := by
  unfold Machine.enterOnAir
  split
  · exact h
  · dsimp only
    split
    · exact h.setStage.firstArrival.offerSetpoint
    · exact h.setStage.firstArrival

protected theorem enterRecovering (h : LimitsBut none s) {id cause} : LimitsBut none (enterRecovering id cause s) :=
  h.setStage.updOrder

/-! ### The step an order takes -/

protected theorem clearColumn (h : LimitsBut none s) {o c} : LimitsBut none (clearColumn o c s) :=
  h.updOrder.releaseWithOpening.ite h.requestMove

protected theorem clearingStep (h : LimitsBut none s) {o} : LimitsBut none (clearingStep o s) := by
  have hclear : ∀ t l, LimitsBut none t → LimitsBut none (Machine.refreshMove o.id (Machine.forEach l (Machine.clearColumn o) t)) :=
    fun t l ht => (ht.forEach fun _ _ _ hu => hu.clearColumn).refreshMove
  refine h.emit.ite (LimitsBut.ite (LimitsBut.ite (LimitsBut.enterRouting (hclear _ _ ?_)) (LimitsBut.enterTuning (hclear _ _ ?_)))
    (hclear _ _ ?_)) <;>
    exact h.setWork.carrierOffRequest.ite h

protected theorem tuneComplete (h : LimitsBut none s) {o} (ho : s.waitStage o.id) : LimitsBut none (tuneComplete o s) :=
  (h.askClaim (.inr ho)).ite (h.enterRouting.ite h)

protected theorem tuningStep (h : LimitsBut none s) {o} (ho : s.waitStage o.id) : LimitsBut none (tuningStep o s) := by
  have hs : LimitsBut none (Machine.refreshMove o.id s) := h.refreshMove
  unfold Machine.tuningStep
  refine hs.ite (LimitsBut.ite ?_ (hs.ite ?_))
  · split
    · exact hs
    · split
      · exact hs.setWork.startSearch.ite hs.setWork.startSearch.holdSearch
      · exact hs.setWork.requestMove
      · exact hs
  · split
    · exact hs.releaseWithOpening
    · exact hs.tuneComplete (waitStage_congr (refreshMove_stages ..) ho)

protected theorem routingStep (h : LimitsBut none s) {o} : LimitsBut none (routingStep o s) := by
  unfold Machine.routingStep
  dsimp only
  split
  · exact h.refreshMove
  · exact (h.refreshMove.ite h.refreshMove.enterPoised).ite (h.refreshMove.ite h.refreshMove.setWork.requestMove)

protected theorem poisedStep (h : LimitsBut none s) {o} : LimitsBut none (poisedStep o s) := h.enterProving.ite h
protected theorem blockedStep (h : LimitsBut none s) {o} : LimitsBut none (blockedStep o s) := h.emit.ite h

end steps
end LimitsBut
end Sys2Proof.Machine
end

section
/-! PROOFS. The limits (O7): the step of an order, samples, results of commands, and the messages between the blocks. -/

set_option Elab.async false

namespace Sys2Proof.Machine
namespace LimitsBut

variable {s : State}

/-! ### The step of an order -/

protected theorem advance (h : LimitsBut none s) {id} : LimitsBut none (advance id s) := by
  unfold Machine.advance
  split
  · exact h
  next o ho =>
    split
    next hst => exact (h.beginPreparation (idleStage_of_order? h.ids ho (by rw [hst]; rfl))).ite h
    next hst => exact h.closingStep ((order?_mem ho).2 ▸ idleStage_of_order? h.ids ho (by rw [hst]; rfl))
    · refine h.blockedStep.ite (h.ite ?_)
      dsimp only
      split
      · exact h.askSlew
      next p hp =>
        split
        · exact h.askSlew.ite h.askSlew.enterClearing
        · exact h.askSlew.clearingStep
        next _ hst =>
          refine h.askSlew.tuningStep (waitStage_congr (askSlew_stages o s) ?_)
          rw [(order?_mem hp).2]
          exact waitStage_of_order? ho (by rw [hst]; rfl)
        · exact h.askSlew.routingStep
        · exact h.askSlew.poisedStep
        · exact h.askSlew

protected theorem claimGranted (h : LimitsBut none s) {id} : LimitsBut none (claimGranted id s) := h.updOrder.advance
protected theorem claimFailed (h : LimitsBut none s) {id} : LimitsBut none (claimFailed id s) := h.setWork.failOrder

protected theorem tuneEnded (h : LimitsBut none s) {id ok} : LimitsBut none (tuneEnded id ok s) :=
  h.updOrder.advance.ite h.failOrder.advance

/-- A handover that has failed is none any longer. -/
theorem updDir_handoverFailed (h : LimitsBut none s) {c id} : LimitsBut none
    (Machine.updDir c (fun d => if d.handover = some id then { d with handover := none } else d) s) := by
  refine h.updDir fun _ w => ?_
  split
  · exact w.shrink (.refl _) (fun _ _ he => he) fun _ _ he => absurd he nofun
  · exact w

protected theorem moveEnded (h : LimitsBut none s) {who col ok} : LimitsBut none (moveEnded who col ok s) := by
  unfold Machine.moveEnded
  split
  · exact h.refreshMove.emit.ite h.refreshMove.failOrder.emit
  next id =>
    have hload : ∀ t, LimitsBut none t → LimitsBut none ((if col ≤ 32 then (fun t => t)
        else Machine.updOrder id (fun x => { x with load := none })) t) := by
      intro t ht
      split
      · exact ht
      · exact ht.updOrder
    have hrel : LimitsBut none (if ok then (if col ≤ 32 then (fun t => t)
        else Machine.updOrder id (fun x => { x with load := none })) (Machine.plainRelease col id s) else s) :=
      (hload _ h.plainRelease).ite h
    exact hrel.refreshMove.emit.ite hrel.refreshMove.failOrder.emit
  · exact h.ite h.updDir_handoverFailed.settleColumn.claimFailed.offerWaiters
  · exact h

/-! ### Samples -/

protected theorem tripReport (h : LimitsBut none s) {n o st k d r} : LimitsBut none (tripReport n o st k d r s) := h.offerReport
protected theorem tripFault (h : LimitsBut none s) {k n o t} : LimitsBut none (tripFault k n o t s) := h.makeFaultWith

protected theorem tripNotTaken (h : LimitsBut none s) {n o st k d} : LimitsBut none (tripNotTaken n o st k d s) := by
  unfold Machine.tripNotTaken
  refine h.ite (LimitsBut.tripFault (LimitsBut.tripReport (LimitsBut.updProt ?_)))
  exact h.setFactor.ite h

/-- The trip history keeps the last five (R162). -/
protected theorem noteTrip (h : LimitsBut none s) {n k} : LimitsBut none (noteTrip n k s) :=
  h.updProt fun _ hp => pushFive_length_le _ hp

/-- The order keeps the times of its last five trips (R162). -/
protected theorem tripOrder (h : LimitsBut none s) {o k d} : LimitsBut none (tripOrder o k d s) := by
  unfold Machine.tripOrder
  refine h.tripNotTaken.ite (LimitsBut.count (LimitsBut.tripFault (LimitsBut.tripReport (LimitsBut.updProt
    (LimitsBut.enterRecovering (LimitsBut.updOrder (LimitsBut.updTx ?_) (htrips := fun _ ho => pushFive_length_le _ ho)))))))
  split
  · exact h.carrierOffRequest.noteTrip.setFactor
  · exact h.carrierOffRequest.noteTrip

protected theorem tripSearch (h : LimitsBut none s) {n o k d} : LimitsBut none (tripSearch n o k d s) := by
  unfold Machine.tripSearch
  refine h.tripNotTaken.ite ?_
  split
  · exact (LimitsBut.tripFault (LimitsBut.tripReport h.carrierOffRequest.noteTrip)).count.count.dropTune.emit
  · exact (LimitsBut.tripFault (LimitsBut.tripReport h.carrierOffRequest.noteTrip)).count.count.dropTune

protected theorem provePass (h : LimitsBut none s) {o} : LimitsBut none (provePass o s) := by
  unfold Machine.provePass
  dsimp only
  split
  · exact h.setPreset.updProt.enterRamping
  · exact h.updProt.enterRamping

protected theorem proveFail (h : LimitsBut none s) {o} : LimitsBut none (proveFail o s) :=
  (LimitsBut.updOrder h.invalidate.count).carrierOffRequest.updProt.enterTuning

protected theorem stepSetpoint (h : LimitsBut none s) {o permit} : LimitsBut none (stepSetpoint o permit s) := by
  unfold Machine.stepSetpoint
  dsimp only
  split
  · exact h.offerSetpoint
  · split
    · exact h.updProt.offerSetpoint.ite h.offerSetpoint
    · exact h.offerSetpoint
  · exact h

protected theorem cleanSample (h : LimitsBut none s) {o r} : LimitsBut none (cleanSample o r s) := by
  unfold Machine.cleanSample
  refine LimitsBut.ite (LimitsBut.ite (LimitsBut.provePass (LimitsBut.updOrder (LimitsBut.updProt ?_)))
    (LimitsBut.updOrder (LimitsBut.updProt ?_))) (LimitsBut.stepSetpoint (LimitsBut.updProt ?_))
  all_goals
    split
    · exact h.updProt.setFactor
    · exact h.updProt

protected theorem judgeSample (h : LimitsBut none s) {n r drop} : LimitsBut none (judgeSample n r drop s) := by
  unfold Machine.judgeSample
  split
  · split
    · exact h.updOrder.tripOrder
    · exact h.updOrder.ite h.proveFail
    · exact h.cleanSample
  · split
    · exact (h.tripSearch.ite (h.tripSearch.ite h.updProt)).ite h
    · exact h

protected theorem decideRecovery (h : LimitsBut none s) {n d} : LimitsBut none (decideRecovery n d s) := by
  have hs : LimitsBut none (Machine.updProt n (fun p => { p with recovery := none }) s) := h.updProt
  unfold Machine.decideRecovery
  dsimp only
  split
  · exact hs.leaveTripped
  · split
    · refine LimitsBut.ite ?_ (LimitsBut.ite (LimitsBut.enterProving ?_) (LimitsBut.updOrder ?_)) <;>
        exact LimitsBut.tripReport hs.leaveTripped
    · split
      · refine LimitsBut.emit (LimitsBut.tripReport (LimitsBut.tripFault (LimitsBut.leaveTripped ?_)))
        exact hs.ite hs.updDir_same.antReport
      · exact (LimitsBut.tripReport (LimitsBut.tripFault hs.setTxState)).emit

/-! ### Results of commands -/

protected theorem filamentResult (h : LimitsBut none s) {n on serial r} : LimitsBut none (filamentResult n on serial r s) := by
  unfold Machine.filamentResult
  dsimp only
  split
  · exact (h.setTxState.ite h).updTx.ite (h.setTxState.ite h)
  · exact h.warmUpFailed.ite h
  · split
    · exact (h.updTx.ite h).filamentOffAcked
    · exact LimitsBut.ite (h.updTx.ite h).updTx (h.updTx.ite h)

protected theorem tuneAcked (h : LimitsBut none s) {n limit} : LimitsBut none (tuneAcked n limit s) := h.updTx

protected theorem setMode (h : LimitsBut none s) {n m r} : LimitsBut none (setMode n m r s) := by
  unfold Machine.setMode
  split
  · exact h.updTx
  · exact h

protected theorem modeResult (h : LimitsBut none s) {n m serial r} : LimitsBut none (modeResult n m serial r s) := by
  unfold Machine.modeResult
  refine h.setMode.ite ?_
  split <;> exact h.setMode.tuneResult

protected theorem presetResult (h : LimitsBut none s) {n m serial r} : LimitsBut none (presetResult n m serial r s) := by
  unfold Machine.presetResult
  refine h.setMode.ite ?_
  split
  · exact h.setMode.tuneAcked
  · exact h.setMode.presetFail
  · exact h.setMode.presetFail

protected theorem searchResult (h : LimitsBut none s) {n m serial r} : LimitsBut none (searchResult n m serial r s) := by
  unfold Machine.searchResult
  refine h.setMode.ite ?_
  split
  · exact h.setMode.tuneAcked
  · exact h.setMode.searchFail

protected theorem positionsResult (h : LimitsBut none s) {n serial r} : LimitsBut none (positionsResult n serial r s) := by
  unfold Machine.positionsResult
  split
  · exact h
  · refine h.ite ?_
    split
    · exact h.setPreset.tuneResult.ite h.searchFail
    · exact h.searchFail

protected theorem carrierOnResult (h : LimitsBut none s) {n level serial r} :
    LimitsBut none (carrierOnResult n level serial r s) := by
  unfold Machine.carrierOnResult
  dsimp only
  split
  · exact LimitsBut.updProt (h.updTx.ite h)
  · split
    · exact LimitsBut.ite (LimitsBut.tripOrder (h.updTx.ite h)) (h.updTx.ite h)
    · exact h.updTx.ite h
  · exact h.updTx.ite h

protected theorem carrierOffResult (h : LimitsBut none s) {n serial} : LimitsBut none (carrierOffResult n serial s) := h.updTx

protected theorem setpointResult (h : LimitsBut none s) {n power r} : LimitsBut none (setpointResult n power r s) := by
  unfold Machine.setpointResult
  split
  · exact h.updProt
  · exact h.ite h.updProt

protected theorem moveResult (h : LimitsBut none s) {serial r} : LimitsBut none (moveResult serial r s) := by
  unfold Machine.moveResult
  split
  · exact h
  · refine h.ite ?_
    split
    · exact h
    · exact h.moveNak
    · exact h.moveNoReply

protected theorem slewResult (h : LimitsBut none s) {a serial r} : LimitsBut none (slewResult a serial r s) := by
  unfold Machine.slewResult
  split
  · exact h
  · exact h.failSlew.ite h
  · exact h

protected theorem commandResult (h : LimitsBut none s) {c r} : LimitsBut none (commandResult c r s) := by
  unfold Machine.commandResult
  split
  · exact h.filamentResult
  · exact h.modeResult
  · exact h.presetResult
  · exact h.searchResult
  · exact h.positionsResult
  · exact h.carrierOnResult
  · exact h.carrierOffResult
  · exact h.setpointResult
  · exact h.moveResult
  · exact h.slewResult
  · exact h

protected theorem unitSilent (h : LimitsBut none s) {k owner} : LimitsBut none (unitSilent k owner s) := by
  unfold Machine.unitSilent
  split
  · split
    · exact h.beginBlind.ite h.goOffline
    · exact h.goOffline
  · exact h
  · split
    · exact h.failSlew.ite h
    · exact h

/-! ### The messages between the blocks -/

protected theorem handle (h : LimitsBut none s) {g} : LimitsBut none (handle g s) := by
  unfold Machine.handle
  split
  · exact h.advance
  · exact h.failOrder
  · exact h.claimGranted
  · exact h.claimFailed
  · exact h.moveEnded
  · exact h.offerColumn
  · exact h.offerLoads
  · exact h.commandResult
  · exact h.unitLost
  · exact h.unitSilent
  · exact h.unitDown
  · exact h.tuneEnded
  · split
    · exact h.advance
    · exact h

protected theorem drain (h : LimitsBut none s) {fuel} : LimitsBut none (drain fuel s) := by
  induction fuel generalizing s with
  | zero => exact h
  | succ k ih =>
    unfold Machine.drain
    split
    · exact h
    · exact ih (LimitsBut.handle (h.onAgenda (f := fun _ => _)))

protected theorem rest (h : LimitsBut none s) : LimitsBut none (rest s) := h.drain.onAgenda
protected theorem settle (h : LimitsBut none s) : LimitsBut none (settle s) := h.rest.flushOrders.judgePermits

end LimitsBut
end Sys2Proof.Machine
end

section
/-! PROOFS. The limits (O7): admission, staging and the second boundary keep them. -/

set_option Elab.async false

namespace Sys2Proof.Machine

/-! ### A new id (R68) -/

/-- The ids looked at for a new order, in their order (R68). -/
def idCandidates (s : State) : List Nat := (List.range 33).map (fun k => (s.chg.lastId + k) % 65535 + 1)

theorem idCandidates_nodup (s : State) : (idCandidates s).Nodup := by
  refine List.Nodup.map_on (fun a ha b hb h => ?_) List.nodup_range
  rw [List.mem_range] at ha hb
  omega

/-- With no more than 32 live orders a new order finds an id that none of them holds (R68). -/
theorem newId_fresh {s : State} (h : s.chg.orders.length ≤ Config.maxOrders) : ∀ o ∈ s.chg.orders, o.id ≠ newId s := by
  have hfind : ∃ i, (idCandidates s).find? (fun i => s.chg.orders.all (fun o => o.id != i)) = some i := by
    by_contra hno
    have hall : ∀ i ∈ idCandidates s, i ∈ s.chg.orders.map (·.id) := by
      simpa [Option.eq_none_iff_forall_ne_some.symm] using hno
    have hle := ((idCandidates_nodup s).subperm hall).length_le
    simp only [idCandidates, List.length_map, List.length_range] at hle
    exact absurd (hle.trans h) (by decide)
  obtain ⟨i, hi⟩ := hfind
  have hid : newId s = i := congrArg (fun k => k.getD 1) hi
  intro o ho
  have := List.find?_some hi
  simp only [List.all_eq_true, bne_iff_ne] at this
  exact hid ▸ this o ho

/-- A candidate without fault finds room in the Order Table (R59). -/
theorem room_of_admissionFault {s : State} {c : Candidate} (h : admissionFault s c = none) :
    s.chg.orders.length < Config.maxOrders := by
  unfold admissionFault at h
  dsimp only at h
  split at h
  · cases h
  · split at h
    · cases h
    · split at h
      · cases h
      · omega

/-! ### Banks (R19) -/

theorem Bank.inOrder_of_entries {b k : Bank} (h : b.inOrder) (he : k.entries = b.entries) : k.inOrder := by
  unfold Bank.inOrder at *; rwa [he]

/-! ### What leaves the directory alone, and the stages -/

@[simp] theorem dropTune_dir (n) (s : State) : (dropTune n s).dir = s.dir := by
  unfold dropTune; dsimp only; (repeat' split) <;> rfl
@[simp] theorem failOrdersOn_dir (n lo hi cause) (s : State) : (failOrdersOn n lo hi cause s).dir = s.dir :=
  forEach_keeps State.dir _ _ _ fun _ _ => rfl
@[simp] theorem emit_dir (g) (s : State) : (emit g s).dir = s.dir := rfl
@[simp] theorem setTxState_dir (n st) (s : State) : (setTxState n st s).dir = s.dir := rfl
@[simp] theorem updOrder_dir (id f) (s : State) : (updOrder id f s).dir = s.dir := rfl
@[simp] theorem makeTxFault_dir (k n o) (s : State) : (makeTxFault k n o s).dir = s.dir := rfl
@[simp] theorem loseWork_dir (n lo) (s : State) : (loseWork n lo s).dir = s.dir := by
  unfold loseWork; dsimp only; split <;> simp
@[simp] theorem goOffline_dir (n) (s : State) : (goOffline n s).dir = s.dir := by
  unfold goOffline; dsimp only; (repeat' split) <;> simp
@[simp] theorem endBlind_dir (n) (s : State) : (endBlind n s).dir = s.dir := by
  unfold endBlind
  split
  · rfl
  · rw [goOffline_dir]
    exact forEach_keeps State.dir _ _ _ fun _ _ => rfl
@[simp] theorem setStage_dir (id st) (s : State) : (setStage id st s).dir = s.dir := by
  unfold setStage; dsimp only; (repeat' split) <;> simp

@[simp] theorem updNote_stages (id f) (s : State) : (updNote id f s).stages = s.stages := rfl
@[simp] theorem dropSlew_stages (id) (s : State) : (dropSlew id s).stages = s.stages := rfl
@[simp] theorem dropWarm_stages (n id) (s : State) : (dropWarm n id s).stages = s.stages := rfl
@[simp] theorem leaveWaits_stages (id) (s : State) : (leaveWaits id s).stages = s.stages := by
  unfold leaveWaits cancelHandover
  dsimp only
  split
  · rfl
  · rw [offerWaiters_stages]
    split <;> simp [dropRequesters]
@[simp] theorem setMark_stages (id m) (s : State) : (setMark id m s).stages = s.stages :=
  (updOrder_stages_of (by intro o; rfl) _).trans (noteOrder_stages id s)
@[simp] theorem rechooseMark_stages (o) (s : State) : (rechooseMark o s).stages = s.stages := setMark_stages ..
@[simp] theorem countOutcome_stages (out) (s : State) : (countOutcome out s).stages = s.stages := by cases out <;> rfl

/-- An order that leaves the table leaves the stages of the others as they were (R69). -/
theorem mem_finishOrder_stages {id : Nat} {out : OrderOutcome} {s : State} {k : Nat × Stage}
    (h : k ∈ (finishOrder id out s).stages) : k ∈ s.stages := by
  have hgone : ∀ t : State, t.stages = s.stages →
      k ∈ (t.onChg (fun c => { c with orders := c.orders.filter (fun p => p.id != id) })).stages → k ∈ s.stages := by
    rintro t ht hk
    rw [← ht]
    exact ((List.filter_sublist).map _).subset hk
  unfold finishOrder at h
  split at h
  · exact h
  · dsimp only at h
    rw [forEach_stages _ (by simp), forEach_stages _ (by simp), countOutcome_stages] at h
    refine hgone _ ?_ h
    split <;> simp

namespace LimitsBut

variable {s : State}

/-! ### Admission -/

/-- A new order waits nowhere, and takes an id and a place that are free (R59, R68). -/
theorem addOrder (h : LimitsBut none s) {o : Order} (hid : ∀ p ∈ s.chg.orders, p.id ≠ o.id)
    (hroom : s.chg.orders.length < Config.maxOrders) (ht : o.tripTimes = []) {last : Nat} :
    LimitsBut none (s.onChg (fun k => { orders := k.orders ++ [o], lastId := last })) := by
  have hlive : ∀ {p : Order → Prop} (k), Waitable none s.chg.orders p k → Waitable none (s.chg.orders ++ [o]) p k := by
    rintro p k ⟨q, hq, hk⟩
    exact ⟨q, List.mem_append_left _ hq, hk⟩
  refine { h with
    orders := ?_, ids := ?_, tripTimes := fun p hp => ?_
    waits := fun c hc => (h.waits c hc).of_waitable fun k _ => hlive k
    loads := h.loads.of_waitable fun k _ => hlive k }
  · show (s.chg.orders ++ [o]).length ≤ _
    rw [List.length_append]
    exact hroom
  · show ((s.chg.orders ++ [o]).map (·.id)).Nodup
    rw [List.map_append]
    refine List.nodup_append.mpr ⟨h.ids, by simp, fun a ha b hb => ?_⟩
    obtain ⟨p, hp, rfl⟩ := List.mem_map.mp ha
    simp only [List.map_cons, List.map_nil, List.mem_singleton] at hb
    exact hb ▸ hid p hp
  · rcases List.mem_append.mp hp with hp | hp
    · exact h.tripTimes p hp
    · rw [List.mem_singleton.mp hp, ht]; simp

protected theorem markFor (h : LimitsBut none s) {c id o} : LimitsBut none (markFor c id o s) := by
  unfold Machine.markFor
  split
  · exact h.ite h.setMark
  · exact h.setMark

protected theorem createOrder (h : LimitsBut none s) {c} (hroom : s.chg.orders.length < Config.maxOrders) :
    LimitsBut none (createOrder c s) := by
  unfold Machine.createOrder
  refine LimitsBut.onStaging ?_ (by exact List.length_filter_le ..)
  refine LimitsBut.informCoolDown (LimitsBut.forEach (LimitsBut.noteCreated ?_) fun _ _ _ ht => ht.markFor)
  exact h.addOrder (newId_fresh h.orders) hroom rfl

protected theorem admitOrder (h : LimitsBut none s) {c} : LimitsBut none (admitOrder c s).2 := by
  unfold Machine.admitOrder
  split
  · exact h
  next hfault => exact h.createOrder (room_of_admissionFault hfault)

theorem of_admitOrder (h : LimitsBut none s) {c a t} (ha : Machine.admitOrder c s = (a, t)) : LimitsBut none t := by
  have ht := h.admitOrder (c := c)
  rwa [ha] at ht

protected theorem stagingReport (h : LimitsBut none s) {k e st ev} : LimitsBut none (stagingReport k e st ev s) := h.offerReport

/-- An occurrence is deferred only while there is room (R61). -/
protected theorem deferOccurrence (h : LimitsBut none s) {d} : LimitsBut none (deferOccurrence d s) := by
  unfold Machine.deferOccurrence
  split
  · exact h
  · split
    next hroom =>
      have hput : LimitsBut none (s.onStaging (fun g => { g with deferred := g.deferred ++ [d] })) :=
        { h with deferred := (List.length_append ..).trans_le hroom }
      exact hput.stagingReport
    · exact h.stagingReport

protected theorem stageOccurrence (h : LimitsBut none s) {d} : LimitsBut none (stageOccurrence d s) := by
  unfold Machine.stageOccurrence
  split
  next ha => exact h.of_admitOrder ha
  next ha => exact (h.of_admitOrder ha).stagingReport
  next ha => exact (h.of_admitOrder ha).stagingReport
  next ha => exact (h.of_admitOrder ha).deferOccurrence

protected theorem stageUnlessLive (h : LimitsBut none s) {d} : LimitsBut none (stageUnlessLive d s) := h.ite h.stageOccurrence
protected theorem stageUnknown (h : LimitsBut none s) {d} : LimitsBut none (stageUnknown d s) := h.ite h.stageUnlessLive

protected theorem stagingScan (h : LimitsBut none s) : LimitsBut none (stagingScan s) := by
  unfold Machine.stagingScan
  exact LimitsBut.onStaging (h.forEach fun _ _ _ ht => ht.forEach fun _ _ _ hu => hu.stageUnknown) le_rfl

protected theorem catchOne (h : LimitsBut none s) {t y} : LimitsBut none (catchOne t y s) := h.stageUnknown.ite h

protected theorem catchUp (h : LimitsBut none s) : LimitsBut none (catchUp s) :=
  h.forEach fun _ _ _ ht => ht.forEach fun _ _ _ hu => hu.catchOne

protected theorem dropTest (h : LimitsBut none s) : LimitsBut none (dropTest s) :=
  (h.onStaging (List.length_filter_le ..)).forEach fun _ _ _ ht => ht.stagingReport

protected theorem retryDeferred (h : LimitsBut none s) {d} : LimitsBut none (retryDeferred d s) := by
  have hout : ∀ t, LimitsBut none t → LimitsBut none
      (t.onStaging (fun g => { g with deferred := g.deferred.filter (fun e => decide (e.origin ≠ d.origin)) })) := fun t ht =>
    ht.onStaging (List.length_filter_le ..)
  unfold Machine.retryDeferred
  dsimp only
  split
  next ha => exact hout _ (h.of_admitOrder ha)
  next ha => exact (hout _ (h.of_admitOrder ha)).stagingReport
  next ha => exact (hout _ (h.of_admitOrder ha)).stagingReport
  next ha => exact h.of_admitOrder ha

protected theorem retries (h : LimitsBut none s) : LimitsBut none (retries s) := h.forEach fun _ _ _ ht => ht.retryDeferred

protected theorem recomputePrepare (h : LimitsBut none s) : LimitsBut none (recomputePrepare s) := by
  refine h.mapOrders ?_ ?_ ?_ ?_ <;>
    · intro o; split <;> rfl

/-! ### AUTO -/

protected theorem setHeld (h : LimitsBut none s) {v id} : LimitsBut none (setHeld v id s) :=
  (h.noteOrder.ite h).updOrder

protected theorem endAuto (h : LimitsBut none s) : LimitsBut none (endAuto s) := h.forEach fun _ _ _ ht => ht.setHeld

protected theorem beginAuto (h : LimitsBut none s) : LimitsBut none (beginAuto s) := by
  have hrest := ((h.forEach (f := Machine.setHeld false) (l := idsWhere s (fun _ => true)) fun _ _ _ ht => ht.setHeld).forEach
    (f := fun id => Machine.emit (.advance id)) (l := idsWhere s (fun _ => true)) fun _ _ _ ht => ht.emit).rest
  exact (LimitsBut.catchUp (hrest.onStaging le_rfl)).dropTest.retries.stagingScan

protected theorem autoFollows (h : LimitsBut none s) {was} : LimitsBut none (autoFollows was s) :=
  h.beginAuto.ite (h.endAuto.ite h)

/-! ### The second boundary -/

protected theorem tickTimers (h : LimitsBut none s) : LimitsBut none (tickTimers s) := by
  refine LimitsBut.mapOrders (LimitsBut.onProt (LimitsBut.onTx (h.onMx_same rfl (List.length_map _))) fun p hp => ?_)
  obtain ⟨q, hq, rfl⟩ := List.mem_map.mp hp
  exact h.trips q hq

protected theorem countOccupancy (h : LimitsBut none s) : LimitsBut none (countOccupancy s) := h.onStats

/-- A change of the banks that leaves each in order. -/
protected theorem onBanks (h : LimitsBut none s) {f} (ha : (f s.banks).a.inOrder) (hb : (f s.banks).b.inOrder) :
    LimitsBut none (s.onBanks f) := by
  obtain ⟨-, -, hstore⟩ := h.banks
  exact { h with banks := ⟨ha, hb, hstore⟩ }

protected theorem updBank (h : LimitsBut none s) {k} {f : Bank → Bank} (hf : ∀ b, b.inOrder → (f b).inOrder) :
    LimitsBut none (updBank k f s) := by
  obtain ⟨ha, hb, -⟩ := h.banks
  cases k
  · exact h.onBanks (hf _ ha) hb
  · exact h.onBanks ha (hf _ hb)

/-- A change of a bank that keeps its entries. -/
theorem updBank_same (h : LimitsBut none s) {k} {f : Bank → Bank} (hf : ∀ b, (f b).entries = b.entries := by intro b; rfl) :
    LimitsBut none (Machine.updBank k f s) := h.updBank fun b hb => Bank.inOrder_of_entries hb (hf b)

protected theorem activateBank (h : LimitsBut none s) {k} : LimitsBut none (activateBank k s) := by
  unfold Machine.activateBank
  dsimp only
  split
  · refine LimitsBut.ite (LimitsBut.offerReport (LimitsBut.updBank_same ?_)) h
    exact h.updBank_same.ite h
  · exact h

protected theorem activateBanks (h : LimitsBut none s) : LimitsBut none (activateBanks s) := h.activateBank.activateBank

protected theorem continuePower (h : LimitsBut none s) {n o} : LimitsBut none (continuePower n o s) :=
  LimitsBut.ite h.updProt.setpointRequest (LimitsBut.ite h.updProt.updProt h.updProt)

/-- The successor, which is STAGED and waits nowhere, takes the antenna with its claim and goes on the air (R83). -/
protected theorem continueInto (h : LimitsBut none s) {o n} (hn : s.idleStage n.id) : LimitsBut none (continueInto o n s) := by
  have hfin : LimitsBut none (Machine.finishOrder o.id .ended (Machine.noteOrder n.id (Machine.noteOrder o.id s))) :=
    h.noteOrder.noteOrder.finishOrder
  have hidle : (Machine.finishOrder o.id .ended (Machine.noteOrder n.id (Machine.noteOrder o.id s))).idleStage n.id := by
    rw [idleStage_iff] at hn ⊢
    exact fun st hst => hn st (by simpa using mem_finishOrder_stages hst)
  have hnowhere := hfin.waitsNowhere hidle
  have hclaim : LimitsBut none (Machine.settleColumn (o.antenna.getD 0) (Machine.updDir (o.antenna.getD 0)
      (fun d => { d with claiming := some n.id })
      (Machine.finishOrder o.id .ended (Machine.noteOrder n.id (Machine.noteOrder o.id s))))) := by
    refine LimitsBut.settleColumn (hfin.updDir fun hc w => w.shrink (.refl _) (fun k hk he => ?_) fun _ _ he => he)
    exact absurd (Option.some.inj he ▸ hk) (hnowhere.1 _ hc)
  have hstays := hclaim.waitsNowhere (idleStage_congr (by simp) hidle)
  have hair := LimitsBut.setStage (id := n.id) (st := .onAir) hclaim
  have hant := fun (f : Order → Order) (hid : ∀ p, (f p).id = p.id) (ht : ∀ p, (f p).tripTimes = p.tripTimes) =>
    hair.updOrder_idle (waitsNowhere_congr (setStage_dir ..) hstays) hid fun p hp => (ht p).symm ▸ hp
  unfold Machine.continueInto
  dsimp only
  split
  · exact LimitsBut.continuePower (LimitsBut.count (LimitsBut.count (hant _ (by intro p; rfl) (by intro p; rfl))))
  · exact LimitsBut.count (LimitsBut.count (hant _ (by intro p; rfl) (by intro p; rfl)))

/-- A successor is STAGED (R83). -/
theorem successor?_idle (h : LimitsBut none s) {o n} (hn : successor? s o = some n) : s.idleStage n.id := by
  unfold successor? at hn
  obtain ⟨k, hk, hn⟩ := Option.bind_eq_some_iff.mp hn
  have hmin : k ∈ (s.chg.orders.filter (continues s o)).map (·.id) := List.min?_mem hk
  obtain ⟨p, hp, hpk⟩ := List.mem_map.mp hmin
  obtain ⟨hp, hcont⟩ := List.mem_filter.mp hp
  have hpn : p = n := eq_of_order? h.ids hn hp hpk
  have hstaged : p.stage = .staged := by
    unfold continues at hcont
    simp only [Bool.and_eq_true, beq_iff_eq] at hcont
    tauto
  subst hpn
  rw [(order?_mem hn).2]
  exact idleStage_of_order? h.ids hn (by rw [hstaged]; rfl)

protected theorem endProgramme (h : LimitsBut none s) {id} : LimitsBut none (endProgramme id s) := by
  unfold Machine.endProgramme
  split
  · exact h
  · split
    next hn =>
      split at hn
      · exact h.continueInto (h.successor?_idle hn)
      · cases hn
    · exact h.conclude

protected theorem endIfDue (h : LimitsBut none s) {id} : LimitsBut none (endIfDue id s) := h.endProgramme.ite h

protected theorem orderInstants (h : LimitsBut none s) : LimitsBut none (orderInstants s) := by
  refine LimitsBut.forEach (LimitsBut.forEach ?_ fun _ _ _ ht => ht.conclude) fun _ _ _ ht => ht.emit
  refine LimitsBut.ite ?_ (LimitsBut.forEach ?_ fun _ _ _ ht => ht.endIfDue) <;>
    exact h.forEach fun _ _ _ ht => ht.preempt

protected theorem clockReport (h : LimitsBut none s) {p c k} : LimitsBut none (clockReport p c k s) := h.offerReport
protected theorem applySetting (h : LimitsBut none s) {v st n} : LimitsBut none (applySetting v st n s) := h.onClock.clockReport

protected theorem timeFollows (h : LimitsBut none s) {was natural} : LimitsBut none (timeFollows was natural s) := by
  have hs : ∀ t, LimitsBut none t → LimitsBut none (if isAuto t && !was then Machine.beginAuto (Machine.hallReport .clock t)
      else if was && decide (natural.getD (now t) < now t) then Machine.catchUp t else t) := fun t ht =>
    ht.hallReport.beginAuto.ite (ht.catchUp.ite ht)
  have ha := hs _ h.activateBanks
  exact LimitsBut.ite (LimitsBut.recomputePrepare (ha.dropTest.retries.stagingScan.ite ha.dropTest)) ha

protected theorem clockAtMark (h : LimitsBut none s) {closed value} : LimitsBut none (clockAtMark closed value s) := by
  unfold Machine.clockAtMark
  split
  · exact h.applySetting
  · exact LimitsBut.ite h.onClock.onClock.clockReport h.onClock

protected theorem clockAtInternal (h : LimitsBut none s) {value} : LimitsBut none (clockAtInternal value s) := by
  unfold Machine.clockAtInternal
  split
  · exact h.applySetting.ite h.onClock.onClock
  · exact h.onClock

protected theorem secondBoundary (h : LimitsBut none s) {clock} (hc : ∀ n t, LimitsBut none t → LimitsBut none (clock n t)) :
    LimitsBut none (secondBoundary clock s) :=
  (hc _ _ h.tickTimers).countOccupancy.timeFollows.orderInstants

protected theorem rephase (h : LimitsBut none s) {closed} : LimitsBut none (rephase closed s) :=
  LimitsBut.ite (LimitsBut.clockAtMark h.onClock).timeFollows (LimitsBut.clockAtMark h.onClock)

protected theorem timeMark (h : LimitsBut none s) {early closed} : LimitsBut none (timeMark early closed s) :=
  h.rephase.ite (h.onClock.onClock.secondBoundary fun _ _ ht => ht.clockAtMark)

protected theorem internalBoundary (h : LimitsBut none s) : LimitsBut none (internalBoundary s) :=
  h.onClock.secondBoundary fun _ _ ht => ht.clockAtInternal

protected theorem watchRunsOut (h : LimitsBut none s) : LimitsBut none (watchRunsOut s) := h.onClock.clockReport.ite h

end LimitsBut
end Sys2Proof.Machine
end

section
/-! PROOFS. The limits (O7): the events of the Field Line and of the outside inputs keep them. -/

set_option Elab.async false

namespace Sys2Proof.Machine
namespace LimitsBut

variable {s : State}

/-! ### A TLU's poll reply -/

protected theorem writeReply (h : LimitsBut none s) {n r} : LimitsBut none (writeReply n r s) :=
  LimitsBut.ite (h.updTx.forEach fun _ _ _ ht => ht.updOrder) h.updTx

protected theorem filamentLost (h : LimitsBut none s) {n f} : LimitsBut none (filamentLost n f s) :=
  (h.setTxState.warmFromReply.ite h.setTxState).loseWork

protected theorem replyState (h : LimitsBut none s) {n r} : LimitsBut none (replyState n r s) :=
  h.goOffline.ite (h.ite (h.filamentLost.ite (h.ite h.takeState)))

protected theorem askPositions (h : LimitsBut none s) {n} : LimitsBut none (askPositions n s) :=
  h.updTx.ite h.updTx.updTx.offerTlu

protected theorem judgeTune (h : LimitsBut none s) {n r} : LimitsBut none (judgeTune n r s) := by
  unfold Machine.judgeTune
  split
  · exact h
  · refine h.ite ?_
    split
    · exact (h.updProt.ite h).tuneResult
    · exact h.presetFail
    · exact h.ite h.askPositions
    · exact h.searchFail
    · exact h

protected theorem clearingSees (h : LimitsBut none s) {n r} : LimitsBut none (clearingSees n r s) :=
  h.ite (h.forEach fun _ _ _ ht => ht.setWork)

protected theorem judgeOff (h : LimitsBut none s) {n r} : LimitsBut none (judgeOff n r s) :=
  LimitsBut.ite (h.confirmOff.takeStateIfTuning.ite h.confirmOff) h

protected theorem bringDown (h : LimitsBut none s) {n} : LimitsBut none (bringDown n s) := h.carrierOffRequest.ite h

protected theorem advanceWorking (h : LimitsBut none s) {n} : LimitsBut none (advanceWorking n s) := by
  unfold Machine.advanceWorking
  split
  · exact h.emit
  · exact h

protected theorem pollTransmitter (h : LimitsBut none s) {n r} : LimitsBut none (pollTransmitter n r s) := by
  have hs : LimitsBut none (Machine.rest (Machine.replyState n r (Machine.writeReply n r s))) := h.writeReply.replyState.rest
  exact (hs.warmUpDone.ite hs).judgeTune.clearingSees.judgeOff.bringDown.judgeSample.advanceWorking

/-! ### The end of a transaction -/

protected theorem afterTxn (h : LimitsBut none s) {t} : LimitsBut none (afterTxn t s) := by
  unfold Machine.afterTxn
  split
  · exact h.commandSlot
  · exact h.startPoll

protected theorem finishDead (h : LimitsBut none s) {t} : LimitsBut none (finishDead t s) := by
  unfold Machine.finishDead
  split
  · exact h.endTxn.afterTxn
  · exact h.endTxn.emit.rest.afterTxn

protected theorem missTxn (h : LimitsBut none s) {t cause} : LimitsBut none (missTxn t cause s) := by
  unfold Machine.missTxn
  split
  · exact h.endTxn.countMiss.rest.afterTxn
  · exact LimitsBut.ite h.endTxn.emit.countMiss.rest.afterTxn (h.countMiss.onLine le_rfl)

protected theorem missDead (h : LimitsBut none s) {t} : LimitsBut none (missDead t s) := h.count.finishDead

protected theorem answerTxn (h : LimitsBut none s) {heard formed} {deliver : Txn → State → State}
    (hd : ∀ t u, LimitsBut none u → LimitsBut none (deliver t u)) : LimitsBut none (answerTxn heard formed deliver s) := by
  unfold Machine.answerTxn
  split
  · exact h
  · exact (h.finishDead.ite h.missDead).ite ((hd _ _ h.endTxn.goodReply).rest.afterTxn.ite h.missTxn)

protected theorem transactionMiss (h : LimitsBut none s) {cause} : LimitsBut none
    (match s.line.txn with
      | none => s
      | some t => if t.live then Machine.missTxn t cause s else Machine.missDead t s) := by
  split
  · exact h
  · exact h.missTxn.ite h.missDead

protected theorem deliverResult (h : LimitsBut none s) {a t} : LimitsBut none (deliverResult a t s) := by
  unfold Machine.deliverResult
  split
  · exact h
  · exact h.commandResult

/-! ### Re-adoption -/

protected theorem readoptClosing (h : LimitsBut none s) {o} : LimitsBut none (readoptClosing o s) :=
  (h.carrierOffRequest.ite h).emit

protected theorem restartRecovery (h : LimitsBut none s) {o} : LimitsBut none (restartRecovery o s) := h.updProt

protected theorem restartWarming (h : LimitsBut none s) {o} : LimitsBut none (restartWarming o s) :=
  h.setWork.requestWarmUp.ite h.setWork.emit

protected theorem recoverSafety (h : LimitsBut none s) {o} : LimitsBut none (recoverSafety o s) :=
  h.carrierOffRequest.enterRecovering

protected theorem resumeOwn (h : LimitsBut none s) {o} : LimitsBut none (resumeOwn o s) := h.resumeSearch.ite h

protected theorem restartClearing (h : LimitsBut none s) {o} : LimitsBut none (restartClearing o s) := h.setWork.emit

protected theorem restartHeld (h : LimitsBut none s) {o} : LimitsBut none (restartHeld o s) := by
  unfold Machine.restartHeld
  split
  · exact h.carrierOffRequest.ite h
  · exact h.resumeOwn
  · exact h

protected theorem restartStage (h : LimitsBut none s) {o} : LimitsBut none (restartStage o s) := by
  unfold Machine.restartStage
  split
  · exact h.emit
  · exact h
  · exact h.restartWarming
  · exact h.resumeOwn.emit
  · exact h.restartClearing
  · exact h.emit
  · exact h.emit
  · refine LimitsBut.ite ?_ h.recoverSafety
    split
    · exact h.setpointRequest
    · exact h
  · exact h.enterProving.ite h.recoverSafety
  · exact LimitsBut.ite h.updOrder h.recoverSafety
  · exact (h.enterProving.ite h.restartRecovery).ite (h.ite h.updOrder)

protected theorem readopt (h : LimitsBut none s) {id} : LimitsBut none (readopt id s) := by
  unfold Machine.readopt
  split
  · exact h
  next o _ =>
    have hs : LimitsBut none (Machine.updOrder id (fun x => { x with preemptedBy := none }) s) := h.updOrder
    exact hs.readoptClosing.ite (LimitsBut.ite hs.updOrder.enterClosing (hs.conclude.ite (hs.conclude.ite
      (hs.preempt.ite (hs.restartHeld.ite hs.restartStage)))))

protected theorem releaseHeld (h : LimitsBut none s) : LimitsBut none (releaseHeld s) := h.forEach fun _ _ _ ht => ht.setHeld

/-! ### The outside inputs -/

protected theorem keyToRemote (h : LimitsBut none s) : LimitsBut none (keyToRemote s) := by
  have hp : LimitsBut none ((s.onPins (fun p => { p with key := .remote })).onProt
      (List.map (fun p => { p with latch := false }))) := LimitsBut.onProt h.onPins fun p hp => by
    obtain ⟨q, hq, rfl⟩ := List.mem_map.mp hp
    exact h.trips q hq
  have hs := ((hp.forEach (l := (Machine.sortedOrders s.chg.orders).map (·.id)) (f := Machine.readopt)
    fun _ _ _ ht => ht.readopt).releaseHeld.rest).hallReport (cause := .hallKey)
  exact hs.beginAuto.ite hs

protected theorem keyToLocal (h : LimitsBut none s) : LimitsBut none (keyToLocal s) :=
  (h.onPins.forEach fun _ _ _ ht => ht.setHeld).hallReport

protected theorem chainOpens (h : LimitsBut none s) : LimitsBut none (chainOpens s) := by
  have hs : LimitsBut none (Machine.makeFault .safetyOpen .hall none (Machine.hallReport .safetyChain
      (s.onPins (fun p => { p with chainClosed := false })))) := h.onPins.hallReport.makeFault
  exact (hs.ite (hs.forEach fun _ _ _ ht => ht.recoverSafety)).forEach fun _ _ _ ht => ht.holdSearch

protected theorem resumeHeld (h : LimitsBut none s) {n} : LimitsBut none (resumeHeld n s) := by
  unfold Machine.resumeHeld
  split
  · exact h.resumeSearch.ite h
  · exact h

protected theorem chainCloses (h : LimitsBut none s) : LimitsBut none (chainCloses s) := by
  have hs : LimitsBut none (Machine.hallReport .safetyChain (s.onPins (fun p => { p with chainClosed := true }))) :=
    h.onPins.hallReport
  exact hs.ite (((hs.forEach fun _ _ _ ht => ht.enterProving).forEach fun _ _ _ ht => ht.emit).forEach
    fun _ _ _ ht => ht.resumeHeld)

end LimitsBut
end Sys2Proof.Machine
end

section
/-! PROOFS. The limits (O7): the effects of the requests, of the Control Link, of power and of the restarts keep them. -/

set_option Elab.async false

namespace Sys2Proof.Machine

/-! ### What the refusals leave for the effects -/

/-- A request that passes its checks gives the property; a refused one changes nothing. -/
theorem checks_gives_of {P : State → Prop} {l : List (Bool × Status × Detail)} {go : Answer}
    (h : (∀ x ∈ l, x.1 = false) → go.gives P) : (checks l go).gives P := by
  induction l with
  | nil => exact h (by simp)
  | cons x l ih =>
    obtain ⟨bad, st, d⟩ := x
    unfold checks
    split
    · trivial
    next hb => exact ih fun hl => h (by simpa [hb] using hl)

/-! ### Entries of a bank (R19, R25) -/

/-- Every entry after a put is the one put or one that was there. -/
theorem mem_putEntry {e x : Entry} {l : List Entry} (h : x ∈ putEntry e l) : x = e ∨ x ∈ l := by
  induction l with
  | nil => simpa [putEntry] using h
  | cons y l ih =>
    unfold putEntry at h
    split at h
    · simpa using h
    · split at h
      · rcases List.mem_cons.mp h with h | h
        · exact .inl h
        · exact .inr (List.mem_cons_of_mem _ h)
      · rcases List.mem_cons.mp h with h | h
        · exact .inr (h ▸ List.mem_cons_self ..)
        · exact (ih h).imp_right (List.mem_cons_of_mem _)

theorem putEntry_ascending {e : Entry} {l : List Entry} (h : l.Pairwise (fun x y => x.number < y.number)) :
    (putEntry e l).Pairwise (fun x y => x.number < y.number) := by
  induction l with
  | nil => simp [putEntry]
  | cons y l ih =>
    obtain ⟨hy, hl⟩ := List.pairwise_cons.mp h
    unfold putEntry
    split
    next hlt =>
      refine List.pairwise_cons.mpr ⟨fun x hx => ?_, h⟩
      rcases List.mem_cons.mp hx with rfl | hx
      · exact hlt
      · exact hlt.trans (hy x hx)
    · split
      next heq => exact List.pairwise_cons.mpr ⟨fun x hx => heq ▸ hy x hx, hl⟩
      next hlt heq =>
        refine List.pairwise_cons.mpr ⟨fun x hx => ?_, ih hl⟩
        rcases mem_putEntry hx with rfl | hx
        · omega
        · exact hy x hx

/-- Entries at ascending numbers from 1 to 400 are at most 400. -/
theorem entries_length_le {l : List Entry} (ha : l.Pairwise (fun x y => x.number < y.number))
    (hn : ∀ e ∈ l, 1 ≤ e.number ∧ e.number ≤ 400) : l.length ≤ 400 := by
  have hnodup : (l.map (·.number)).Nodup := (List.pairwise_map.mpr ha).imp Nat.ne_of_lt
  have hsub : l.map (·.number) ⊆ upTo 400 := fun n h => by
    obtain ⟨e, he, rfl⟩ := List.mem_map.mp h
    exact mem_upTo.mpr (hn e he)
  have := (hnodup.subperm hsub).length_le
  rwa [List.length_map, upTo_length] at this

theorem Bank.inOrder_put {b k : Bank} {e : Entry} (h : b.inOrder) (he : 1 ≤ e.number ∧ e.number ≤ 400)
    (hk : k.entries = putEntry e b.entries) : k.inOrder := by
  obtain ⟨-, ha, hn⟩ := h
  have hnum : ∀ x ∈ putEntry e b.entries, 1 ≤ x.number ∧ x.number ≤ 400 := fun x hx =>
    (mem_putEntry hx).elim (fun h => h ▸ he) (hn x)
  unfold Bank.inOrder
  rw [hk]
  exact ⟨entries_length_le (putEntry_ascending ha) hnum, putEntry_ascending ha, hnum⟩

theorem Bank.inOrder_sublist {b k : Bank} (h : b.inOrder) (hk : k.entries.Sublist b.entries) : k.inOrder := by
  obtain ⟨hlen, ha, hn⟩ := h
  exact ⟨hk.length_le.trans hlen, ha.sublist hk, fun e he => hn e (hk.subset he)⟩

theorem Bank.inOrder_map {b k : Bank} {f : Entry → Entry} (h : b.inOrder) (hf : ∀ e, (f e).number = e.number)
    (hk : k.entries = b.entries.map f) : k.inOrder := by
  obtain ⟨hlen, ha, hn⟩ := h
  unfold Bank.inOrder
  rw [hk]
  refine ⟨(List.length_map _).trans_le hlen, List.pairwise_map.mpr (ha.imp fun hxy => by rwa [hf, hf]), fun e he => ?_⟩
  obtain ⟨x, hx, rfl⟩ := List.mem_map.mp he
  rw [hf]
  exact hn x hx

theorem emptyBank_inOrder : Bank.inOrder {} := ⟨Nat.zero_le _, .nil, by rintro _ ⟨⟩⟩

/-! ### The Control Link Port (R181, R184) -/

/-- The Port holds no more than its queue and its receive buffer take. -/
def Port.bounded (p : Port) : Prop := p.reports ≤ Config.maxReports ∧ p.rx.length ≤ Config.maxReceived

/-- A frame is put into the receive buffer only while there is room (R181). -/
theorem scanBytes_bounded {fuel : Nat} {l : List Byte} {p : Port} (h : p.bounded) : (scanBytes fuel l p).bounded := by
  induction fuel generalizing l p with
  | zero => exact h
  | succ k ih =>
    cases l with
    | nil => exact h
    | cons b more =>
      unfold scanBytes
      split
      · exact ih h
      · dsimp only
        split
        · exact ih h
        · exact ih h
        · exact ih h
        · split
          next hroom => exact ih ⟨h.1, (List.length_append ..).trans_le hroom⟩
          · exact ih h

theorem receive_bounded {l : List Byte} {p : Port} (h : p.bounded) : (receive l p).bounded := scanBytes_bounded h

theorem gapOut_bounded {fuel : Nat} {p : Port} (h : p.bounded) : (gapOut fuel p).bounded := by
  induction fuel generalizing p with
  | zero => exact h
  | succ k ih =>
    unfold gapOut
    split
    · exact h
    next got _ => exact ih (receive_bounded (p := { p with framing := .seeking, gap := bump p.gap }) h)

theorem sendOne_bounded {p : Port} (h : p.bounded) : (sendOne p).bounded := by
  unfold sendOne
  split
  next f l hout =>
    refine ⟨le_trans ?_ h.1, h.2⟩
    unfold Port.reports
    rw [hout]
    exact ((List.sublist_cons_self f l).filter _).length_le
  · exact h

namespace LimitsBut

variable {s : State}

theorem port_bounded (h : LimitsBut none s) : s.port.bounded := ⟨h.reports, h.rx⟩

theorem onPort_bounded (h : LimitsBut none s) {f} (hf : (f s.port).bounded) : LimitsBut none (s.onPort f) := h.onPort hf.1 hf.2

/-! ### The Hall Description -/

protected theorem rebindTx (h : LimitsBut none s) {n old new} : LimitsBut none (rebindTx n old new s) := by
  have hfree : LimitsBut none (freeOld old new s) := by
    unfold freeOld
    split
    · exact LimitsBut.ite (h.unbindUnit.ite h).unbindUnit (h.unbindUnit.ite h)
    · exact h
  have hquiet : LimitsBut none (quietTx n old new (freeOld old new s)) := hfree.goOffline.updTx.ite hfree
  rw [rebindTx_eq]
  unfold bindNew
  split
  · exact LimitsBut.ite (hquiet.bindUnit.ite hquiet).bindUnit (hquiet.bindUnit.ite hquiet)
  · exact hquiet

protected theorem defineTx (h : LimitsBut none s) {n r} : LimitsBut none (defineTx n r s) := h.updTxRec.rebindTx.updTx

protected theorem removeTx (h : LimitsBut none s) {n} : LimitsBut none (removeTx n s) :=
  h.ite (h.updTxRec.rebindTx.updTx.setFactor.updProt fun _ _ => Nat.zero_le _)

protected theorem rebindAnt (h : LimitsBut none s) {a old new} : LimitsBut none (rebindAnt a old new s) := by
  have hfree : LimitsBut none (freeAru old new s) := by
    unfold freeAru
    split
    · exact h.unbindUnit.ite h
    · exact h
  cases old with
  | none =>
    cases new with
    | none => exact h
    | some q => exact h.setRotatorRecord.bindUnit
  | some p =>
    cases new with
    | none => exact hfree.setRotatorRecord
    | some q => exact hfree.updRotator.bindUnit.ite hfree

protected theorem defineAnt (h : LimitsBut none s) {a r} : LimitsBut none (defineAnt a r s) := h.updAntRec.rebindAnt

protected theorem removeAnt (h : LimitsBut none s) {a} : LimitsBut none (removeAnt a s) :=
  h.updAntRec.rebindAnt.updDir_same.antReport.ite h.updAntRec.rebindAnt

/-- The drive credits change only while no movement is in flight (R16). -/
protected theorem setParams (h : LimitsBut none s) {f : HallFields} (hf : f.credits = none ∨ s.mx.movements = []) :
    LimitsBut none (setParams f s) := by
  have hs : LimitsBut none (s.onHall (fun k => { k with par := HallParams.set s.hall.par f })) := by
    refine { h with credits := ?_ }
    rcases hf with hf | hf
    · show _ ≤ f.credits.getD s.hall.par.credits
      rw [hf]
      exact h.credits
    · exact (congrArg List.length hf).trans_le (Nat.zero_le _)
  exact LimitsBut.ite hs.onMx_same hs

/-! ### The banks -/

protected theorem suspendEntry (h : LimitsBut none s) {k n} : LimitsBut none (suspendEntry k n s) :=
  ((h.forEach fun _ _ _ ht => ht.finishOrder).onStaging (by exact List.length_filter_le ..)).forEach
    fun _ _ _ ht => ht.stagingReport

protected theorem resumeEntry (h : LimitsBut none s) {k e} : LimitsBut none (resumeEntry k e s) := by
  unfold Machine.resumeEntry
  split
  · exact LimitsBut.ite (h.forEach fun _ _ _ ht => ht.stageUnlessLive) h
  · exact h

protected theorem suspendOne (h : LimitsBut none s) {k action n} : LimitsBut none (suspendOne k action n s) := by
  unfold Machine.suspendOne
  split
  · exact h
  next e _ =>
    have hs := h.updBank (k := k) (f := fun x => { x with entries := x.entries.map (fun y =>
      if y.number = n then { y with suspended := applyAction action e.suspended } else y) })
      fun b hb => Bank.inOrder_map hb (by intro y; split <;> rfl) rfl
    exact h.ite (hs.suspendEntry.ite hs.resumeEntry)

/-! ### The orders, the directory and the matrix -/

protected theorem setEnable (h : LimitsBut none s) {v} : LimitsBut none (setEnable v s) :=
  (h.onClock.ite h.onClock.hallReport).autoFollows

/-- A STAGED order begins its preparation (R65, R66). -/
theorem beginStaged (h : LimitsBut none s) {id : Nat} {o : Order} (ho : order? s id = some o) (hst : o.stage = .staged) :
    LimitsBut none (Machine.beginPreparation id s) :=
  h.beginPreparation (idleStage_of_order? h.ids ho (hst ▸ rfl))

theorem advanceStaged (h : LimitsBut none s) {id k : Nat} {o : Order} (ho : order? s id = some o) (hst : o.stage = .staged) :
    LimitsBut none (Machine.beginPreparation id (Machine.updOrder id (fun x => { x with prepare := k }) s)) := by
  refine LimitsBut.beginPreparation h.updOrder (idleStage_congr ?_ (idleStage_of_order? h.ids ho (hst ▸ rfl)))
  exact updOrder_stages_of (by intro p; rfl) s

protected theorem flagOne (h : LimitsBut none s) {flag action c} : LimitsBut none (flagOne flag action c s) := by
  unfold Machine.flagOne
  dsimp only
  refine LimitsBut.ite (h.updRotator.ite h) (LimitsBut.antReport (LimitsBut.updDir (h.updRotator.ite h) fun hc _ => ?_))
  refine WaitsWell.same (d := dirRec s c) ?_ ?_ ?_ ?_
  · split <;> exact h.waits c hc
  all_goals split <;> rfl

protected theorem settleDeclared (h : LimitsBut none s) {r c} : LimitsBut none (settleDeclared r c s) := h.settleTo

protected theorem clearXp (h : LimitsBut none s) {r c closed} : LimitsBut none (clearXp r c closed s) := by
  unfold Machine.clearXp
  refine LimitsBut.emit (LimitsBut.offerWaiters (LimitsBut.emit (LimitsBut.sweepQueue ?_)))
  refine LimitsBut.ite (LimitsBut.settleDeclared ?_) (LimitsBut.ite (LimitsBut.settleColumn ?_) (LimitsBut.columnOpened ?_)) <;>
    exact h.setXp.returnCredit.xpReport

protected theorem serviceXp (h : LimitsBut none s) {r c} : LimitsBut none (serviceXp r c s) :=
  LimitsBut.ite h.updXp.xpReport h.updXp

/-! ### The transmitters and the timers -/

protected theorem clearLock (h : LimitsBut none s) {n} : LimitsBut none (clearLock n s) :=
  (h.setTxState.takeState.updProt fun _ _ => Nat.zero_le _).setFactor.bringDown

protected theorem proceedUnconfirmed (h : LimitsBut none s) {o} : LimitsBut none (proceedUnconfirmed o s) :=
  h.makeTxFault.setWork.updTx.emit

protected theorem warmUpRanOut (h : LimitsBut none s) {n} : LimitsBut none (warmUpRanOut n s) :=
  h.warmUpFailed.ite h.warmUpFailed.offerTlu

protected theorem sendCoolDown (h : LimitsBut none s) {n} : LimitsBut none (sendCoolDown n s) := h.updTx.offerTlu

protected theorem blindRanOut (h : LimitsBut none s) {n} : LimitsBut none (blindRanOut n s) :=
  (h.updTx.forEach fun _ _ _ ht => ht.updOrder).goOffline

/-! ### The Table Store and power -/

theorem banks_setSlot {first : Bool} {x : Slot} {t : Store} (h1 : t.slot1.banksInOrder) (h2 : t.slot2.banksInOrder)
    (hx : x.banksInOrder) : (t.setSlot first x).slot1.banksInOrder ∧ (t.setSlot first x).slot2.banksInOrder := by
  cases first
  · exact ⟨h1, hx⟩
  · exact ⟨hx, h2⟩

/-- The image of a write is that of tables in order. -/
protected theorem beginStore (h : LimitsBut none s) {tag} : LimitsBut none (beginStore tag s) := by
  obtain ⟨ha, hb, h1, h2, -⟩ := h.banks
  obtain ⟨hs1, hs2⟩ := banks_setSlot (first := s.store.nextWrite.1) h1 h2 (x := .bad) trivial
  exact { h with banks := ⟨ha, hb, hs1, hs2, by rintro w ⟨⟩; exact ⟨ha, hb⟩⟩ }

protected theorem completeWrite (h : LimitsBut none s) {w} (hw : s.store.writing = some w) : LimitsBut none (completeWrite w s) := by
  obtain ⟨ha, hb, h1, h2, hwr⟩ := h.banks
  obtain ⟨hs1, hs2⟩ := banks_setSlot (first := w.first) h1 h2 (x := .good w.generation w.image) (hwr w hw)
  have hs : LimitsBut none (s.onStore (fun t => { t.setSlot w.first (.good w.generation w.image) with writing := none })) :=
    { h with banks := ⟨ha, hb, hs1, hs2, by rintro _ ⟨⟩⟩ }
  exact hs.queueReply.offerReport

/-- A write in flight is given up (R195). -/
theorem noWrite (h : LimitsBut none s) : LimitsBut none (s.onStore (fun t => { t with writing := none })) := by
  obtain ⟨ha, hb, h1, h2, -⟩ := h.banks
  exact { h with banks := ⟨ha, hb, h1, h2, by rintro _ ⟨⟩⟩ }

theorem blank : LimitsBut none State.blank where
  reports := Nat.zero_le _
  rx := Nat.zero_le _
  ring := Nat.zero_le _
  commands := Nat.zero_le _
  orders := Nat.zero_le _
  ids := .nil
  tripTimes := by rintro _ ⟨⟩
  deferred := Nat.zero_le _
  trips p hp := (List.eq_of_mem_replicate hp).symm ▸ Nat.zero_le _
  banks := ⟨emptyBank_inOrder, emptyBank_inOrder, trivial, trivial, by rintro _ ⟨⟩⟩
  waits c _ := WaitsWell.empty (by
    show ((nth (List.replicate 34 ({} : DirRec)) c).getD {}).waiting = []
    rw [nth_replicate_getD])
  loads := ⟨.nil, by rintro _ ⟨⟩⟩
  requests := .nil
  credits := Nat.zero_le _

/-- Power comes back to empty queues, rings and lists (R197). -/
protected theorem freshFrom (h : LimitsBut none s) : LimitsBut none (freshFrom s) := by
  obtain ⟨-, -, h1, h2, -⟩ := h.banks
  exact { blank with banks := ⟨emptyBank_inOrder, emptyBank_inOrder, h1, h2, by rintro _ ⟨⟩⟩ }

protected theorem bindAll (h : LimitsBut none s) : LimitsBut none (bindAll s) := by
  unfold Machine.bindAll
  refine LimitsBut.forEach (h.forEach fun n _ t ht => ?_) fun a _ t ht => ?_
  · split
    · exact ht.updUnit.updUnit
    · exact ht
  · split
    · exact ht.updUnit
    · exact ht

theorem latest_banks (h : LimitsBut none s) {first : Bool} {g : Nat} {i : Image} (hi : s.store.latest = some (first, g, i)) :
    i.banks.a.inOrder ∧ i.banks.b.inOrder := by
  obtain ⟨-, -, h1, h2, -⟩ := h.banks
  cases first
  · have hslot : s.store.slot2 = .good g i := slot_of_latest hi
    rwa [hslot] at h2
  · have hslot : s.store.slot1 = .good g i := slot_of_latest hi
    rwa [hslot] at h1

/-- The tables of an image whose banks are in order; the columns come back with nobody waiting (R125). -/
protected theorem imageTables (h : LimitsBut none s) {i : Image} (hi : i.banks.a.inOrder ∧ i.banks.b.inOrder) :
    LimitsBut none (imageTables i s) := by
  obtain ⟨-, -, hstore⟩ := h.banks
  refine { h with banks := ⟨hi.1, hi.2, hstore⟩, waits := fun c _ => WaitsWell.empty ?_, requests := .nil, credits := Nat.zero_le _ }
  unfold dirRec Machine.imageTables powerOnDir
  dsimp only [State.onDir]
  rw [nth_map]
  cases nth _ c <;> rfl

protected theorem loadImage (h : LimitsBut none s) {i : Image} (hi : i.banks.a.inOrder ∧ i.banks.b.inOrder) :
    LimitsBut none (loadImage i s) := (h.imageTables hi).bindAll.startPoll

protected theorem powerUp (h : LimitsBut none s) : LimitsBut none (powerUp s) := by
  rcases powerUp_cases s with ⟨first, g, i, hi, e | e⟩ | ⟨-, e⟩ <;> rw [e]
  · exact h.freshFrom.loadImage (h.latest_banks hi)
  · exact (h.freshFrom.loadImage (h.latest_banks hi)).offerReport
  · exact h.freshFrom.offerReport

/-! ### The restarts -/

protected theorem restartClock (h : LimitsBut none s) : LimitsBut none (restartClock s) := h.onClock.onStaging le_rfl

protected theorem cancelAll (h : LimitsBut none s) : LimitsBut none (cancelAll s) :=
  (h.forEach fun _ _ _ ht => ht.setMark).mapOrders.forEach fun _ _ _ ht => ht.conclude

/-- Protection records without trips. -/
theorem onProt_cleared (h : LimitsBut none s) {f : ProtRec → ProtRec} (hf : ∀ p, (f p).trips = [] := by intro p; rfl) :
    LimitsBut none (s.onProt (List.map f)) := h.onProt fun p hp => by
  obtain ⟨q, -, rfl⟩ := List.mem_map.mp hp
  simp [hf q]

protected theorem restartOrderly (h : LimitsBut none s) : LimitsBut none (restartOrderly s) := by
  unfold Machine.restartOrderly
  refine LimitsBut.ite (LimitsBut.hallReport ?_) ?_ <;>
    exact LimitsBut.onProt_cleared ((((h.restartClock.cancelAll.rest.flushOrders.onStaging (Nat.zero_le _)).forEach
      fun _ _ _ ht => ht.stagingReport).forEach fun _ _ _ ht => ht.setFactor))

end LimitsBut

/-- The first part of RESTART IMMEDIATE's release: nobody claims, waits or asks for a movement (R126). -/
def releaseWaits (s : State) : State :=
  s.onDir (fun d => { cols := d.cols.map (fun e => { e with claiming := none, handover := none, waiting := [] }), loadWait := [] })
    |> State.onMx (fun m => { m with
        queue := []
        movements := m.movements.map (fun v => { v with who := [] })
        rows := m.rows.map (List.map (fun x => if x.state.inFlight then { x with state := .unknown } else x))
        rotators := m.rotators.map (Option.map (fun r => { r with order := none, waiting := none })) })

theorem releaseAll_eq (s : State) : releaseAll s = forEach (upTo 34)
    (fun c t => updDir c (fun d => { d with state := (lawOf t c).1, owner := (lawOf t c).2 }) t) (releaseWaits s) := rfl

theorem releaseWaits_waiting (s : State) (c : Nat) : (dirRec (releaseWaits s) c).waiting = [] := by
  unfold dirRec releaseWaits
  dsimp only [State.onDir, State.onMx]
  rw [nth_map]
  cases nth s.dir.cols c <;> rfl

namespace LimitsBut

variable {s : State}

protected theorem releaseWaits (h : LimitsBut none s) : LimitsBut none (releaseWaits s) :=
  { h with
    waits := fun c _ => WaitsWell.empty (releaseWaits_waiting s c), loads := ⟨.nil, by rintro _ ⟨⟩⟩, requests := .nil
    credits := (List.length_map _).trans_le h.credits }

/-- Once nobody waits, the Order Table may be emptied. -/
theorem dropOrders (h : LimitsBut none s) :
    LimitsBut none ((Machine.releaseWaits s).onChg (fun c => { c with orders := [] })) :=
  { h.releaseWaits with
    orders := Nat.zero_le _, ids := .nil, tripTimes := by rintro _ ⟨⟩
    waits := fun c _ => WaitsWell.empty (releaseWaits_waiting s c), loads := ⟨.nil, by rintro _ ⟨⟩⟩ }

/-- Orders, claims and waits go together at RESTART IMMEDIATE (R97, R126). -/
theorem releaseAll_dropOrders (h : LimitsBut none s) :
    LimitsBut none (Machine.releaseAll ((s.onChg (fun c => { c with orders := [] })).onNotes (fun _ => []))) := by
  have hwaits : LimitsBut none (Machine.releaseWaits ((s.onChg (fun c => { c with orders := [] })).onNotes (fun _ => []))) :=
    LimitsBut.onNotes (f := fun _ => []) h.dropOrders
  rw [releaseAll_eq]
  exact hwaits.forEach fun _ _ _ ht => ht.updDir_same

protected theorem restartTx (h : LimitsBut none s) {searched n} : LimitsBut none (restartTx searched n s) := by
  unfold Machine.restartTx
  split
  · exact h
  · exact LimitsBut.ite (LimitsBut.goOffline (h.takeState.ite h))
      (LimitsBut.ite (LimitsBut.carrierOffRequest (h.takeState.ite h)) (h.takeState.ite h))

protected theorem restartImmediate (h : LimitsBut none s) : LimitsBut none (restartImmediate s) := by
  have hstaging := h.restartClock.onStaging (f := fun g => { g with deferred := [] }) (Nat.zero_le _)
  have hs := hstaging.releaseAll_dropOrders.onProt_cleared
    (f := fun p => { p.restarted with factor := 1000, reported := 1000 })
  exact ((LimitsBut.rest (hs.onTx (f := List.map TxCtl.restarted)).failCmds).forEach fun _ _ _ ht => ht.restartTx).hallReport.emit

end LimitsBut
end Sys2Proof.Machine
end

section
/-! PROOFS. The limits (O7): every command keeps them, and so does every step. -/

set_option Elab.async false

namespace Sys2Proof.Machine
namespace LimitsBut

variable {s t : State}

/-! ### What a command comes to -/

theorem of_event {f : State → State} (h : LimitsBut none s) (he : event f s = .next t) (hf : LimitsBut none (f s)) :
    LimitsBut none t := by
  rcases event_next he with ⟨rfl, -⟩ | ⟨rfl, -⟩
  · exact h
  · exact hf.settle

theorem of_request {kind tag : Nat} {f : State → Answer} (h : LimitsBut none s) (hr : request kind tag f s = .next t)
    (hf : (f s).gives (LimitsBut none)) : LimitsBut none t := by
  rcases request_next hr with ⟨rfl, -⟩ | ⟨st, d, -, rfl⟩ | ⟨u, data, hu, rfl⟩
  · exact h
  · exact h.queueReply
  · rw [hu] at hf
    exact (LimitsBut.settle hf).queueReply

theorem of_readRequest {kind tag : Nat} {f : State → Except (Status × Detail) ReplyData} (h : LimitsBut none s)
    (hr : readRequest kind tag f s = .next t) : LimitsBut none t := by
  rcases readRequest_next hr with rfl | ⟨st, d, data, rfl⟩
  · exact h
  · exact h.queueReply

/-! ### The requests with checks of their own -/

theorem of_execTxDefine {tag n d : Nat} {f : TxFields} (h : LimitsBut none s) (hr : execTxDefine tag n d f s = .next t) :
    LimitsBut none t := by
  refine h.of_request hr (checks_gives ?_)
  dsimp only
  split
  · split
    · exact trivial
    · split
      · exact trivial
      · exact trivial
      · exact checks_gives h.defineTx
  · refine checks_gives ?_
    split
    · exact trivial
    · exact checks_gives h.removeTx

theorem of_execAntDefine {tag a d : Nat} {f : AntFields} (h : LimitsBut none s) (hr : execAntDefine tag a d f s = .next t) :
    LimitsBut none t := by
  refine h.of_request hr (checks_gives ?_)
  split
  · exact checks_gives (h.onHall rfl)
  · refine checks_gives ?_
    split
    · split
      · exact trivial
      · exact trivial
      · exact trivial
      · exact checks_gives h.defineAnt
    · split
      · exact trivial
      · exact checks_gives h.removeAnt

theorem of_execHallSet {tag : Nat} {f : HallFields} (h : LimitsBut none s) (hr : execHallSet tag f s = .next t) :
    LimitsBut none t := by
  refine h.of_request hr (checks_gives ?_)
  split
  · exact trivial
  · refine checks_gives_of fun hpass => h.setParams (f := f) ?_
    have hcredits : (f.credits.isSome && !s.mx.movements.isEmpty) = false :=
      hpass (_, .busy, .none) (List.mem_cons_of_mem _ (List.mem_cons_self ..))
    rcases Bool.and_eq_false_iff.mp hcredits with hnone | hidle
    · exact .inl (by simpa using hnone)
    · exact .inr (by simpa using hidle)

theorem of_execBankHeader {tag bank : Nat} {season : Option Nat} {vf vt : Option Date} (h : LimitsBut none s)
    (hr : execBankHeader tag bank season vf vt s = .next t) : LimitsBut none t := by
  refine h.of_request hr (withBank_gives fun k => checks_gives ?_)
  split
  · exact trivial
  · exact h.updBank_same

/-- The number of an accepted entry lies from 1 to 400 (R23). -/
theorem of_execEntryPut {tag : Nat} {f : EntryFields} (h : LimitsBut none s) (hr : execEntryPut tag f s = .next t) :
    LimitsBut none t := by
  refine h.of_request hr (withBank_gives fun k => ?_)
  split
  · exact trivial
  next hrange =>
    have hnumber : 1 ≤ f.number ∧ f.number ≤ 400 :=
      within_eq_true.mp (firstBad_eq_none.mp hrange (1, within 1 400 f.number) (List.mem_cons_self ..))
    refine checks_gives ?_
    split
    · exact trivial
    · refine checks_gives ?_
      split
      · exact trivial
      · exact h.updBank fun b hb => Bank.inOrder_put (e := entryRecord f) hb hnumber rfl

theorem of_execOrderManual {tag : Nat} {f : ManualFields} (h : LimitsBut none s) (hr : execOrderManual tag f s = .next t) :
    LimitsBut none t := by
  refine h.of_request hr ?_
  split
  · exact trivial
  · refine checks_gives ?_
    split
    · exact trivial
    · refine checks_gives ?_
      split
      next ha => exact h.of_admitOrder ha
      all_goals exact trivial

theorem of_execOrderCancel {tag id : Nat} (h : LimitsBut none s) (hr : execOrderCancel tag id s = .next t) :
    LimitsBut none t := by
  refine h.of_request hr (checks_gives ?_)
  split
  · exact trivial
  · exact checks_gives h.conclude

/-- ORDER-ADVANCE begins the preparation of a STAGED order (R66). -/
theorem of_execOrderAdvance {tag id : Nat} (h : LimitsBut none s) (hr : execOrderAdvance tag id s = .next t) :
    LimitsBut none t := by
  refine h.of_request hr (checks_gives ?_)
  split
  · exact trivial
  next o ho =>
    refine checks_gives_of fun hpass => h.advanceStaged ho ?_
    simpa using hpass (o.stage != .staged, .stateRefused, .none) (List.mem_cons_self ..)

theorem of_execAntFlags {tag flag action mask : Nat} (h : LimitsBut none s) (hr : execAntFlags tag flag action mask s = .next t) :
    LimitsBut none t := by
  refine h.of_request hr (checks_gives ?_)
  split
  · exact trivial
  · exact LimitsBut.emit (h.forEach fun _ _ _ ht => ht.flagOne)

theorem of_execPresetPurge {tag n : Nat} {freq : Option Nat} {all : Bool} (h : LimitsBut none s)
    (hr : execPresetPurge tag n freq all s = .next t) : LimitsBut none t := by
  refine h.of_request hr (checks_gives ?_)
  dsimp only
  split
  · exact h.updTx
  · split
    · exact h.invalidate
    · exact trivial

theorem of_execCounterSet {tag n cls mask : Nat} (h : LimitsBut none s) (hr : execCounterSet tag n cls mask s = .next t) :
    LimitsBut none t := by
  refine h.of_request hr ?_
  split
  · exact trivial
  · exact checks_gives h.onStats

theorem of_execCounterRead {tag mask zeroing : Nat} (h : LimitsBut none s) (hr : execCounterRead tag mask zeroing s = .next t) :
    LimitsBut none t :=
  h.of_request hr (checks_gives (LimitsBut.ite (h.forEach fun _ _ _ ht => ht.onStats) h))

theorem of_execTimeSet {tag : Nat} {d : Date} {hour minute second : Nat} (h : LimitsBut none s)
    (hr : execTimeSet tag d hour minute second s = .next t) : LimitsBut none t := by
  refine h.of_request hr ?_
  split
  · exact trivial
  · exact h.onClock

theorem of_execStore {tag : Nat} (h : LimitsBut none s) (hr : execStore tag s = .next t) : LimitsBut none t := by
  unfold execStore at hr
  split at hr
  · cases hr; exact h
  · split at hr <;> cases hr
    · exact h.queueReply
    · exact h.beginStore

/-! ### The inputs and the supply -/

theorem of_execHallKeyChange {p : Control} (h : LimitsBut none s) (hr : execHallKeyChange p s = .next t) : LimitsBut none t := by
  unfold execHallKeyChange at hr
  split at hr
  · cases hr; exact h.onPins
  · split at hr
    · cases hr; exact h
    · split at hr
      · exact h.of_event hr h.keyToRemote
      · exact h.of_event hr h.keyToLocal

theorem of_execSafetyChainOpen (h : LimitsBut none s) (hr : execSafetyChainOpen s = .next t) : LimitsBut none t := by
  unfold execSafetyChainOpen at hr
  split at hr
  · cases hr; exact h.onPins
  · split at hr
    · exact h.of_event hr h.chainOpens
    · cases hr; exact h

theorem of_execSafetyChainClose (h : LimitsBut none s) (hr : execSafetyChainClose s = .next t) : LimitsBut none t := by
  unfold execSafetyChainClose at hr
  split at hr
  · cases hr; exact h.onPins
  · split at hr
    · cases hr; exact h
    · exact h.of_event hr h.chainCloses

theorem of_execPowerOn (h : LimitsBut none s) (hr : execPowerOn s = .next t) : LimitsBut none t := by
  unfold execPowerOn at hr
  split at hr <;> cases hr
  · exact h
  · exact h.powerUp.judgePermits

theorem of_execPowerLoss (h : LimitsBut none s) (hr : execPowerLoss s = .next t) : LimitsBut none t := by
  cases hr
  exact (h.onPins (f := fun p => { p with powered := false })).noWrite.judgePermits

/-! ### The timers -/

theorem of_execPreparationBegin {id : Nat} (h : LimitsBut none s) (hr : execPreparationBegin id s = .next t) :
    LimitsBut none t := by
  refine h.of_event hr ?_
  split
  next o ho =>
    split
    next hdue =>
      refine h.beginStaged ho ?_
      unfold preparesNow mayPrepare at hdue
      simp only [Bool.and_eq_true, beq_iff_eq] at hdue
      tauto
    · exact h
  · exact h

theorem of_execStoreWriteComplete (h : LimitsBut none s) (hr : execStoreWriteComplete s = .next t) : LimitsBut none t := by
  refine h.of_event hr ?_
  split
  · exact h
  next w hw => exact h.completeWrite hw

/-! ### All the commands -/

/-- Every command but FRAME_TAKEN, which carries others. -/
theorem of_exec {c : Instr} (hc : c ≠ .frameTaken) (h : LimitsBut none s) (hr : exec c s = .next t) : LimitsBut none t := by
  cases c <;> simp only [exec] at hr
  case frameTaken => exact absurd rfl hc
  case txRead | antRead | hallRead | lineRead | entryRead | bankStatus | timeRead | orderList | orderRead | matrixRead |
      presetRead | faultRead | identify =>
    simp only [execTxRead, execAntRead, execHallRead, execLineRead, execEntryRead, execBankStatus, execTimeRead,
      execOrderList, execOrderRead, execMatrixRead, execPresetRead, execFaultRead, execIdentify] at hr
    exact h.of_readRequest hr
  case txDefine => exact h.of_execTxDefine hr
  case antDefine => exact h.of_execAntDefine hr
  case hallSet => exact h.of_execHallSet hr
  case lineSet => exact h.of_request hr (checks_gives (h.onLine le_rfl))
  case bankHeader => exact h.of_execBankHeader hr
  case entryPut => exact h.of_execEntryPut hr
  case entryDelete =>
    exact h.of_request hr (withBank_gives fun k => checks_gives
      (h.updBank fun b hb => Bank.inOrder_sublist hb List.filter_sublist))
  case entrySuspend =>
    exact h.of_request hr (withBank_gives fun k => checks_gives (h.forEach fun _ _ _ ht => ht.suspendOne))
  case bankClear =>
    exact h.of_request hr (withBank_gives fun k => checks_gives (h.updBank fun _ _ => emptyBank_inOrder))
  case bankArm => exact h.of_request hr (withBank_gives fun k => checks_gives h.updBank_same)
  case bankDisarm => exact h.of_request hr (withBank_gives fun k => checks_gives h.updBank_same)
  case timeSet => exact h.of_execTimeSet hr
  case automation => exact h.of_request hr (checks_gives h.setEnable)
  case orderManual => exact h.of_execOrderManual hr
  case orderCancel => exact h.of_execOrderCancel hr
  case orderAdvance => exact h.of_execOrderAdvance hr
  case antFlags => exact h.of_execAntFlags hr
  case xpClear => exact h.of_request hr (checks_gives h.clearXp)
  case xpService => exact h.of_request hr (checks_gives (h.forEach fun _ _ _ ht => ht.serviceXp))
  case txInhibit => exact h.of_request hr (checks_gives (h.forEach fun _ _ _ ht => ht.updTxRec))
  case txLockClear => exact h.of_request hr (checks_gives h.clearLock)
  case presetPurge => exact h.of_execPresetPurge hr
  case reportSelect => exact h.of_request hr (checks_gives (h.onPort h.reports h.rx))
  case counterSet => exact h.of_execCounterSet hr
  case counterRead => exact h.of_execCounterRead hr
  case faultClear => exact h.of_request hr (h.onLog (Nat.zero_le _))
  case store => exact h.of_execStore hr
  case restartOrderly => exact h.of_request hr (checks_gives h.restartOrderly)
  case restartImmediate => exact h.of_request hr (checks_gives h.restartImmediate)
  case controlLinkByte => exact h.of_event hr (h.onPort_bounded (receive_bounded h.port_bounded))
  case gapTimeout => exact h.of_event hr (h.onPort_bounded (gapOut_bounded h.port_bounded))
  case outgoingFrameSent => exact h.of_event hr (h.onPort_bounded (sendOne_bounded h.port_bounded))
  case powerOn => exact h.of_execPowerOn hr
  case powerLoss => exact h.of_execPowerLoss hr
  case hallKeyChange => exact h.of_execHallKeyChange hr
  case safetyChainOpen => exact h.of_execSafetyChainOpen hr
  case safetyChainClose => exact h.of_execSafetyChainClose hr
  case timeMark => exact h.of_event hr h.timeMark
  case internalSecondBoundary => exact h.of_event hr h.internalBoundary
  case markWatchExpiry => exact h.of_event hr h.watchRunsOut
  case preparationBegin => exact h.of_execPreparationBegin hr
  case movementStart => exact h.of_event hr h.arbiterStart
  case moveTimeout =>
    refine h.of_event hr ?_
    split
    · exact h.moveTimedOut.ite h
    · exact h
  case slewStart =>
    refine h.of_event hr ?_
    split
    · exact h.startSlew.ite h
    · exact h
  case slewTimeout =>
    refine h.of_event hr ?_
    split
    · exact h.failSlew.ite h
    · exact h
  case pollReplyTlu => exact h.of_event hr (h.answerTxn fun _ _ hu => hu.pollTransmitter)
  case pollReplyMdu => exact h.of_event hr (h.answerTxn fun _ _ hu => hu.pollRow)
  case pollReplyAru => exact h.of_event hr (h.answerTxn fun _ _ hu => hu.pollRotator)
  case transactionMiss => exact h.of_event hr h.transactionMiss
  case commandReply => exact h.of_event hr (h.answerTxn fun _ _ hu => hu.deliverResult)
  case warmUpTimeout => exact h.of_event hr (h.warmUpRanOut.ite h)
  case idleClockCoolDown => exact h.of_event hr (h.sendCoolDown.ite h)
  case searchTuneTimeout => exact h.of_event hr (h.searchFail.ite h)
  case presetTuneTimeout => exact h.of_event hr (h.presetFail.ite h)
  case blindHoldExpiry => exact h.of_event hr (h.blindRanOut.ite h)
  case recoveryDelayExpiry =>
    refine h.of_event hr ?_
    split
    · exact h.decideRecovery.ite h
    · exact h
  case rampEnd =>
    refine h.of_event hr ?_
    split
    · exact h.enterOnAir.ite h
    · exact h
  case carrierOffConfirmTimeout =>
    refine h.of_event hr ?_
    split
    · exact h.proceedUnconfirmed.ite h
    · exact h
  case storeWriteComplete => exact h.of_execStoreWriteComplete hr

theorem of_carryOut {i : Instr} (h : LimitsBut none s) (hr : carryOut i s = .next t) : LimitsBut none t := by
  rcases carryOut_cases i s with e | ⟨e, hi, -⟩ <;> rw [e] at hr
  · cases hr; exact h
  · exact h.of_exec hi hr

/-- The frame taken leaves the receive buffer, and what it carries keeps the limits (R182). -/
theorem of_execFrameTaken (h : LimitsBut none s) (hr : execFrameTaken s = .next t) : LimitsBut none t := by
  unfold execFrameTaken at hr
  split at hr
  · cases hr; exact h
  · split at hr
    · cases hr; exact h
    next f rest hf =>
      have hrx : s.port.rx = f :: rest := by
        unfold takeable at hf
        split at hf
        next g l hl =>
          split at hf <;> simp only [Option.some.injEq, Prod.mk.injEq, reduceCtorEq] at hf
          obtain ⟨rfl, rfl⟩ := hf
          exact hl
        · cases hf
      have hs : LimitsBut none (s.onPort (fun p => { p with rx := rest })) := by
        refine h.onPort h.reports ?_
        have := h.rx
        rw [hrx] at this
        exact (Nat.le_succ _).trans this
      dsimp only at hr
      split at hr
      · exact hs.of_carryOut hr
      all_goals
        cases hr
        exact hs.queueReply

theorem of_step (h : LimitsBut none s) (hr : step s = .next t) : LimitsBut none t := by
  unfold step at hr
  split at hr
  · cases hr; exact h
  next c l _ =>
    by_cases hc : c = .frameTaken
    · subst hc
      exact (h.withPending (l := l)).of_execFrameTaken hr
    · exact (h.withPending (l := l)).of_exec hc hr

end LimitsBut

/-- Settles O7: the limits, with the wait lists spelled by `LimitsBut`, are kept by every command. -/
theorem everyStepKeepsTheLimits : Obligations.EveryStepKeepsTheLimits := by
  intro s t h hstep
  exact (limits_iff t).mpr (((limits_iff s).mp h).of_step hstep)

end Sys2Proof.Machine
end

section
/-! PROOFS. The bank edits, ENTRY-PUT, and the arming of a bank (O31, O32, O33). -/

set_option Elab.async false

namespace Sys2Proof.Machine

/-! ### The answers of a bank's requests -/

theorem withBank_of_code {bank : Nat} {k : BankId} (h : BankId.ofCode bank = some k) (f : BankId → Answer) :
    withBank bank f = f k := by
  unfold withBank; rw [h]

/-- The first check that fails refuses. -/
theorem checks_refuse {l more : List (Bool × Status × Detail)} {go : Answer} {st : Status} {d : Detail}
    (h : ∀ x ∈ l, x.1 = false) : checks (l ++ (true, st, d) :: more) go = refuse st d := by
  induction l with
  | nil => rfl
  | cons x l ih =>
    obtain ⟨b, st', d'⟩ := x
    have hb : b = false := h (b, st', d') (List.mem_cons_self ..)
    subst hb
    exact ih fun y hy => h y (List.mem_cons_of_mem _ hy)

/-- What a bank is refused with while it may not be edited (R20, R30, R31). -/
def BankState.refuses : BankState → Option Status
  | .armed => some .armed
  | .active => some .activeBank
  | _ => none

theorem frozen_refuses {s : State} {k : BankId} {st : Status} (hst : (bankOf s k).state.refuses = some st)
    {l more : List (Bool × Status × Detail)} {go : Answer} (h : ∀ x ∈ l, x.1 = false) :
    checks (l ++ (frozen s k ++ more)) go = refuse st := by
  unfold frozen
  cases hbank : (bankOf s k).state <;> rw [hbank] at hst <;> cases hst
  · exact checks_refuse h
  · rw [List.cons_append, List.append_cons]
    exact checks_refuse (l := l ++ [_]) (by simpa using h)

theorem frozen_pass {s : State} {k : BankId} (ha : (bankOf s k).state ≠ .armed) (hb : (bankOf s k).state ≠ .active) :
    ∀ x ∈ frozen s k, x.1 = false := by
  simp [frozen, ha, hb]

/-- No bank's contents are looked at by R120, so a change of one leaves the blocks settled. -/
theorem updBank_settled {s : State} (k : BankId) (f : Bank → Bank) (h : s.settled) : (updBank k f s).settled :=
  settled_eq rfl rfl rfl rfl rfl rfl h

/-- A request refused by the bank it names answers with its status alone (R182, R183). -/
theorem request_refused_bank {kind tag bank : Nat} {k : BankId} {s : State} {g : State → BankId → Answer} {st : Status}
    (hs : s.running) (hk : BankId.ofCode bank = some k) (hg : g s k = refuse st) :
    request kind tag (fun s => withBank bank (g s)) s = .next (refusal kind tag st s) := by
  simp [request, hs.1, withBank_of_code hk, hg, refuse, refusal]

/-- An accepted change of a bank stands in the answer as it is. -/
theorem request_changes_bank {kind tag bank : Nat} {k : BankId} {s : State} {g : State → BankId → Answer} {f : Bank → Bank}
    (hs : s.running) (hk : BankId.ofCode bank = some k) (hg : g s k = accept (updBank k f s)) :
    request kind tag (fun s => withBank bank (g s)) s = .next (okReply kind tag .none (updBank k f s)) :=
  request_accepted_settled (data := fun _ => .none) hs.1 (updBank_settled k f hs.2) ((withBank_of_code hk _).trans hg)

/-! ### The three edits (R20, R30, R31) -/

section
variable {tag bank : Nat} {k : BankId} {s : State} (hs : s.running) (hw : s.store.writing = none)
  (hk : BankId.ofCode bank = some k)
include hs hw hk

theorem bankClear_refused {st : Status} (hst : (bankOf s k).state.refuses = some st) :
    exec (.bankClear tag bank) s = .next (refusal 0x15 tag st s) := by
  unfold exec execBankClear
  refine request_refused_bank hs hk ?_
  exact frozen_refuses (l := [(storeBusy s, .busy, .none)]) (more := []) hst (by simp [storeBusy_eq_false hw])

theorem entryDelete_refused {st : Status} (hst : (bankOf s k).state.refuses = some st) {number : Nat}
    (h1 : 1 ≤ number) (h2 : number ≤ 400) :
    exec (.entryDelete tag bank number) s = .next (refusal 0x12 tag st s) := by
  unfold exec execEntryDelete
  refine request_refused_bank hs hk ?_
  rw [List.append_assoc]
  exact frozen_refuses hst (by simp [within, h1, h2, storeBusy_eq_false hw])

theorem bankHeader_refused {st : Status} (hst : (bankOf s k).state.refuses = some st) {season : Nat} {vf vt : Date}
    (hseason : season ≤ 65535) (hf : Date.valid vf = true) (ht : Date.valid vt = true) :
    exec (.bankHeader tag bank (some season) (some vf) (some vt)) s = .next (refusal 0x10 tag st s) := by
  unfold exec execBankHeader
  refine request_refused_bank hs hk ?_
  dsimp only
  rw [List.append_assoc]
  exact frozen_refuses hst (by simp [within, badDate, hseason, hf, ht, storeBusy_eq_false hw])

variable (ha : (bankOf s k).state ≠ .armed) (hb : (bankOf s k).state ≠ .active)
include ha hb

theorem bankClear_accepted : exec (.bankClear tag bank) s = .next (okReply 0x15 tag .none
    (updBank k (fun x => { x with entries := [], header := none, state := .empty }) s)) := by
  unfold exec execBankClear
  refine request_changes_bank hs hk ?_
  refine checks_pass ?_
  simpa [storeBusy_eq_false hw] using frozen_pass ha hb

theorem entryDelete_accepted {number : Nat} (h1 : 1 ≤ number) (h2 : number ≤ 400)
    (he : ∃ e ∈ (bankOf s k).entries, e.number = number) :
    exec (.entryDelete tag bank number) s = .next (okReply 0x12 tag .none
      (updBank k (fun x => { x with entries := x.entries.filter (fun e => e.number != number) }) s)) := by
  have hfound : (bankOf s k).entries.any (fun e => e.number == number) = true := by simpa using he
  unfold exec execEntryDelete
  refine request_changes_bank hs hk ?_
  refine checks_pass ?_
  simp only [List.forall_mem_append]
  exact ⟨⟨by simp [within, h1, h2, storeBusy_eq_false hw], frozen_pass ha hb⟩, by simp [hfound]⟩

theorem bankHeader_accepted {season : Nat} {vf vt : Date} (hseason : season ≤ 65535) (hf : Date.valid vf = true)
    (ht : Date.valid vt = true) (hle : Date.toDay vf ≤ Date.toDay vt)
    (hc : headerConflict (some { season := season, validFrom := Date.toDay vf, validTo := Date.toDay vt })
      (bankOf s k).entries = none) :
    exec (.bankHeader tag bank (some season) (some vf) (some vt)) s = .next (okReply 0x10 tag .none
      (updBank k (fun x => { x with
        header := some { season := season, validFrom := Date.toDay vf, validTo := Date.toDay vt }
        state := .loaded }) s)) := by
  unfold exec execBankHeader
  refine request_changes_bank hs hk ?_
  dsimp only [Option.map_some, Option.getD_some]
  rw [checks_pass, hc]
  simp only [List.forall_mem_append]
  exact ⟨⟨by simp [within, badDate, hseason, hf, ht, storeBusy_eq_false hw], frozen_pass ha hb⟩, by simp [hle]⟩

end

/-- Settles O31: a frozen bank refuses the three requests at one check, and elsewhere each is one change of its bank. -/
theorem bankEditsChangeTheirBankAlone : Obligations.BankEditsChangeTheirBankAlone := by
  intro tag bank k s hs hw hk
  refine ⟨fun hst => ?_, fun hst => ?_, fun ha hb => ?_⟩
  · have href : (bankOf s k).state.refuses = some .armed := hst ▸ rfl
    exact ⟨bankClear_refused hs hw hk href, fun _ => entryDelete_refused hs hw hk href,
      fun _ _ _ => bankHeader_refused hs hw hk href⟩
  · have href : (bankOf s k).state.refuses = some .activeBank := hst ▸ rfl
    exact ⟨bankClear_refused hs hw hk href, fun _ => entryDelete_refused hs hw hk href,
      fun _ _ _ => bankHeader_refused hs hw hk href⟩
  · exact ⟨bankClear_accepted hs hw hk ha hb, fun _ => entryDelete_accepted hs hw hk ha hb,
      fun _ _ _ => bankHeader_accepted hs hw hk ha hb⟩

/-! ### ENTRY-PUT (R25) -/

theorem mem_putEntry_iff {e x : Entry} {l : List Entry} (h : l.Pairwise (fun x y => x.number < y.number)) :
    x ∈ putEntry e l ↔ x = e ∨ x ∈ l ∧ x.number ≠ e.number := by
  induction l with
  | nil => simp [putEntry]
  | cons y l ih =>
    obtain ⟨hy, hl⟩ := List.pairwise_cons.mp h
    have hlater : ∀ z ∈ l, y.number < z.number := hy
    unfold putEntry
    split
    next hlt =>
      have hne : ∀ z ∈ y :: l, z.number ≠ e.number := by
        intro z hz
        rcases List.mem_cons.mp hz with rfl | hz
        · omega
        · have := hlater z hz; omega
      rw [List.mem_cons]
      exact or_congr_right ⟨fun hx => ⟨hx, hne x hx⟩, And.left⟩
    · split
      next heq =>
        rw [List.mem_cons, List.mem_cons]
        refine or_congr_right ⟨fun hx => ⟨.inr hx, ?_⟩, ?_⟩
        · have := hlater x hx; omega
        · rintro ⟨rfl | hx, hne⟩
          · exact absurd heq.symm hne
          · exact hx
      next hlt heq =>
        rw [List.mem_cons, List.mem_cons, ih hl]
        constructor
        · rintro (rfl | rfl | ⟨hx, hne⟩)
          · exact .inr ⟨.inl rfl, by omega⟩
          · exact .inl rfl
          · exact .inr ⟨.inr hx, hne⟩
        · rintro (rfl | ⟨rfl | hx, hne⟩)
          · exact .inr (.inl rfl)
          · exact .inl rfl
          · exact .inr (.inr ⟨hx, hne⟩)

/-- No entry at another number conflicts with the one put (R29). -/
theorem putConflict_eq_none {h : Option Header} {e : Entry} {l : List Entry}
    (hl : ∀ x ∈ l, x.number ≠ e.number → entriesConflict h e x = false) : putConflict h e l = none := by
  unfold putConflict
  rw [Option.map_eq_none_iff, List.find?_eq_none]
  intro x hx
  simp only [Bool.and_eq_true, bne_iff_ne, ne_eq, not_and, Bool.not_eq_true]
  exact hl x hx

theorem entryPut_accepted {tag : Nat} {f : EntryFields} {k : BankId} {s : State} (hs : s.running)
    (hw : s.store.writing = none) (hk : BankId.ofCode f.bank = some k) (ha : (bankOf s k).state ≠ .armed)
    (hb : (bankOf s k).state ≠ .active) (hrange : firstBad (entryRanges f) = none)
    (hprog : programmeFault s { (entryRecord f).snapshot with alternate := f.alternate } = none)
    (hdates : ∀ a ∈ f.validFrom, ∀ z ∈ f.validTo, Date.toDay a ≤ Date.toDay z)
    (hfree : ∀ x ∈ (bankOf s k).entries, x.number ≠ f.number → entriesConflict (bankOf s k).header (entryRecord f) x = false) :
    exec (.entryPut tag f) s = .next (okReply 0x11 tag .none
      (updBank k (fun x => { x with entries := putEntry (entryRecord f) x.entries, state := .loaded }) s)) := by
  unfold exec execEntryPut
  refine request_changes_bank hs hk ?_
  have hordered : (entryRecord f).validFrom.any (fun a => (entryRecord f).validTo.any (fun z => decide (z < a))) = false := by
    simpa [entryRecord, Option.any_eq_false] using hdates
  simp only [hrange]
  rw [checks_pass]
  · simp only [hprog]
    rw [checks_pass (by simp [hordered]), putConflict_eq_none hfree]
  · simpa [storeBusy_eq_false hw] using frozen_pass ha hb

/-- Settles O32: the entry goes to its number in the ascending list of its bank. -/
theorem anEntryIsPutAtItsNumber : Obligations.AnEntryIsPutAtItsNumber := by
  intro tag f k s hs hw hk ha hb hrange hprog hdates hfree hasc
  refine ⟨putEntry (entryRecord f) (bankOf s k).entries, ?_, putEntry_ascending hasc, fun x => mem_putEntry_iff hasc, ?_,
    rfl, rfl, rfl⟩
  · rw [entryPut_accepted hs hw hk ha hb hrange hprog hdates hfree]
    cases k <;> rfl
  · cases halt : f.alternate <;> simp [entryRecord, halt, Option.filter]

/-! ### Arming and disarming (R37, R38) -/

section
variable {tag bank : Nat} {k : BankId} {s : State} (hs : s.running) (hw : s.store.writing = none)
  (hk : BankId.ofCode bank = some k)
include hs hw hk

theorem bankArm_accepted {instant h : Nat} {hd : Header} (hminute : instant % 60 = 0) (hlt : instant < 4294967296)
    (htime : s.clock.time = some h) (hst : (bankOf s k).state = .loaded) (hhead : (bankOf s k).header = some hd)
    (hother : (bankOf s k.other).state ≠ .armed) (hvalid : instant / 86400 ≤ hd.validTo)
    (hahead : h + 60 * s.hall.par.lookAhead + 60 ≤ instant) (hthrough : ∀ t ∈ s.staging.through, t < instant) :
    exec (.bankArm tag bank instant) s = .next (okReply 0x16 tag .none
      (updBank k (fun x => { x with state := .armed, activation := some instant }) s)) := by
  have hnow : now s = h := by simp [now, htime]
  have hscan : s.staging.through.any (fun t => decide (instant ≤ t)) = false := by simpa [Option.any_eq_false] using hthrough
  unfold exec execBankArm
  refine request_changes_bank hs hk ?_
  refine checks_pass ?_
  simp [hminute, Config.hallModulus, storeBusy_eq_false hw, htime, hst, hhead, hother, hallDay, Config.daySeconds,
    hnow, hahead, hscan, Nat.not_le.mpr hlt, Nat.not_lt.mpr hvalid]

theorem bankDisarm_accepted {a : Nat} (hst : (bankOf s k).state = .armed) (hact : (bankOf s k).activation = some a)
    (hthrough : ∀ t ∈ s.staging.through, t < a) :
    exec (.bankDisarm tag bank) s = .next (okReply 0x17 tag .none
      (updBank k (fun x => { x with state := .loaded, activation := none }) s)) := by
  unfold exec execBankDisarm
  refine request_changes_bank hs hk ?_
  refine checks_pass ?_
  have hscan : s.staging.through.any (fun t => decide (a ≤ t)) = false := by simpa [Option.any_eq_false] using hthrough
  simp [storeBusy_eq_false hw, hst, hact, hscan]

theorem bankDisarm_tooLate {a t : Nat} (hst : (bankOf s k).state = .armed) (hact : (bankOf s k).activation = some a)
    (ht : s.staging.through = some t) (hle : a ≤ t) :
    exec (.bankDisarm tag bank) s = .next (refusal 0x17 tag .tooLate s) := by
  unfold exec execBankDisarm
  refine request_refused_bank hs hk ?_
  simp [checks, refuse, storeBusy_eq_false hw, hst, hact, ht, hle]

theorem bankDisarm_refused (hst : (bankOf s k).state ≠ .armed) :
    exec (.bankDisarm tag bank) s = .next (refusal 0x17 tag .stateRefused s) := by
  unfold exec execBankDisarm
  refine request_refused_bank hs hk ?_
  simp [checks, refuse, storeBusy_eq_false hw, hst]

end

/-- Settles O33: each answer follows from the checks of the request, in their order. -/
theorem aBankIsArmedAndDisarmed : Obligations.ABankIsArmedAndDisarmed := by
  intro tag bank k s hs hw hk
  refine ⟨fun instant h hd => bankArm_accepted hs hw hk, fun a hst hact => ⟨bankDisarm_accepted hs hw hk hst hact, fun t =>
    bankDisarm_tooLate hs hw hk hst hact⟩, bankDisarm_refused hs hw hk⟩

end Sys2Proof.Machine
end

section
/-! PROOFS. What staging leaves alone: all of `State.given` but the deferred set, and all of a live order but its mark. -/

set_option Elab.async false

namespace Sys2Proof.Machine

/-! ### `State.given` but the deferred set -/

/-- What admission and staging leave alone: the outer part, the banks, the clock and the staged-through instant. -/
def State.undeferred (s : State) : Given := { s.given with staging := { s.staging with deferred := [] } }

theorem undeferred_of_given {s t : State} (h : t.given = s.given) : t.undeferred = s.undeferred := by
  have hstaging : t.staging = s.staging := congrArg Given.staging h
  unfold State.undeferred
  rw [h, hstaging]

theorem banks_of_undeferred {s t : State} (h : t.undeferred = s.undeferred) : t.banks = s.banks := congrArg Given.banks h
theorem clock_of_undeferred {s t : State} (h : t.undeferred = s.undeferred) : t.clock = s.clock := congrArg Given.clock h
theorem through_of_undeferred {s t : State} (h : t.undeferred = s.undeferred) : t.staging.through = s.staging.through :=
  congrArg (fun g => g.staging.through) h

@[simp] theorem onStaging_undeferred {f : Staging → Staging} (s : State) (h : (f s.staging).through = s.staging.through) :
    (s.onStaging f).undeferred = s.undeferred := by
  simp [State.undeferred, State.given, State.outer, State.onStaging, State.sizes, h]

@[simp] theorem stagingReport_undeferred (k : BankId) (entry start : Nat) (ev : StagingEvent) (s : State) :
    (stagingReport k entry start ev s).undeferred = s.undeferred := undeferred_of_given (offerReport_given _ s)

theorem markFor_given (c : Candidate) (id : Nat) (o : Order) (s : State) : (markFor c id o s).given = s.given := by
  unfold markFor
  split
  · split <;> simp
  · simp

@[simp] theorem createOrder_undeferred (c : Candidate) (s : State) : (createOrder c s).undeferred = s.undeferred := by
  unfold createOrder
  rw [onStaging_undeferred _ rfl]
  exact undeferred_of_given (by simp [markFor_given])

@[simp] theorem admitOrder_undeferred (c : Candidate) (s : State) : (admitOrder c s).2.undeferred = s.undeferred := by
  unfold admitOrder
  split
  · rfl
  · exact createOrder_undeferred c s

theorem undeferred_of_admitOrder {c : Candidate} {a : Admission} {s t : State} (h : admitOrder c s = (a, t)) :
    t.undeferred = s.undeferred := by
  have ht := admitOrder_undeferred c s
  rwa [h] at ht

@[simp] theorem deferOccurrence_undeferred (d : Deferred) (s : State) : (deferOccurrence d s).undeferred = s.undeferred := by
  unfold deferOccurrence
  split
  · rfl
  · split
    · rw [stagingReport_undeferred, onStaging_undeferred _ rfl]
    · exact stagingReport_undeferred ..

@[simp] theorem stageOccurrence_undeferred (d : Deferred) (s : State) : (stageOccurrence d s).undeferred = s.undeferred := by
  unfold stageOccurrence
  split
  next ha => exact undeferred_of_admitOrder ha
  next ha => rw [stagingReport_undeferred, undeferred_of_admitOrder ha]
  next ha => rw [stagingReport_undeferred, undeferred_of_admitOrder ha]
  next ha => rw [deferOccurrence_undeferred, undeferred_of_admitOrder ha]

@[simp] theorem stageUnlessLive_undeferred (d : Deferred) (s : State) : (stageUnlessLive d s).undeferred = s.undeferred := by
  unfold stageUnlessLive; split <;> simp

@[simp] theorem stageUnknown_undeferred (d : Deferred) (s : State) : (stageUnknown d s).undeferred = s.undeferred := by
  unfold stageUnknown; split <;> simp

theorem forEach_undeferred {α : Type} {l : List α} {f : α → State → State} (s : State)
    (h : ∀ a t, (f a t).undeferred = t.undeferred) : (forEach l f s).undeferred = s.undeferred :=
  forEach_keeps State.undeferred l f s h

@[simp] theorem catchOne_undeferred (t : Nat) (x : BankId × Entry) (s : State) : (catchOne t x s).undeferred = s.undeferred := by
  unfold catchOne; split <;> simp

@[simp] theorem catchUp_undeferred (s : State) : (catchUp s).undeferred = s.undeferred :=
  forEach_undeferred s fun t u => forEach_undeferred u (catchOne_undeferred t)

@[simp] theorem dropTest_undeferred (s : State) : (dropTest s).undeferred = s.undeferred :=
  (forEach_undeferred _ fun _ _ => stagingReport_undeferred ..).trans (onStaging_undeferred s rfl)

@[simp] theorem retryDeferred_undeferred (d : Deferred) (s : State) : (retryDeferred d s).undeferred = s.undeferred := by
  unfold retryDeferred
  dsimp only
  split
  next ha => rw [onStaging_undeferred _ rfl, undeferred_of_admitOrder ha]
  next ha => rw [stagingReport_undeferred, onStaging_undeferred _ rfl, undeferred_of_admitOrder ha]
  next ha => rw [stagingReport_undeferred, onStaging_undeferred _ rfl, undeferred_of_admitOrder ha]
  next ha => exact undeferred_of_admitOrder ha

@[simp] theorem retries_undeferred (s : State) : (retries s).undeferred = s.undeferred :=
  forEach_undeferred s retryDeferred_undeferred

@[simp] theorem suspendEntry_undeferred (k : BankId) (n : Nat) (s : State) : (suspendEntry k n s).undeferred = s.undeferred := by
  unfold suspendEntry
  dsimp only
  rw [forEach_undeferred _ fun _ _ => stagingReport_undeferred .., onStaging_undeferred _ rfl,
    forEach_undeferred s fun _ _ => undeferred_of_given (finishOrder_given ..)]

@[simp] theorem resumeEntry_undeferred (k : BankId) (e : Entry) (s : State) : (resumeEntry k e s).undeferred = s.undeferred := by
  unfold resumeEntry
  split
  · dsimp only
    split
    · exact forEach_undeferred s fun _ _ => stageUnlessLive_undeferred ..
    · rfl
  · rfl

/-! ### A live order but its mark -/

/-- An order without its mark PREEMPT-PENDING, the one part of it that the admission and the outcome of others change
(R60, R85). -/
def Order.unmarked (o : Order) : Order := { o with preempting := none }

@[simp] theorem Order.unmarked_id (o : Order) : o.unmarked.id = o.id := rfl

/-- The live orders without their marks. -/
def State.unmarked (s : State) : List Order := s.chg.orders.map Order.unmarked

theorem unmarked_of_chg {s t : State} (h : t.chg = s.chg) : t.unmarked = s.unmarked := by
  unfold State.unmarked; rw [h]

@[simp] theorem setMark_unmarked (id : Nat) (m : Option Nat) (s : State) : (setMark id m s).unmarked = s.unmarked := by
  unfold State.unmarked setMark updOrder
  simp only [onChg_chg, noteOrder_chg, List.map_map]
  refine List.map_congr_left fun o _ => ?_
  by_cases h : o.id = id <;> simp [Order.unmarked, h]

theorem rechooseMark_unmarked (o : Order) (s : State) : (rechooseMark o s).unmarked = s.unmarked := setMark_unmarked ..

@[simp] theorem markFor_unmarked (c : Candidate) (id : Nat) (o : Order) (s : State) : (markFor c id o s).unmarked = s.unmarked := by
  unfold markFor
  split
  · split <;> simp
  · simp

@[simp] theorem offerWaiters_chg (c : Nat) (s : State) : (offerWaiters c s).chg = s.chg := by
  unfold offerWaiters; split <;> rfl
@[simp] theorem settleColumn_chg (c : Nat) (s : State) : (settleColumn c s).chg = s.chg := by
  unfold settleColumn settleTo
  dsimp only
  (repeat' split) <;> rfl
@[simp] theorem cancelHandover_chg (id : Nat) (s : State) : (cancelHandover id s).chg = s.chg := by
  unfold cancelHandover
  dsimp only
  split
  · rfl
  · rw [offerWaiters_chg]
    split <;> exact settleColumn_chg ..
@[simp] theorem leaveWaits_chg (id : Nat) (s : State) : (leaveWaits id s).chg = s.chg := cancelHandover_chg ..
@[simp] theorem cancelCoolDown_chg (n : Nat) (s : State) : (cancelCoolDown n s).chg = s.chg := by
  unfold cancelCoolDown; split <;> rfl
@[simp] theorem informCoolDown_chg (n : Nat) (s : State) : (informCoolDown n s).chg = s.chg := cancelCoolDown_chg ..
@[simp] theorem countOutcome_chg (out : OrderOutcome) (s : State) : (countOutcome out s).chg = s.chg := by
  cases out <;> rfl

/-- The outcome of an order takes it from the table and leaves the others (R69). -/
theorem finishOrder_unmarked (id : Nat) (out : OrderOutcome) (s : State) :
    (finishOrder id out s).unmarked = s.unmarked.filter (fun o => o.id != id) := by
  have hgone : ∀ t : State, t.chg = s.chg → (t.onChg (fun c => { c with orders := c.orders.filter (fun p => p.id != id) })).unmarked
      = s.unmarked.filter (fun o => o.id != id) := by
    intro t ht
    unfold State.unmarked
    rw [onChg_chg, ht, List.filter_map]
    rfl
  unfold finishOrder
  split
  next hno =>
    have hall : ∀ o ∈ s.unmarked, (o.id != id) = true := by
      simp only [State.unmarked, List.mem_map, forall_exists_index, and_imp, forall_apply_eq_imp_iff₂]
      intro o ho
      simpa using List.find?_eq_none.mp hno o ho
    exact (List.filter_eq_self.mpr hall).symm
  next o _ =>
    dsimp only
    refine (forEach_keeps State.unmarked _ _ _ fun _ _ => by rfl).trans ?_
    rw [forEach_keeps State.unmarked _ _ _ rechooseMark_unmarked, unmarked_of_chg (countOutcome_chg out _)]
    refine hgone _ ?_
    split
    · exact noteOrder_chg id s
    · simp [updProt, updTx, dropWarm, dropSlew, updNote]

/-- The order that admission creates from a candidate (R60, R64, R68). -/
def orderOf (s : State) (c : Candidate) : Order :=
  let late := decide (c.origin ≠ .manual) && decide (c.start < now s)
  let o : Order := { id := newId s, origin := c.origin, snap := c.snap, start := c.start, ends := c.ends
                     prepare := if late then now s else c.start - leadTime s c.snap, lateStart := late }
  { o with held := heldNow s o }

/-- Admission puts its order at the end of the table and leaves the others, but for their marks (R60). -/
theorem createOrder_unmarked (c : Candidate) (s : State) :
    (createOrder c s).unmarked = s.unmarked ++ [(orderOf s c).unmarked] := by
  unfold createOrder
  dsimp only
  rw [unmarked_of_chg (onStaging_chg ..), unmarked_of_chg (informCoolDown_chg ..),
    forEach_keeps State.unmarked _ _ _ fun _ _ => markFor_unmarked ..]
  exact List.map_append

/-- The occurrence created leaves the deferred set (R36, R61). -/
theorem createOrder_deferred (c : Candidate) (s : State) :
    (createOrder c s).staging.deferred = s.staging.deferred.filter (fun d => decide (d.origin ≠ c.origin)) := by
  have hstaging : ∀ t : State, t.given = s.given →
      (t.onStaging (fun g => { g with deferred := g.deferred.filter (fun d => decide (d.origin ≠ c.origin)) })).staging.deferred
        = s.staging.deferred.filter (fun d => decide (d.origin ≠ c.origin)) := by
    intro t ht
    rw [onStaging_staging, show t.staging = s.staging from congrArg Given.staging ht]
  exact hstaging _ (by simp [markFor_given])

/-- An order found by its id, but its mark. -/
theorem order?_unmarked (s : State) (id : Nat) : (order? s id).map Order.unmarked = s.unmarked.find? (fun o => o.id == id) := by
  unfold order? State.unmarked
  rw [List.find?_map]
  rfl

end Sys2Proof.Machine
end

section
/-! PROOFS. ENTRY-SUSPEND (O34): the flags of the entries named, the withdrawals of a SET, and what a resume stages. -/

set_option Elab.async false

namespace Sys2Proof.Machine

/-! ### Banks after an update -/

theorem bankOf_updBank (k : BankId) (f : Bank → Bank) (s : State) : bankOf (updBank k f s) k = f (bankOf s k) := by
  cases k <;> rfl
theorem bankOf_updBank_other (k : BankId) (f : Bank → Bank) (s : State) : bankOf (updBank k f s) k.other = bankOf s k.other := by
  cases k <;> rfl
theorem bankOf_of_banks {s t : State} (h : t.banks = s.banks) : bankOf t = bankOf s := by
  funext k; cases k <;> simp [bankOf, h]

/-- The bank in force depends on the states and the activations of the banks alone (R42). -/
theorem bankInForce_congr {s t : State} (h : ∀ k, (bankOf t k).state = (bankOf s k).state ∧
    (bankOf t k).activation = (bankOf s k).activation) (n : Nat) : bankInForce t n = bankInForce s n := by
  unfold bankInForce
  simp only [h]

/-! ### The flags (R34) -/

/-- An entry after an action on its SUSPENDED flag. -/
def Entry.acted (action : Nat) (e : Entry) : Entry := { e with suspended := applyAction action e.suspended }

/-- The entries of a bank after an action at some numbers. -/
def actAt (action : Nat) (named : List Nat) (l : List Entry) : List Entry :=
  l.map (fun e => if e.number ∈ named then e.acted action else e)

theorem number_actAt (action : Nat) (named : List Nat) (l : List Entry) :
    (actAt action named l).map (·.number) = l.map (·.number) := by
  unfold actAt
  rw [List.map_map]
  refine List.map_congr_left fun e _ => ?_
  by_cases h : e.number ∈ named <;> simp [h, Entry.acted]

theorem actAt_nil (action : Nat) (l : List Entry) : actAt action [] l = l := by simp [actAt]

theorem actAt_cons {action n : Nat} {named : List Nat} (hn : n ∉ named) (l : List Entry) :
    actAt action (n :: named) l = actAt action named (actAt action [n] l) := by
  unfold actAt
  rw [List.map_map]
  refine List.map_congr_left fun e _ => ?_
  by_cases h : e.number = n
  · simp [h, Entry.acted, hn]
  · simp [h]

theorem mem_actAt_of_named {action : Nat} {named : List Nat} {l : List Entry} {e : Entry} (he : e ∈ l) (h : e.number ∈ named) :
    e.acted action ∈ actAt action named l := List.mem_map.mpr ⟨e, he, if_pos h⟩

theorem mem_actAt_of_other {action : Nat} {named : List Nat} {l : List Entry} {e : Entry} (he : e ∈ l) (h : e.number ∉ named) :
    e ∈ actAt action named l := List.mem_map.mpr ⟨e, he, if_neg h⟩

/-- One entry holds a number. -/
theorem entry_unique {l : List Entry} (hn : (l.map (·.number)).Nodup) {x y : Entry} (hx : x ∈ l) (hy : y ∈ l)
    (h : x.number = y.number) : x = y := List.inj_on_of_nodup_map hn hx hy h

/-- The action at one number, by the flag of the entry that holds it. -/
theorem actAt_of_find {action n : Nat} {l : List Entry} (hn : (l.map (·.number)).Nodup) {e : Entry}
    (he : l.find? (fun e => e.number == n) = some e) :
    l.map (fun y => if y.number = n then { y with suspended := applyAction action e.suspended } else y) = actAt action [n] l := by
  refine List.map_congr_left fun y hy => ?_
  have hen : e.number = n := by simpa using List.find?_some he
  by_cases h : y.number = n
  · have hye : y = e := entry_unique hn hy (List.mem_of_find?_eq_some he) (h.trans hen.symm)
    simp [hye, Entry.acted]
  · simp [h]

theorem actAt_of_same {action n : Nat} {l : List Entry} (hn : (l.map (·.number)).Nodup) {e : Entry}
    (he : l.find? (fun e => e.number == n) = some e) (hsame : applyAction action e.suspended = e.suspended) :
    actAt action [n] l = l := by
  rw [← actAt_of_find hn he, hsame]
  refine (List.map_congr_left fun y hy => ?_).trans (List.map_id l)
  have hen : e.number = n := by simpa using List.find?_some he
  by_cases h : y.number = n
  · have hye : y = e := entry_unique hn hy (List.mem_of_find?_eq_some he) (h.trans hen.symm)
    rw [if_pos h, hye]
    rfl
  · simp [h]

theorem actAt_of_find_none {action n : Nat} {l : List Entry} (he : l.find? (fun e => e.number == n) = none) :
    actAt action [n] l = l := by
  refine (List.map_congr_left fun y hy => ?_).trans (List.map_id l)
  have hne : y.number ≠ n := by simpa using List.find?_eq_none.mp he y hy
  simp [hne]

/-! ### One position of the request -/

/-- The flag of an entry put at a value, as the request writes it. -/
def flagPut (k : BankId) (n : Nat) (v : Bool) (s : State) : State :=
  updBank k (fun x => { x with entries := x.entries.map (fun y => if y.number = n then { y with suspended := v } else y) }) s

/-- A position comes to nothing, or to a changed flag with what the SET or the resume of its entry brings (R34 to R36). -/
theorem suspendOne_cases (k : BankId) (action n : Nat) (s : State) :
    (suspendOne k action n s = s ∧ ∀ e, (bankOf s k).entries.find? (fun e => e.number == n) = some e →
      applyAction action e.suspended = e.suspended) ∨
    ∃ e, (bankOf s k).entries.find? (fun e => e.number == n) = some e ∧ applyAction action e.suspended ≠ e.suspended ∧
      suspendOne k action n s = if applyAction action e.suspended then suspendEntry k n (flagPut k n (applyAction action e.suspended) s)
        else resumeEntry k { e with suspended := false } (flagPut k n (applyAction action e.suspended) s) := by
  unfold suspendOne flagPut
  split
  next hno => exact .inl ⟨rfl, by rw [hno]; rintro _ ⟨⟩⟩
  next e he =>
    by_cases hv : applyAction action e.suspended = e.suspended
    · exact .inl ⟨if_pos hv, fun x hx => Option.some.inj (he.symm.trans hx) ▸ hv⟩
    · exact .inr ⟨e, he, hv, if_neg hv⟩

theorem suspendOne_clock (k : BankId) (action n : Nat) (s : State) : (suspendOne k action n s).clock = s.clock := by
  rcases suspendOne_cases k action n s with ⟨e, -⟩ | ⟨e, -, -, h⟩
  · rw [e]
  · rw [h]
    split
    · exact (clock_of_undeferred (suspendEntry_undeferred ..)).trans rfl
    · exact (clock_of_undeferred (resumeEntry_undeferred ..)).trans rfl

theorem suspendOne_through (k : BankId) (action n : Nat) (s : State) :
    (suspendOne k action n s).staging.through = s.staging.through := by
  rcases suspendOne_cases k action n s with ⟨e, -⟩ | ⟨e, -, -, h⟩
  · rw [e]
  · rw [h]
    split
    · exact (through_of_undeferred (suspendEntry_undeferred ..)).trans rfl
    · exact (through_of_undeferred (resumeEntry_undeferred ..)).trans rfl

/-- One position changes the flag at its number and nothing else of the banks (R34). -/
theorem suspendOne_banks {k : BankId} {s : State} (hn : ((bankOf s k).entries.map (·.number)).Nodup) (action n : Nat) :
    bankOf (suspendOne k action n s) k = { bankOf s k with entries := actAt action [n] (bankOf s k).entries } ∧
      bankOf (suspendOne k action n s) k.other = bankOf s k.other := by
  rcases suspendOne_cases k action n s with ⟨h, hsame⟩ | ⟨e, he, -, h⟩
  · have hid : actAt action [n] (bankOf s k).entries = (bankOf s k).entries := by
      cases hf : (bankOf s k).entries.find? (fun e => e.number == n) with
      | none => exact actAt_of_find_none hf
      | some e => exact actAt_of_same hn hf (hsame e hf)
    rw [h, hid]
    exact ⟨rfl, rfl⟩
  · have hbanks : (suspendOne k action n s).banks = (flagPut k n (applyAction action e.suspended) s).banks := by
      rw [h]
      split
      · exact banks_of_undeferred (suspendEntry_undeferred ..)
      · exact banks_of_undeferred (resumeEntry_undeferred ..)
    rw [bankOf_of_banks hbanks, ← actAt_of_find hn he]
    exact ⟨bankOf_updBank .., bankOf_updBank_other ..⟩

/-! ### All the positions -/

/-- The positions of a request from a base number, in their order (R34). -/
def suspendAll (k : BankId) (action base : Nat) (l : List Nat) (s : State) : State :=
  forEach l (fun i => suspendOne k action (base + i)) s

theorem suspendAll_cons (k : BankId) (action base i : Nat) (l : List Nat) (s : State) :
    suspendAll k action base (i :: l) s = suspendAll k action base l (suspendOne k action (base + i) s) := rfl

theorem suspendAll_clock (k : BankId) (action base : Nat) (l : List Nat) (s : State) :
    (suspendAll k action base l s).clock = s.clock := forEach_keeps State.clock l _ s fun _ _ => suspendOne_clock ..

theorem suspendAll_banks {k : BankId} {s : State} (hn : ((bankOf s k).entries.map (·.number)).Nodup) {l : List Nat} (hl : l.Nodup)
    (action base : Nat) :
    bankOf (suspendAll k action base l s) k =
        { bankOf s k with entries := actAt action (l.map (base + ·)) (bankOf s k).entries } ∧
      bankOf (suspendAll k action base l s) k.other = bankOf s k.other := by
  induction l generalizing s with
  | nil => rw [List.map_nil, actAt_nil]; exact ⟨rfl, rfl⟩
  | cons i l ih =>
    obtain ⟨hi, hl⟩ := List.nodup_cons.mp hl
    obtain ⟨hk, hother⟩ := suspendOne_banks hn action (base + i)
    have hnum : ((bankOf (suspendOne k action (base + i) s) k).entries.map (·.number)).Nodup := by
      rw [hk]
      exact (number_actAt ..).symm ▸ hn
    have hfree : base + i ∉ l.map (base + ·) := by simpa using hi
    obtain ⟨hk', hother'⟩ := ih hnum hl
    rw [suspendAll_cons, hk', hother', hk, hother, List.map_cons, actAt_cons hfree]
    exact ⟨rfl, rfl⟩

/-! ### What a SET withdraws (R35) -/

/-- No STAGED order and no deferred occurrence comes from the entry. -/
def State.clearOf (k : BankId) (n : Nat) (s : State) : Prop :=
  (∀ o ∈ s.unmarked, o.stage = .staged → ∀ st, o.origin ≠ .schedule k n st) ∧
  ∀ d ∈ s.staging.deferred, ¬ (d.bank = k ∧ d.entry = n)

theorem finishAll_unmarked (l : List Nat) (out : OrderOutcome) (s : State) :
    (forEach l (fun id => finishOrder id out) s).unmarked = s.unmarked.filter (fun o => !l.contains o.id) := by
  induction l generalizing s with
  | nil => simp [forEach]
  | cons id l ih =>
    have hstep : forEach (id :: l) (fun id => finishOrder id out) s =
        forEach l (fun id => finishOrder id out) (finishOrder id out s) := rfl
    rw [hstep, ih, finishOrder_unmarked, List.filter_filter]
    refine List.filter_congr fun o _ => ?_
    rw [List.contains_cons, Bool.not_or]
    exact Bool.and_comm ..

/-- The STAGED orders of an entry. -/
def stagedFrom (k : BankId) (n : Nat) (o : Order) : Bool :=
  o.stage == .staged && (match o.origin with
    | .schedule j e _ => j == k && e == n
    | .manual => false)

theorem stagedFrom_iff {k : BankId} {n : Nat} {o : Order} :
    stagedFrom k n o = true ↔ o.stage = .staged ∧ ∃ st, o.origin = .schedule k n st := by
  unfold stagedFrom
  cases o.origin <;> simp

theorem suspendEntry_unmarked (k : BankId) (n : Nat) (s : State) :
    (suspendEntry k n s).unmarked = s.unmarked.filter (fun o => !(idsWhere s (stagedFrom k n)).contains o.id) := by
  rw [← finishAll_unmarked _ .withdrawn]
  exact forEach_keeps State.unmarked _ _ _ fun _ _ => by rfl

theorem suspendEntry_deferred (k : BankId) (n : Nat) (s : State) :
    (suspendEntry k n s).staging.deferred = s.staging.deferred.filter (fun d => !(d.bank == k && d.entry == n)) := by
  have hgiven : (forEach (idsWhere s (stagedFrom k n)) (fun id => finishOrder id .withdrawn) s).given = s.given :=
    forEach_keeps State.given _ _ _ fun _ _ => finishOrder_given ..
  have hstaging := congrArg Given.staging hgiven
  unfold suspendEntry
  dsimp only
  refine (congrArg Staging.deferred (forEach_keeps State.staging _ _ _ fun _ _ => by rfl)).trans ?_
  exact congrArg (fun g : Staging => g.deferred.filter (fun d => !(d.bank == k && d.entry == n))) hstaging

theorem suspendEntry_clears (k : BankId) (n : Nat) (s : State) : (suspendEntry k n s).clearOf k n := by
  constructor
  · rw [suspendEntry_unmarked]
    rintro o ho hst st horigin
    obtain ⟨hmem, hno⟩ := List.mem_filter.mp ho
    obtain ⟨p, hp, rfl⟩ := List.mem_map.mp hmem
    have hmine : stagedFrom k n p = true := stagedFrom_iff.mpr ⟨hst, st, horigin⟩
    have hid : p.id ∈ idsWhere s (stagedFrom k n) := List.mem_map_of_mem (List.mem_filter.mpr ⟨hp, hmine⟩)
    simp [hid] at hno
  · rw [suspendEntry_deferred]
    rintro d hd ⟨rfl, rfl⟩
    simp at hd

theorem suspendEntry_keeps_clearOf {k j : BankId} {n m : Nat} {s : State} (h : s.clearOf j m) :
    (suspendEntry k n s).clearOf j m := by
  constructor
  · rw [suspendEntry_unmarked]
    exact fun o ho => h.1 o (List.mem_filter.mp ho).1
  · rw [suspendEntry_deferred]
    exact fun d hd => h.2 d (List.mem_filter.mp hd).1

theorem flagPut_clearOf {k j : BankId} {n m : Nat} {v : Bool} {s : State} : (flagPut k n v s).clearOf j m ↔ s.clearOf j m := Iff.rfl

theorem set_keeps_clearOf {k : BankId} {n m : Nat} {s : State} (h : s.clearOf k m) : (suspendOne k 1 n s).clearOf k m := by
  rcases suspendOne_cases k 1 n s with ⟨e, -⟩ | ⟨e, -, -, e'⟩
  · rwa [e]
  · rw [e']
    exact suspendEntry_keeps_clearOf (flagPut_clearOf.mpr h)

theorem setAll_keeps_clearOf {k : BankId} {base m : Nat} {l : List Nat} {s : State} (h : s.clearOf k m) :
    (suspendAll k 1 base l s).clearOf k m := by
  induction l generalizing s with
  | nil => exact h
  | cons i l ih => exact ih (set_keeps_clearOf h)

/-- The SET of an entry that was not suspended clears it (R35). -/
theorem set_clears {k : BankId} {s : State} (hn : ((bankOf s k).entries.map (·.number)).Nodup) {e : Entry}
    (he : e ∈ (bankOf s k).entries) (hclear : e.suspended = false) : (suspendOne k 1 e.number s).clearOf k e.number := by
  have hfind : ∀ x, (bankOf s k).entries.find? (fun x => x.number == e.number) = some x → x = e := fun x hx =>
    entry_unique hn (List.mem_of_find?_eq_some hx) he (by simpa using List.find?_some hx)
  rcases suspendOne_cases k 1 e.number s with ⟨-, hsame⟩ | ⟨x, -, -, h⟩
  · cases hf : (bankOf s k).entries.find? (fun x => x.number == e.number) with
    | none => exact absurd (List.find?_eq_none.mp hf e he) (by simp)
    | some x =>
      have htrue := hsame x hf
      rw [hfind x hf, hclear] at htrue
      cases htrue
  · rw [h]
    exact suspendEntry_clears ..

theorem setAll_clears {k : BankId} {base : Nat} {l : List Nat} {s : State} (hn : ((bankOf s k).entries.map (·.number)).Nodup)
    {e : Entry} (he : e ∈ (bankOf s k).entries) (hclear : e.suspended = false) (hl : e.number ∈ l.map (base + ·)) :
    (suspendAll k 1 base l s).clearOf k e.number := by
  induction l generalizing s with
  | nil => cases hl
  | cons i l ih =>
    rw [suspendAll_cons]
    by_cases hi : base + i = e.number
    · rw [hi]
      exact setAll_keeps_clearOf (set_clears hn he hclear)
    · obtain ⟨hk, -⟩ := suspendOne_banks hn 1 (base + i)
      refine ih ?_ ?_ ((List.mem_cons.mp hl).resolve_left fun h => hi h.symm)
      · rw [hk]
        exact (number_actAt ..).symm ▸ hn
      · rw [hk]
        exact mem_actAt_of_other he (by simpa using fun h => hi h.symm)

/-! ### What a resume stages (R36) -/

/-- A resume stages nothing: the bank is EMPTY or LOADED, or the clock or the staged-through instant is unset (R36). -/
def State.stagesNone (k : BankId) (s : State) : Prop :=
  (bankOf s k).state ≠ .armed ∧ (bankOf s k).state ≠ .active ∨ s.clock.time = none ∨ s.staging.through = none

theorem resumeEntry_of_stagesNone {k : BankId} {e : Entry} {s : State} (h : s.stagesNone k) : resumeEntry k e s = s := by
  unfold resumeEntry
  split
  next htime hthrough =>
    rcases h with ⟨harmed, hactive⟩ | h | h
    · exact if_neg (by simp [harmed, hactive])
    · rw [htime] at h; cases h
    · rw [hthrough] at h; cases h
  · rfl

theorem clear_of_stagesNone {k : BankId} {n : Nat} {s : State} (h : s.stagesNone k) :
    (suspendOne k 2 n s).chg = s.chg ∧ (suspendOne k 2 n s).staging = s.staging := by
  rcases suspendOne_cases k 2 n s with ⟨e, -⟩ | ⟨e, -, -, e'⟩
  · rw [e]; exact ⟨rfl, rfl⟩
  · have hnone : (flagPut k n false s).stagesNone k := by
      unfold State.stagesNone flagPut
      rw [bankOf_updBank]
      exact h
    have hid : suspendOne k 2 n s = flagPut k n false s := e'.trans (resumeEntry_of_stagesNone hnone)
    rw [hid]
    exact ⟨rfl, rfl⟩

theorem clearAll_of_stagesNone {k : BankId} {base : Nat} {l : List Nat} {s : State}
    (hn : ((bankOf s k).entries.map (·.number)).Nodup) (h : s.stagesNone k) :
    (suspendAll k 2 base l s).chg = s.chg ∧ (suspendAll k 2 base l s).staging = s.staging := by
  induction l generalizing s with
  | nil => exact ⟨rfl, rfl⟩
  | cons i l ih =>
    obtain ⟨hchg, hstaging⟩ := clear_of_stagesNone (n := base + i) h
    obtain ⟨hk, -⟩ := suspendOne_banks hn 2 (base + i)
    obtain ⟨hchg', hstaging'⟩ := ih (s := suspendOne k 2 (base + i) s) (by rw [hk]; exact (number_actAt ..).symm ▸ hn) (by
      unfold State.stagesNone
      rw [hk, suspendOne_clock, suspendOne_through]
      exact h)
    rw [suspendAll_cons]
    exact ⟨hchg'.trans hchg, hstaging'.trans hstaging⟩

/-- The occurrences of an entry that its resume stages: those from now + 1 minute up to the staged-through instant for which its
bank is in force (R36). -/
def dueAt (s : State) (k : BankId) (e : Entry) (h through : Nat) (day : Nat) : Prop :=
  occursOn (bankOf s k).header e day = true ∧ h + 60 ≤ occurrenceStart e day ∧ occurrenceStart e day ≤ through ∧
    bankInForce s (occurrenceStart e day) = some k

theorem hallDay_occurrenceStart {e : Entry} (h : e.start < 1440) (day : Nat) : hallDay (occurrenceStart e day) = day := by
  unfold hallDay occurrenceStart Config.daySeconds
  omega

theorem hallDay_mono {a b : Nat} (h : a ≤ b) : hallDay a ≤ hallDay b := Nat.div_le_div_right h

/-- A list without repetitions of which one member meets a test. -/
theorem filter_eq_singleton {l : List Nat} (hl : l.Nodup) {p : Nat → Bool} {a : Nat} (ha : a ∈ l) (hp : ∀ b, p b = true ↔ b = a) :
    l.filter p = [a] := by
  have hpa : p = (· == a) := funext fun b => by rw [Bool.eq_iff_iff, hp]; simp
  rw [hpa, List.filter_beq, List.count_eq_one_of_mem hl ha]
  rfl

/-- With one occurrence due, a resume stages it. -/
theorem resumeEntry_of_due {k : BankId} {e : Entry} {s : State} {h through day : Nat} (htime : s.clock.time = some h)
    (hthrough : s.staging.through = some through) (hst : (bankOf s k).state = .armed ∨ (bankOf s k).state = .active)
    (hstart : e.start < 1440) (hdue : ∀ d, dueAt s k e h through d ↔ d = day) :
    resumeEntry k e s = stageUnlessLive (occurrence k e (occurrenceStart e day)) s := by
  obtain ⟨-, hlo, hhi, -⟩ := (hdue day).mpr rfl
  have hday := hallDay_occurrenceStart hstart day
  have hmem : day ∈ (List.range (hallDay through + 1 - hallDay (h + 60))).map (· + hallDay (h + 60)) := by
    have h1 := hallDay_mono hlo
    have h2 := hallDay_mono hhi
    rw [hday] at h1 h2
    exact List.mem_map.mpr ⟨day - hallDay (h + 60), List.mem_range.mpr (by omega), by omega⟩
  have hnodup : ((List.range (hallDay through + 1 - hallDay (h + 60))).map (· + hallDay (h + 60))).Nodup :=
    List.nodup_range.map (add_left_injective _)
  have hone := filter_eq_singleton hnodup hmem (p := fun d =>
    decide (h + 60 ≤ occurrenceStart e d) && decide (occurrenceStart e d ≤ through) &&
      bankInForce s (occurrenceStart e d) == some k && occursOn (bankOf s k).header e d) (fun d => by
    rw [← hdue d]
    simp only [dueAt, Bool.and_eq_true, decide_eq_true_eq, beq_iff_eq]
    tauto)
  unfold resumeEntry
  rw [htime, hthrough]
  dsimp only
  rw [if_pos (by simpa using hst), List.filter_map, List.filter_filter]
  exact (congrArg (fun l => forEach (List.map (occurrenceStart e) l) (fun t => stageUnlessLive (occurrence k e t)) s) hone)

/-- An occurrence that no live order has, and that passes admission, becomes an order (R36, R60). -/
theorem stageUnlessLive_of_admitted {d : Deferred} {s : State} (hlive : ∀ o ∈ s.chg.orders, o.origin ≠ d.origin)
    (hadm : admissionFault s d.candidate = none) : stageUnlessLive d s = createOrder d.candidate s := by
  have hno : live? s d.origin = false := by simpa [live?] using hlive
  unfold stageUnlessLive stageOccurrence admitOrder
  rw [hno, hadm]
  rfl

/-- The order created is found by its id, whole but for a mark (R60, R68). -/
theorem order?_createOrder {c : Candidate} {s : State} (hadm : admissionFault s c = none) :
    ∃ o, order? (createOrder c s) (newId s) = some o ∧ o.unmarked = (orderOf s c).unmarked := by
  have hfresh : s.unmarked.find? (fun o => o.id == newId s) = none := by
    rw [List.find?_eq_none]
    intro o ho
    obtain ⟨p, hp, rfl⟩ := List.mem_map.mp ho
    simpa using newId_fresh (room_of_admissionFault hadm).le p hp
  have hfind : (order? (createOrder c s) (newId s)).map Order.unmarked = some (orderOf s c).unmarked := by
    rw [order?_unmarked, createOrder_unmarked, List.find?_append, hfresh]
    simp [orderOf]
  obtain ⟨o, ho, hu⟩ := Option.map_eq_some_iff.mp hfind
  exact ⟨o, ho, hu⟩

theorem createOrder_length (c : Candidate) (s : State) : (createOrder c s).chg.orders.length = s.chg.orders.length + 1 := by
  have h := congrArg List.length (createOrder_unmarked c s)
  simpa [State.unmarked] using h

/-! ### The request -/

theorem mem_named {base mask n : Nat} : n ∈ ((List.range 32).filter (maskBit mask)).map (base + ·) ↔
    base ≤ n ∧ n < base + 32 ∧ maskBit mask (n - base) = true := by
  simp only [List.mem_map, List.mem_filter, List.mem_range]
  constructor
  · rintro ⟨i, ⟨hi, hm⟩, rfl⟩
    exact ⟨by omega, by omega, by rwa [Nat.add_sub_cancel_left]⟩
  · rintro ⟨h1, h2, hm⟩
    exact ⟨n - base, ⟨by omega, hm⟩, by omega⟩

theorem entrySuspend_accepted {tag bank base mask action : Nat} {k : BankId} {s : State} (hs : s.running)
    (hw : s.store.writing = none) (hk : BankId.ofCode bank = some k) (h1 : 1 ≤ base) (h2 : base ≤ 400)
    (hmask : mask < 4294967296) (hin : ∀ i, i < 32 → maskBit mask i = true → base + i ≤ 400) (ha1 : 1 ≤ action)
    (ha2 : action ≤ 3) :
    exec (.entrySuspend tag bank base mask action) s =
      .next (okReply 0x14 tag
        (.suspensions (suspensions k base (settle (suspendAll k action base ((List.range 32).filter (maskBit mask)) s))))
        (settle (suspendAll k action base ((List.range 32).filter (maskBit mask)) s))) := by
  unfold exec execEntrySuspend
  refine request_accepted (data := fun t => .suspensions (suspensions k base t)) hs.1 ((withBank_of_code hk _).trans ?_)
  have hrange : (List.range 32).any (fun i => maskBit mask i && decide (400 < base + i)) = false := by
    simpa using hin
  exact checks_pass (by simp [within, h1, h2, hmask, hrange, ha1, ha2, storeBusy_eq_false hw])

/-- The resume of one entry, at bit 0 of the mask. -/
theorem clearFirst (k : BankId) (base : Nat) (s : State) :
    suspendAll k 2 base ((List.range 32).filter (maskBit 1)) s = suspendOne k 2 base s := by
  rw [show (List.range 32).filter (maskBit 1) = [0] by decide]
  rfl

theorem resume_stages {k : BankId} {s : State} (hn : ((bankOf s k).entries.map (·.number)).Nodup) {e : Entry}
    (he : e ∈ (bankOf s k).entries) (hsusp : e.suspended = true) {h through day : Nat}
    (hst : (bankOf s k).state = .armed ∨ (bankOf s k).state = .active) (htime : s.clock.time = some h)
    (hthrough : s.staging.through = some through) (hstart : e.start < 1440)
    (hdue : ∀ d, dueAt s k e h through d ↔ d = day)
    (hlive : ∀ o ∈ s.chg.orders, o.origin ≠ .schedule k e.number (occurrenceStart e day))
    (hadm : admissionFault s (occurrence k e (occurrenceStart e day)).candidate = none) :
    suspendOne k 2 e.number s = createOrder (occurrence k e (occurrenceStart e day)).candidate (flagPut k e.number false s) := by
  rcases suspendOne_cases k 2 e.number s with ⟨-, hsame⟩ | ⟨x, hx, -, hone⟩
  · cases hf : (bankOf s k).entries.find? (fun x => x.number == e.number) with
    | none => exact absurd (List.find?_eq_none.mp hf e he) (by simp)
    | some x =>
      have hfalse := hsame x hf
      rw [entry_unique hn (List.mem_of_find?_eq_some hf) he (by simpa using List.find?_some hf), hsusp] at hfalse
      cases hfalse
  · have hxe : x = e := entry_unique hn (List.mem_of_find?_eq_some hx) he (by simpa using List.find?_some hx)
    subst hxe
    have hk : bankOf (flagPut k x.number false s) k = { bankOf s k with entries := (bankOf s k).entries.map (fun y =>
        if y.number = x.number then { y with suspended := false } else y) } := bankOf_updBank ..
    have hforce : ∀ t, bankInForce (flagPut k x.number false s) t = bankInForce s t :=
      bankInForce_congr fun j => by cases k <;> cases j <;> exact ⟨rfl, rfl⟩
    have hdue' : ∀ d, dueAt (flagPut k x.number false s) k { x with suspended := false } h through d ↔ d = day := by
      intro d
      rw [← hdue d]
      unfold dueAt
      rw [hforce, hk]
      rfl
    have hresume := resumeEntry_of_due (s := flagPut k x.number false s) (e := { x with suspended := false }) htime hthrough
      (by rw [hk]; exact hst) hstart hdue'
    exact hone.trans (hresume.trans (stageUnlessLive_of_admitted hlive hadm))

/-- Settles O34: the positions act one after another, each on the entry at its number. -/
theorem suspensionActsOnTheEntriesNamed : Obligations.SuspensionActsOnTheEntriesNamed := by
  intro tag bank base mask action k s hs hw hk h1 h2 hmask hin ha1 ha2 hn
  dsimp only
  have hbanks := suspendAll_banks hn ((List.nodup_range (n := 32)).filter (maskBit mask)) action base
  refine ⟨suspendAll k action base ((List.range 32).filter (maskBit mask)) s,
    entrySuspend_accepted hs hw hk h1 h2 hmask hin ha1 ha2, ?_, suspendAll_clock .., hbanks.2, ?_, ?_, ?_, ?_, ?_, ?_, ?_⟩
  · exact forEach_keeps (fun t => t.given.outer) _ _ s fun _ _ => suspendOne_outer ..
  · rw [hbanks.1]
  · rw [hbanks.1]
    exact List.length_map _
  · intro e he hnamed
    rw [hbanks.1]
    exact mem_actAt_of_named he (mem_named.mpr hnamed)
  · intro e he hnamed
    rw [hbanks.1]
    exact mem_actAt_of_other he fun h => hnamed (mem_named.mp h)
  · rintro rfl e he hclear hnamed
    obtain ⟨horders, hdeferred⟩ := setAll_clears hn he hclear (mem_named.mpr hnamed)
    exact ⟨fun o ho => horders o.unmarked (List.mem_map_of_mem ho), hdeferred⟩
  · rintro rfl hnone
    exact clearAll_of_stagesNone hn hnone
  · rintro e h through day rfl rfl rfl he hsusp hst htime hthrough hstart hdue huniq hlive hadm
    have hcreate := resume_stages hn he hsusp hst htime hthrough hstart
      (fun d => ⟨huniq d, by rintro rfl; exact hdue⟩) hlive hadm
    have hadm' : admissionFault (flagPut k e.number false s) (occurrence k e (occurrenceStart e day)).candidate = none := hadm
    obtain ⟨o, ho, hu⟩ := order?_createOrder hadm'
    rw [clearFirst, hcreate]
    have hlate : ¬ occurrenceStart e day < now (flagPut k e.number false s) := by
      have hnow : now (flagPut k e.number false s) = h := by show s.clock.time.getD 0 = h; rw [htime]; rfl
      rw [hnow]
      have := hdue.2.1
      omega
    refine ⟨o, ho, congrArg Order.origin hu, congrArg Order.snap hu, congrArg Order.start hu, congrArg Order.ends hu,
      congrArg Order.stage hu, (congrArg Order.prepare hu).trans ?_, createOrder_length .., ?_⟩
    · simp [Order.unmarked, orderOf, occurrence, Deferred.candidate, hlate]
      rfl
    · rw [createOrder_deferred]
      intro d hd
      exact of_decide_eq_true (List.mem_filter.mp hd).2

end Sys2Proof.Machine
end

section
/-! PROOFS. The hall clock (O36): what a second boundary leaves alone, the clock at a mark and at an internal boundary, and the
activation, the drop test and the scan that follow it. -/

set_option Elab.async false

namespace Sys2Proof.Machine

/-! ### What a second boundary leaves alone -/

/-- The answer of an event with supply (log 6). -/
theorem event_powered {f : State → State} {s : State} (hp : s.pins.powered = true) : event f s = .next (settle (f s)) := if_pos hp

theorem settle_clock (s : State) : (settle s).clock = s.clock := congrArg Given.clock (settle_given s)
theorem settle_banks (s : State) : (settle s).banks = s.banks := congrArg Given.banks (settle_given s)
theorem settle_staging (s : State) : (settle s).staging = s.staging := congrArg Given.staging (settle_given s)

@[simp] theorem setHeld_given (v : Bool) (id : Nat) (s : State) : (setHeld v id s).given = s.given := by
  unfold setHeld; split <;> simp
@[simp] theorem continuePower_given (n : Nat) (o : Order) (s : State) : (continuePower n o s).given = s.given := by
  unfold continuePower; dsimp only; (repeat' split) <;> simp
@[simp] theorem continueInto_given (o n : Order) (s : State) : (continueInto o n s).given = s.given := by
  unfold continueInto; dsimp only; split <;> simp
@[simp] theorem endProgramme_given (id : Nat) (s : State) : (endProgramme id s).given = s.given := by
  unfold endProgramme; (repeat' split) <;> simp
@[simp] theorem endIfDue_given (id : Nat) (s : State) : (endIfDue id s).given = s.given := by
  unfold endIfDue; split <;> simp
@[simp] theorem orderInstants_given (s : State) : (orderInstants s).given = s.given := by
  unfold orderInstants; dsimp only; split <;> simp
theorem orderInstants_clock (s : State) : (orderInstants s).clock = s.clock := congrArg Given.clock (orderInstants_given s)
theorem orderInstants_banks (s : State) : (orderInstants s).banks = s.banks := congrArg Given.banks (orderInstants_given s)
theorem orderInstants_staging (s : State) : (orderInstants s).staging = s.staging := congrArg Given.staging (orderInstants_given s)
@[simp] theorem recomputePrepare_given (s : State) : (recomputePrepare s).given = s.given := onChg_given ..

/-- The state but its clock and the report queue. -/
def State.besidesClock (s : State) : State := { s with clock := {}, port := {} }

theorem clockAtMark_besides (closed : Bool) (v : Option Nat) (s : State) : (clockAtMark closed v s).besidesClock = s.besidesClock := by
  unfold clockAtMark
  split
  · rfl
  · dsimp only
    split <;> rfl

theorem clockAtInternal_besides (v : Option Nat) (s : State) : (clockAtInternal v s).besidesClock = s.besidesClock := by
  unfold clockAtInternal
  split
  · split <;> rfl
  · rfl

/-! ### The clock at a boundary (R45, R46, R48) -/

theorem clockAtMark_of_none {closed : Bool} {v : Option Nat} {s : State} (h : s.clock.setting = none) :
    (clockAtMark closed v s).clock =
      { s.clock with time := v, state := if s.clock.state = .holdover then .valid else s.clock.state } := by
  unfold clockAtMark
  rw [h]
  dsimp only
  rw [show (advanceTime v s).clock.state = s.clock.state from rfl]
  split <;> rfl

theorem clockAtMark_of_some {closed : Bool} {v : Option Nat} {s : State} {p : PendingSetting} (h : s.clock.setting = some p) :
    (clockAtMark closed v s).clock = { s.clock with
      time := some ((if windowShut p closed then p.value + 2 else p.value) % 4294967296), state := .valid, setting := none } := by
  unfold clockAtMark
  rw [h]
  rfl

theorem clockAtInternal_of_none {v : Option Nat} {s : State} (h : s.clock.setting = none) :
    (clockAtInternal v s).clock = { s.clock with time := v } := by
  unfold clockAtInternal
  rw [h]
  rfl

theorem clockAtInternal_applies {v : Option Nat} {s : State} {p : PendingSetting} (h : s.clock.setting = some p)
    (hb : 2 ≤ p.boundaries) : (clockAtInternal v s).clock =
      { s.clock with time := some ((p.value + 2) % 4294967296), state := .holdover, setting := none } := by
  unfold clockAtInternal
  rw [h]
  dsimp only
  rw [if_pos hb]
  rfl

theorem clockAtInternal_waits {v : Option Nat} {s : State} {p : PendingSetting} (h : s.clock.setting = some p)
    (hb : p.boundaries < 2) : (clockAtInternal v s).clock =
      { s.clock with time := v, setting := some { p with boundaries := p.boundaries + 1 } } := by
  unfold clockAtInternal
  rw [h]
  dsimp only
  rw [if_neg (by omega)]
  rfl

/-! ### What follows the clock leaves it -/

/-- The state but its banks and the report queue. -/
def State.besidesBanks (s : State) : State := { s with banks := {}, port := {} }

theorem activateBank_besides (k : BankId) (s : State) : (activateBank k s).besidesBanks = s.besidesBanks := by
  unfold activateBank
  dsimp only
  split
  · split
    · split <;> rfl
    · rfl
  · rfl

theorem activateBanks_besides (s : State) : (activateBanks s).besidesBanks = s.besidesBanks :=
  (activateBank_besides .b _).trans (activateBank_besides .a s)

theorem activateBanks_clock (s : State) : (activateBanks s).clock = s.clock :=
  (congrArg State.clock (activateBanks_besides s) :)
theorem activateBanks_staging (s : State) : (activateBanks s).staging = s.staging :=
  (congrArg State.staging (activateBanks_besides s) :)
theorem activateBanks_hall (s : State) : (activateBanks s).hall = s.hall :=
  (congrArg State.hall (activateBanks_besides s) :)
theorem activateBanks_pins (s : State) : (activateBanks s).pins = s.pins :=
  (congrArg State.pins (activateBanks_besides s) :)

theorem stagingScan_staged (s : State) : ∃ u : State, u.undeferred = s.undeferred ∧
    stagingScan s = u.onStaging (fun g => { g with through := some (max (g.through.getD 0) (now s + 60 * s.hall.par.lookAhead)) }) :=
  ⟨_, forEach_undeferred s fun _ t => forEach_undeferred t fun _ _ => stageUnknown_undeferred .., rfl⟩

theorem stagingScan_clock (s : State) : (stagingScan s).clock = s.clock := by
  obtain ⟨u, hu, e⟩ := stagingScan_staged s
  rw [e]
  exact (clock_of_undeferred hu :)

theorem stagingScan_banks (s : State) : (stagingScan s).banks = s.banks := by
  obtain ⟨u, hu, e⟩ := stagingScan_staged s
  rw [e]
  exact (banks_of_undeferred hu :)

theorem stagingScan_through (s : State) :
    (stagingScan s).staging.through = some (max (s.staging.through.getD 0) (now s + 60 * s.hall.par.lookAhead)) := by
  obtain ⟨u, hu, e⟩ := stagingScan_staged s
  rw [e]
  show some (max (u.staging.through.getD 0) _) = _
  rw [through_of_undeferred hu]

/-- The beginning of AUTO up to the catch-up: HELD cleared, the steps due, the staged-through instant set (R56, R92). -/
theorem beginAuto_staged (s : State) : ∃ u : State, u.given = s.given ∧
    beginAuto s = stagingScan (retries (dropTest (catchUp (u.onStaging (fun g => { g with through := some (g.through.getD (now u - 1)) }))))) :=
  ⟨_, by
    rw [rest_given, forEach_keeps State.given _ _ _ fun _ _ => by rfl]
    exact forEach_keeps State.given _ _ _ fun _ _ => setHeld_given .., rfl⟩

theorem staged_clock {u : State} : (stagingScan (retries (dropTest (catchUp u)))).clock = u.clock := by
  rw [stagingScan_clock]
  exact clock_of_undeferred (by simp)

theorem staged_banks {u : State} : (stagingScan (retries (dropTest (catchUp u)))).banks = u.banks := by
  rw [stagingScan_banks]
  exact banks_of_undeferred (by simp)

theorem beginAuto_clock (s : State) : (beginAuto s).clock = s.clock := by
  obtain ⟨u, hu, e⟩ := beginAuto_staged s
  rw [e, staged_clock]
  exact congrArg Given.clock hu

theorem beginAuto_banks (s : State) : (beginAuto s).banks = s.banks := by
  obtain ⟨u, hu, e⟩ := beginAuto_staged s
  rw [e, staged_banks]
  exact congrArg Given.banks hu

/-- The beginning of AUTO or the catch-up that follows the hall time (R50, R56). -/
def followAuto (was : Bool) (natural : Option Nat) (s : State) : State :=
  if isAuto s && !was then beginAuto (hallReport .clock s)
  else if was && decide (natural.getD (now s) < now s) then catchUp s
  else s

/-- The work of a minute boundary (R57, R62, R65). -/
def minuteWork (s : State) : State :=
  recomputePrepare (if isAuto (dropTest s) then stagingScan (retries (dropTest s)) else dropTest s)

theorem timeFollows_eq_minuteWork (was : Bool) (natural : Option Nat) (s : State) : timeFollows was natural s =
    if (followAuto was natural (activateBanks s)).clock.time.isSome && now (followAuto was natural (activateBanks s)) % 60 == 0
    then minuteWork (followAuto was natural (activateBanks s)) else followAuto was natural (activateBanks s) := rfl

theorem followAuto_frame (was : Bool) (natural : Option Nat) (s : State) :
    (followAuto was natural s).clock = s.clock ∧ (followAuto was natural s).banks = s.banks := by
  unfold followAuto
  split
  · exact ⟨beginAuto_clock .., beginAuto_banks ..⟩
  · split
    · exact ⟨clock_of_undeferred (catchUp_undeferred s), banks_of_undeferred (catchUp_undeferred s)⟩
    · exact ⟨rfl, rfl⟩

theorem minuteWork_frame (s : State) : (minuteWork s).clock = s.clock ∧ (minuteWork s).banks = s.banks := by
  unfold minuteWork
  rw [show ∀ t, (recomputePrepare t).clock = t.clock from fun _ => rfl,
    show ∀ t, (recomputePrepare t).banks = t.banks from fun _ => rfl]
  split
  · rw [stagingScan_clock, stagingScan_banks]
    exact ⟨clock_of_undeferred (by simp), banks_of_undeferred (by simp)⟩
  · exact ⟨clock_of_undeferred (dropTest_undeferred s), banks_of_undeferred (dropTest_undeferred s)⟩

/-- What follows the hall time changes it no more, and of the banks only what activation changes (R39, R45). -/
theorem timeFollows_frame (was : Bool) (natural : Option Nat) (s : State) :
    (timeFollows was natural s).clock = s.clock ∧ (timeFollows was natural s).banks = (activateBanks s).banks := by
  obtain ⟨hclock, hbanks⟩ := followAuto_frame was natural (activateBanks s)
  rw [timeFollows_eq_minuteWork, ← activateBanks_clock s]
  split
  · obtain ⟨hclock', hbanks'⟩ := minuteWork_frame (followAuto was natural (activateBanks s))
    exact ⟨hclock'.trans hclock, hbanks'.trans hbanks⟩
  · exact ⟨hclock, hbanks⟩

theorem timeFollows_clock (was : Bool) (natural : Option Nat) (s : State) : (timeFollows was natural s).clock = s.clock :=
  (timeFollows_frame was natural s).1

/-- With AUTO as before and no forward step, what follows is the minute boundary alone (R45, R62). -/
theorem timeFollows_eq {was : Bool} {natural : Option Nat} {s : State} (hauto : isAuto s = was)
    (hstep : ¬ natural.getD (now s) < now s) (htime : s.clock.time.isSome = true) :
    timeFollows was natural s = if now s % 60 = 0 then minuteWork (activateBanks s) else activateBanks s := by
  have hauto' : isAuto (activateBanks s) = was := by
    rw [← hauto]
    unfold isAuto
    rw [activateBanks_pins, activateBanks_clock]
  have hnow : now (activateBanks s) = now s := by unfold now; rw [activateBanks_clock]
  have hfollow : followAuto was natural (activateBanks s) = activateBanks s := by
    unfold followAuto
    rw [hauto', hnow, decide_eq_false hstep]
    simp
  rw [timeFollows_eq_minuteWork, hfollow, hnow, activateBanks_clock, htime]
  simp

/-! ### Bank activation (R39) -/

theorem activateBank_idle {k : BankId} {s : State} (h : (bankOf s k).state ≠ .armed) : activateBank k s = s := by
  unfold activateBank
  dsimp only
  split
  next hst _ => exact absurd hst h
  · rfl

theorem activateBank_due {k : BankId} {s : State} {h n : Nat} (htime : s.clock.time = some h) (hst : (bankOf s k).state = .armed)
    (hact : (bankOf s k).activation = some n) (hle : n ≤ h) :
    bankOf (activateBank k s) k = { bankOf s k with state := .active, activation := none } ∧
    bankOf (activateBank k s) k.other =
      if (bankOf s k.other).state = .active then { bankOf s k.other with state := .loaded } else bankOf s k.other := by
  unfold activateBank
  simp only [htime, hst, hact, if_pos hle]
  split <;> cases k <;> exact ⟨rfl, rfl⟩

/-- An ARMED bank whose instant has come becomes ACTIVE, and an ACTIVE one LOADED (R39). -/
theorem activateBanks_due {k : BankId} {s : State} {h n : Nat} (htime : s.clock.time = some h)
    (hst : (bankOf s k).state = .armed) (hact : (bankOf s k).activation = some n) (hle : n ≤ h)
    (hother : (bankOf s k.other).state ≠ .armed) :
    bankOf (activateBanks s) k = { bankOf s k with state := .active, activation := none } ∧
    bankOf (activateBanks s) k.other =
      if (bankOf s k.other).state = .active then { bankOf s k.other with state := .loaded } else bankOf s k.other := by
  have hdue := activateBank_due htime hst hact hle
  unfold activateBanks
  cases k with
  | a =>
    have hb : (bankOf (activateBank .a s) .b).state ≠ .armed := by
      have hb := hdue.2
      rw [show BankId.a.other = .b from rfl] at hb
      rw [hb]
      split
      · exact nofun
      · exact hother
    rw [activateBank_idle hb]
    exact hdue
  | b =>
    rw [activateBank_idle (k := .a) hother]
    exact hdue

theorem activateBanks_idle {s : State} (h : ∀ k, (bankOf s k).state ≠ .armed) : activateBanks s = s := by
  unfold activateBanks
  rw [activateBank_idle (h .a), activateBank_idle (h .b)]

/-! ### A Time Mark that is a second boundary -/

/-- The state after the timers and the clock of a second boundary, before anything follows. -/
def ticked (clock : Option Nat → State → State) (s : State) : State := countOccupancy (clock (nextTime s) (tickTimers s))

theorem secondBoundary_eq (clock : Option Nat → State → State) (s : State) :
    secondBoundary clock s = orderInstants (timeFollows (isAuto s) (nextTime s) (ticked clock s)) := rfl

theorem secondBoundary_clock (clock : Option Nat → State → State) (s : State) :
    (secondBoundary clock s).clock = (clock (nextTime s) (tickTimers s)).clock := by
  rw [secondBoundary_eq, orderInstants_clock, timeFollows_clock]
  rfl

/-- The mark's own part of a boundary: the watch starts afresh, and the boundary is no internal one (R45, R46). -/
def marked (s : State) : State := restartWatch s |> State.onClock (fun c => { c with lastInternal := false })

theorem timeMark_of_boundary {early closed : Bool} {s : State} (h : early = false ∨ s.clock.lastInternal = false) :
    timeMark early closed s = secondBoundary (clockAtMark closed) (marked s) := by
  have hno : (early && s.clock.lastInternal) = false := by
    rcases h with h | h <;> simp [h]
  unfold timeMark
  rw [hno]
  rfl

theorem timeMark_of_rephase {closed : Bool} {s : State} (h : s.clock.lastInternal = true) :
    timeMark true closed s = rephase closed s := by
  unfold timeMark
  rw [h]
  rfl

section
variable {closed : Bool} {s : State}

theorem ticked_besides : (ticked (clockAtMark closed) (marked s)).besidesClock =
    (countOccupancy (tickTimers (marked s))).besidesClock := by
  have hcount : ∀ t : State, (countOccupancy t).besidesClock = countOccupancy t.besidesClock := fun _ => rfl
  unfold ticked
  rw [hcount, hcount, clockAtMark_besides]

variable (hset : s.clock.setting = none)
include hset

theorem ticked_clock : (ticked (clockAtMark closed) (marked s)).clock = { s.clock with
    time := s.clock.time.map (fun h => (h + 1) % 4294967296)
    state := if s.clock.state = .holdover then .valid else s.clock.state
    watch := 3, lastInternal := false } := clockAtMark_of_none (s := tickTimers (marked s)) hset

theorem ticked_isAuto : isAuto (ticked (clockAtMark closed) (marked s)) = isAuto s := by
  have hkey : (ticked (clockAtMark closed) (marked s)).pins.key = s.pins.key :=
    congrArg (fun t => t.pins.key) ticked_besides
  unfold isAuto
  rw [ticked_clock hset, hkey]
  dsimp only
  split
  next hst => rw [hst]; rfl
  · rfl

theorem timeMark_clock {early : Bool} (h : early = false ∨ s.clock.lastInternal = false) :
    (timeMark early closed s).clock = { s.clock with
      time := s.clock.time.map (fun h => (h + 1) % 4294967296)
      state := if s.clock.state = .holdover then .valid else s.clock.state
      watch := 3, lastInternal := false } := by
  rw [timeMark_of_boundary h, secondBoundary_clock]
  exact ticked_clock hset

end

/-- The mark's boundary once the hall time is set: what follows it is the minute boundary alone. -/
theorem timeMark_eq {early closed : Bool} {s : State} {h : Nat} (hset : s.clock.setting = none)
    (hb : early = false ∨ s.clock.lastInternal = false) (htime : s.clock.time = some h) (hlt : h + 1 < 4294967296) :
    timeMark early closed s = orderInstants (if (h + 1) % 60 = 0 then
      minuteWork (activateBanks (ticked (clockAtMark closed) (marked s)))
      else activateBanks (ticked (clockAtMark closed) (marked s))) ∧
    (ticked (clockAtMark closed) (marked s)).clock.time = some (h + 1) := by
  have htime' : (ticked (clockAtMark closed) (marked s)).clock.time = some (h + 1) := by
    rw [ticked_clock hset, htime]
    exact congrArg some (Nat.mod_eq_of_lt hlt)
  have hnow : now (ticked (clockAtMark closed) (marked s)) = h + 1 := by unfold now; rw [htime']; rfl
  have hnext : nextTime (marked s) = some (h + 1) := by
    show s.clock.time.map _ = _
    rw [htime]
    exact congrArg some (Nat.mod_eq_of_lt hlt)
  have hauto : isAuto (marked s) = isAuto s := rfl
  refine ⟨?_, htime'⟩
  rw [timeMark_of_boundary hb, secondBoundary_eq, hauto, hnext,
    timeFollows_eq (ticked_isAuto hset) (by rw [hnow]; simp) (by rw [htime']; rfl), hnow]

end Sys2Proof.Machine
end

section
/-! PROOFS. The hall clock (O36): the minute boundary in AUTO and out of it, the one occurrence that a scan stages, and the
statement. -/

set_option Elab.async false

namespace Sys2Proof.Machine

/-! ### The drop test (R62) -/

theorem dropTest_staging (s : State) : (dropTest s).staging =
    { s.staging with deferred := s.staging.deferred.filter (fun d => !decide (d.ends ≤ now s + cutoffSecs s)) } := by
  unfold dropTest
  exact forEach_keeps State.staging _ _ _ fun _ _ => by rfl

theorem dropTest_isAuto (s : State) : isAuto (dropTest s) = isAuto s := by
  have hkey : (dropTest s).pins.key = s.pins.key := (congrArg Outer.key (dropTest_outer s) :)
  unfold isAuto
  rw [hkey, clock_of_undeferred (dropTest_undeferred s)]

theorem onStaging_same {f : Staging → Staging} {s : State} (h : f s.staging = s.staging) : s.onStaging f = s := by
  show { s with staging := f s.staging } = s
  rw [h]

theorem dropTest_of_empty {s : State} (h : s.staging.deferred = []) : dropTest s = s := by
  have hgone : s.staging.deferred.filter (fun d => decide (d.ends ≤ now s + cutoffSecs s)) = [] := by rw [h]; rfl
  unfold dropTest
  rw [hgone]
  dsimp only [forEach, List.foldl_nil]
  refine onStaging_same ?_
  rw [h, List.filter_nil, ← h]

theorem retries_of_empty {s : State} (h : s.staging.deferred = []) : retries s = s := by
  unfold retries retryOrder
  rw [h]
  rfl

/-! ### The minutes of a scan (R57) -/

theorem mem_minutes {lo hi t : Nat} : t ∈ minutes lo hi ↔ t % 60 = 0 ∧ lo ≤ t ∧ t ≤ hi := by
  unfold minutes ceilDiv
  simp only [List.mem_map, List.mem_range]
  constructor
  · rintro ⟨i, hi, rfl⟩
    omega
  · rintro ⟨hm, hlo, hhi⟩
    exact ⟨t / 60 - (lo + 60 - 1) / 60, by omega, by omega⟩

theorem minutes_nodup (lo hi : Nat) : (minutes lo hi).Nodup := by
  refine List.nodup_range.map fun a b h => ?_
  have h' : (ceilDiv lo 60 + a) * 60 = (ceilDiv lo 60 + b) * 60 := h
  omega

/-- A loop of which one turn acts comes to that turn. -/
theorem forEach_single {α : Type} {l : List α} {f : α → State → State} {a : α} {s : State} (hl : l.Nodup) (ha : a ∈ l)
    (hf : ∀ b ∈ l, b ≠ a → ∀ u, f b u = u) : forEach l f s = f a s := by
  have hidle : ∀ (m : List α) (u : State), (∀ b ∈ m, ∀ u, f b u = u) → forEach m f u = u := by
    intro m
    induction m with
    | nil => exact fun _ _ => rfl
    | cons b m ih =>
      intro u hm
      have hb : forEach (b :: m) f u = forEach m f (f b u) := rfl
      rw [hb, hm b (List.mem_cons_self ..)]
      exact ih u fun c hc => hm c (List.mem_cons_of_mem _ hc)
  induction l generalizing s with
  | nil => cases ha
  | cons b l ih =>
    obtain ⟨hb, hl⟩ := List.nodup_cons.mp hl
    have hstep : forEach (b :: l) f s = forEach l f (f b s) := rfl
    rw [hstep]
    by_cases hab : b = a
    · subst hab
      exact hidle l _ fun c hc => hf c (List.mem_cons_of_mem _ hc) fun e => hb (e ▸ hc)
    · rw [hf b (List.mem_cons_self ..) hab]
      exact ih hl ((List.mem_cons.mp ha).resolve_left fun e => hab e.symm) fun c hc => hf c (List.mem_cons_of_mem _ hc)

/-! ### A bank of one entry, ACTIVE beside an EMPTY one -/

/-- Bank `k` is ACTIVE with one entry, which is not suspended, and the other bank is EMPTY. -/
structure SoleEntry (s : State) (k : BankId) (e : Entry) : Prop where
  active : (bankOf s k).state = .active
  entries : (bankOf s k).entries = [e]
  other : (bankOf s k.other).state = .empty
  clear : e.suspended = false

namespace SoleEntry

variable {s : State} {k : BankId} {e : Entry} (h : SoleEntry s k e)
include h

theorem not_armed (j : BankId) : (bankOf s j).state ≠ .armed := by
  have hk := h.active
  have ho := h.other
  cases k <;> cases j <;> simp_all [BankId.other]

theorem inForce (t : Nat) : bankInForce s t = some k := by
  have hk := h.active
  have ho := h.other
  unfold bankInForce
  cases k <;> simp_all [BankId.other]

/-- What starts at a minute: the entry, if it occurs on that day at that minute of the day (R57). -/
theorem startsAt_eq (t : Nat) : startsAt s t =
    if occursOn (bankOf s k).header e (hallDay t) && e.start == minuteOfDay t then [(k, e)] else [] := by
  unfold startsAt
  rw [h.inForce]
  simp only [h.entries, List.filter_cons, List.filter_nil, h.clear]
  simp only [Bool.not_false, Bool.true_and]
  split <;> rfl

end SoleEntry

/-- Two minutes of one hour at one minute of the day are one. -/
theorem eq_of_minuteOfDay {a b lo : Nat} (ha : a % 60 = 0) (hb : b % 60 = 0) (hal : lo ≤ a) (hbl : lo ≤ b) (hah : a ≤ lo + 3600)
    (hbh : b ≤ lo + 3600) (h : minuteOfDay a = minuteOfDay b) : a = b := by
  unfold minuteOfDay Config.daySeconds at h
  omega

/-- The first instant of a scan: what comes after the staged-through instant, and no earlier than now (R57). -/
def scanFrom (s : State) : Nat :=
  match s.staging.through with
  | some t => max (t + 1) (now s)
  | none => now s

/-- A scan over no more than an hour stages the one occurrence of a bank's one entry (R57). -/
theorem stagingScan_stages {s : State} {k : BankId} {e : Entry} {start : Nat} (h : SoleEntry s k e)
    (hahead : s.hall.par.lookAhead ≤ 60) (hdeferred : s.staging.deferred = []) (horders : s.chg.orders = [])
    (hoccurs : occursOn (bankOf s k).header e (hallDay start) = true) (hminute : e.start = minuteOfDay start)
    (hwhole : start % 60 = 0) (hlo : scanFrom s ≤ start) (hhi : start ≤ now s + 60 * s.hall.par.lookAhead)
    (hadm : admissionFault s (occurrence k e start).candidate = none) :
    stagingScan s = (createOrder (occurrence k e start).candidate s).onStaging
      (fun g => { g with through := some (max (g.through.getD 0) (now s + 60 * s.hall.par.lookAhead)) }) := by
  have hfrom : now s ≤ scanFrom s := by
    unfold scanFrom
    split
    · exact le_max_right ..
    · exact le_rfl
  have hidle : ∀ t ∈ minutes (scanFrom s) (now s + 60 * s.hall.par.lookAhead), t ≠ start → ∀ u : State,
      forEach (startsAt s t) (fun x => stageUnknown (occurrence x.1 x.2 t)) u = u := by
    intro t ht hne u
    obtain ⟨htm, htlo, hthi⟩ := mem_minutes.mp ht
    have hother : (e.start == minuteOfDay t) = false := by
      rw [beq_eq_false_iff_ne, hminute]
      exact fun heq => hne (eq_of_minuteOfDay (lo := now s) htm hwhole (by omega) (by omega) (by omega) (by omega) heq.symm)
    rw [h.startsAt_eq, hother, Bool.and_false]
    rfl
  have hstart : forEach (startsAt s start) (fun x => stageUnknown (occurrence x.1 x.2 start)) s =
      createOrder (occurrence k e start).candidate s := by
    have hknown : deferred? s (occurrence k e start).origin = false := by simp [deferred?, hdeferred]
    have hone : startsAt s start = [(k, e)] := by
      rw [h.startsAt_eq, hoccurs, hminute, beq_self_eq_true]
      rfl
    rw [hone]
    show stageUnknown (occurrence k e start) s = _
    unfold stageUnknown
    rw [hknown]
    exact stageUnlessLive_of_admitted (by simp [horders]) hadm
  have hloop : forEach (minutes (scanFrom s) (now s + 60 * s.hall.par.lookAhead))
      (fun t u => forEach (startsAt s t) (fun x => stageUnknown (occurrence x.1 x.2 t)) u) s =
      createOrder (occurrence k e start).candidate s :=
    (forEach_single (minutes_nodup ..) (mem_minutes.mpr ⟨hwhole, hlo, hhi⟩) hidle).trans hstart
  exact congrArg (State.onStaging (fun g =>
    { g with through := some (max (g.through.getD 0) (now s + 60 * s.hall.par.lookAhead)) })) hloop

/-! ### The order created, and the instants that leave it -/

/-- In an empty table the order created stands alone, and nothing is left to hand on (R60). -/
theorem createOrder_alone {c : Candidate} {s : State} (h : s.chg.orders = []) :
    (createOrder c s).chg.orders = [orderOf s c] ∧ (createOrder c s).agenda = s.agenda := by
  have hrivals : conflicting s c = [] := by simp [conflicting, h]
  have hagenda : ∀ t : State, (informCoolDown c.snap.tx t).agenda = t.agenda := by
    intro t
    unfold informCoolDown cancelCoolDown
    split <;> rfl
  unfold createOrder
  dsimp only
  rw [hrivals]
  constructor
  · rw [onStaging_chg, informCoolDown_chg]
    show s.chg.orders ++ _ = _
    rw [h]
    rfl
  · exact hagenda _

theorem prepare_ite (c : Prop) [Decidable c] (o : Order) (n : Nat) :
    ∃ p, (if c then { o with prepare := n } else o) = { o with prepare := p } := by
  by_cases hc : c
  · exact ⟨n, if_pos hc⟩
  · exact ⟨o.prepare, if_neg hc⟩

/-- No instant of an order has come (R77, R80, R82, R84). -/
theorem orderInstants_idle {s : State} (h : ∀ o ∈ s.chg.orders, preemptDue s o = false ∧ endDue s o = false ∧
    expiryDue s o = false ∧ o.stage ≠ .poised) : orderInstants s = s := by
  have hpreempt : idsWhere s (fun o => ((!isLocal s || o.stage == .staged) || o.stage == .closing) && preemptDue s o) = [] := by
    simp only [idsWhere, List.map_eq_nil_iff, List.filter_eq_nil_iff]
    intro o ho
    simp [(h o ho).1]
  have hend : idsWhere s (endDue s) = [] := by
    simp only [idsWhere, List.map_eq_nil_iff, List.filter_eq_nil_iff]
    intro o ho
    simp [(h o ho).2.1]
  have hexpire : idsWhere s (fun o => (!isLocal s || o.stage == .staged) && expiryDue s o) = [] := by
    simp only [idsWhere, List.map_eq_nil_iff, List.filter_eq_nil_iff]
    intro o ho
    simp [(h o ho).2.2.1]
  have hpoised : idsWhere s (fun o => o.stage == .poised) = [] := by
    simp only [idsWhere, List.map_eq_nil_iff, List.filter_eq_nil_iff]
    intro o ho
    simpa using (h o ho).2.2.2
  have hnil : ∀ (f : Nat → State → State) (t : State), forEach [] f t = t := fun _ _ => rfl
  unfold orderInstants
  simp only [hpreempt, hnil, hend, ite_self, hexpire, hpoised]

theorem flushNote_chg (k : OrderNote) (s : State) : (flushNote k s).chg = s.chg := by
  unfold flushNote; (repeat' split) <;> rfl

/-- With no message to hand on, settling leaves the orders as they are. -/
theorem settle_chg_of_quiet {s : State} (h : s.agenda = []) : (settle s).chg = s.chg := by
  unfold settle
  rw [rest_of_quiet h]
  exact forEach_keeps State.chg _ _ _ flushNote_chg

/-! ### The timers leave admission alone -/

theorem txCtl_tickTimers_state (s : State) (n : Nat) : (txCtl (tickTimers s) n).state = (txCtl s n).state := by
  unfold txCtl tickTimers nth
  simp only [onChg_tx, onProt_tx, onTx_tx, onMx_tx]
  split
  · rfl
  · rw [List.getElem?_mapIdx]
    cases s.tx[n - 1]? <;> rfl

/-- In an empty table admission looks at the transmitter alone (R59). -/
theorem admissionFault_congr {s t : State} {c : Candidate} (hs : s.chg.orders = []) (ht : t.chg.orders = [])
    (hhall : t.hall = s.hall) (hstate : (txCtl t c.snap.tx).state = (txCtl s c.snap.tx).state) :
    admissionFault t c = admissionFault s c := by
  unfold admissionFault conflicting txRec?
  dsimp only
  rw [hs, ht, hhall, hstate]

/-! ### The mark's boundary, whole (R39, R57, R62) -/

section
variable {early closed : Bool} {s : State} {h : Nat}

/-- The state of a mark's boundary once timers and clock have been served. -/
def markTicked (closed : Bool) (s : State) : State := ticked (clockAtMark closed) (marked s)

/-- A part of the state that is no part of the clock, the report queue or the counters is at a mark what the timers make of it. -/
theorem field_of_ticked {α : Type} {f : State → α} (hclock : ∀ t : State, f t.besidesClock = f t)
    (hcount : ∀ t : State, f (countOccupancy t) = f t) (hmark : f (tickTimers (marked s)) = f (tickTimers s)) :
    f (markTicked closed s) = f (tickTimers s) := by
  have hticked := congrArg f (ticked_besides (closed := closed) (s := s))
  rw [hclock, hclock, hcount, hmark] at hticked
  exact hticked

theorem markTicked_banks : (markTicked closed s).banks = s.banks :=
  field_of_ticked (f := State.banks) (fun _ => rfl) (fun _ => rfl) rfl
theorem markTicked_staging : (markTicked closed s).staging = s.staging :=
  field_of_ticked (f := State.staging) (fun _ => rfl) (fun _ => rfl) rfl
theorem markTicked_hall : (markTicked closed s).hall = s.hall :=
  field_of_ticked (f := State.hall) (fun _ => rfl) (fun _ => rfl) rfl
theorem markTicked_agenda : (markTicked closed s).agenda = s.agenda :=
  field_of_ticked (f := State.agenda) (fun _ => rfl) (fun _ => rfl) rfl
theorem markTicked_orders : (markTicked closed s).chg.orders = s.chg.orders.map Order.tick :=
  field_of_ticked (f := fun t => t.chg.orders) (fun _ => rfl) (fun _ => rfl) rfl
theorem markTicked_tx : (markTicked closed s).tx = (tickTimers s).tx :=
  field_of_ticked (f := State.tx) (fun _ => rfl) (fun _ => rfl) rfl

variable (hset : s.clock.setting = none) (hb : early = false ∨ s.clock.lastInternal = false) (htime : s.clock.time = some h)
  (hlt : h + 1 < 4294967296)
include hset hb htime hlt

theorem timeMark_activates {k : BankId} {n : Nat} (hst : (bankOf s k).state = .armed) (hact : (bankOf s k).activation = some n)
    (hle : n ≤ h + 1) (hother : (bankOf s k.other).state ≠ .armed) :
    bankOf (timeMark early closed s) k = { bankOf s k with state := .active, activation := none } ∧
    bankOf (timeMark early closed s) k.other =
      if (bankOf s k.other).state = .active then { bankOf s k.other with state := .loaded } else bankOf s k.other := by
  obtain ⟨heq, htime'⟩ := timeMark_eq (closed := closed) hset hb htime hlt
  have hbanks : (timeMark early closed s).banks = (activateBanks (markTicked closed s)).banks := by
    rw [heq, orderInstants_banks]
    split
    · exact (minuteWork_frame _).2
    · rfl
  have hsame := bankOf_of_banks (markTicked_banks (closed := closed) (s := s))
  rw [bankOf_of_banks hbanks]
  rw [← hsame] at hst hact hother ⊢
  exact activateBanks_due htime' hst hact hle hother

theorem timeMark_stagesNothing (hm : (h + 1) % 60 ≠ 0) : (timeMark early closed s).staging = s.staging := by
  rw [(timeMark_eq (closed := closed) hset hb htime hlt).1, if_neg hm, orderInstants_staging, activateBanks_staging]
  exact markTicked_staging

theorem timeMark_minute (hm : (h + 1) % 60 = 0) :
    timeMark early closed s = orderInstants (minuteWork (activateBanks (markTicked closed s))) := by
  rw [(timeMark_eq (closed := closed) hset hb htime hlt).1, if_pos hm]
  rfl

omit hb in
theorem now_activated : now (activateBanks (markTicked closed s)) = h + 1 := by
  have htime' : (markTicked closed s).clock.time = some (h + 1) := (timeMark_eq (early := false) hset (.inl rfl) htime hlt).2
  unfold now
  rw [activateBanks_clock, htime']
  rfl

omit hset hb htime hlt in
theorem cutoffSecs_activated : cutoffSecs (activateBanks (markTicked closed s)) = 60 * s.hall.par.cutoff := by
  unfold cutoffSecs
  rw [activateBanks_hall, markTicked_hall]

omit hb htime hlt in
theorem isAuto_activated : isAuto (activateBanks (markTicked closed s)) = isAuto s := by
  rw [← ticked_isAuto (closed := closed) hset]
  unfold isAuto
  rw [activateBanks_pins, activateBanks_clock]
  rfl

/-- Out of AUTO a minute boundary does no more than the drop test (R62). -/
theorem timeMark_drops (hm : (h + 1) % 60 = 0) (hauto : isAuto s = false) : (timeMark early closed s).staging =
    { s.staging with deferred := s.staging.deferred.filter (fun d => decide (h + 1 + 60 * s.hall.par.cutoff < d.ends)) } := by
  have hno : isAuto (dropTest (activateBanks (markTicked closed s))) = false := by
    rw [dropTest_isAuto, isAuto_activated hset, hauto]
  have hstays : ∀ d : Deferred, (!decide (d.ends ≤ h + 1 + 60 * s.hall.par.cutoff)) =
      decide (h + 1 + 60 * s.hall.par.cutoff < d.ends) := by
    intro d
    rw [← decide_not, decide_eq_decide]
    exact Nat.not_le
  rw [timeMark_minute hset hb htime hlt hm, orderInstants_staging]
  show (minuteWork (activateBanks (markTicked closed s))).staging = _
  unfold minuteWork
  rw [hno]
  show (dropTest (activateBanks (markTicked closed s))).staging = _
  rw [dropTest_staging, activateBanks_staging, now_activated hset htime hlt, cutoffSecs_activated, markTicked_staging]
  simp only [hstays]

/-- In AUTO a minute boundary scans up to now + the look-ahead (R57). -/
theorem timeMark_scans (hm : (h + 1) % 60 = 0) (hauto : isAuto s = true) : (timeMark early closed s).staging.through =
    some (max (s.staging.through.getD 0) (h + 1 + 60 * s.hall.par.lookAhead)) := by
  have hyes : isAuto (dropTest (activateBanks (markTicked closed s))) = true := by
    rw [dropTest_isAuto, isAuto_activated hset, hauto]
  have hsame : (retries (dropTest (activateBanks (markTicked closed s)))).undeferred =
      (activateBanks (markTicked closed s)).undeferred := by simp
  have hnow : now (retries (dropTest (activateBanks (markTicked closed s)))) = h + 1 := by
    rw [← now_activated (closed := closed) hset htime hlt]
    unfold now
    rw [clock_of_undeferred hsame]
  have hhall : (retries (dropTest (activateBanks (markTicked closed s)))).hall = s.hall := by
    have hkept : (retries (dropTest (activateBanks (markTicked closed s)))).hall = (activateBanks (markTicked closed s)).hall :=
      (congrArg (fun g : Given => g.outer.hall) hsame :)
    rw [hkept, activateBanks_hall, markTicked_hall]
  rw [timeMark_minute hset hb htime hlt hm, orderInstants_staging]
  show (minuteWork (activateBanks (markTicked closed s))).staging.through = _
  unfold minuteWork
  rw [hyes]
  show (stagingScan (retries (dropTest (activateBanks (markTicked closed s))))).staging.through = _
  rw [stagingScan_through, hnow, hhall, through_of_undeferred hsame, activateBanks_staging, markTicked_staging]

/-- In AUTO, with one entry and nothing staged before, the occurrence due within the look-ahead becomes an order (R57). -/
theorem timeMark_stages (hagenda : s.agenda = []) (hm : (h + 1) % 60 = 0) (hauto : isAuto s = true) {k : BankId} {e : Entry}
    {through start : Nat} (hsole : SoleEntry s k e) (horders : s.chg.orders = []) (hdeferred : s.staging.deferred = [])
    (hahead : s.hall.par.lookAhead ≤ 60) (hthrough : s.staging.through = some through)
    (hoccurs : occursOn (bankOf s k).header e (hallDay start) = true) (hminute : e.start = minuteOfDay start)
    (hwhole : start % 60 = 0) (hafter : through < start) (hlo : h + 1 ≤ start)
    (hhi : start ≤ h + 1 + 60 * s.hall.par.lookAhead) (hend : h + 1 + 60 * s.hall.par.cutoff < start + 60 * e.duration)
    (hadm : admissionFault s (occurrence k e start).candidate = none) :
    ∃ o ∈ (settle (timeMark early closed s)).chg.orders, o.origin = .schedule k e.number start ∧ o.snap = e.snapshot ∧
      o.start = start ∧ o.ends = start + 60 * e.duration ∧ o.lateStart = false ∧ o.stage = .staged := by
  generalize hC : markTicked closed s = C
  have hbanks : bankOf C = bankOf s := hC ▸ bankOf_of_banks markTicked_banks
  have hsole' : SoleEntry C k e := by
    obtain ⟨h1, h2, h3, h4⟩ := hsole
    exact ⟨hbanks ▸ h1, hbanks ▸ h2, hbanks ▸ h3, h4⟩
  have hidle : activateBanks C = C := activateBanks_idle hsole'.not_armed
  have hnow : now C = h + 1 := by
    rw [← hidle, ← hC]
    exact now_activated hset htime hlt
  have hhall : C.hall = s.hall := hC ▸ markTicked_hall
  have hstaging : C.staging = s.staging := hC ▸ markTicked_staging
  have horders' : C.chg.orders = [] := by rw [← hC, markTicked_orders, horders]; rfl
  have hempty : C.staging.deferred = [] := hstaging ▸ hdeferred
  have hauto' : isAuto C = true := by
    rw [← hidle, ← hC, isAuto_activated hset, hauto]
  have hadm' : admissionFault C (occurrence k e start).candidate = none := by
    rw [admissionFault_congr horders horders' hhall, hadm]
    unfold txCtl
    rw [← hC, markTicked_tx]
    exact txCtl_tickTimers_state ..
  have hfrom : scanFrom C ≤ start := by
    unfold scanFrom
    rw [hstaging, hthrough, hnow]
    exact max_le hafter hlo
  have hscan := stagingScan_stages hsole' (hhall ▸ hahead) hempty horders' (hbanks ▸ hoccurs) hminute hwhole hfrom
    (by rw [hnow, hhall]; exact hhi) hadm'
  obtain ⟨halone, hquiet⟩ := createOrder_alone (c := (occurrence k e start).candidate) horders'
  have hwork : minuteWork C = recomputePrepare (stagingScan C) := by
    unfold minuteWork
    rw [dropTest_of_empty hempty, retries_of_empty hempty, hauto']
    rfl
  obtain ⟨p, hone⟩ : ∃ p, (minuteWork C).chg.orders = [{ orderOf C (occurrence k e start).candidate with prepare := p }] := by
    rw [hwork, hscan]
    unfold recomputePrepare
    rw [onChg_chg, onStaging_chg, halone]
    exact (prepare_ite _ _ _).imp fun _ hp => congrArg (fun o => [o]) hp
  have hworkNow : now (minuteWork C) = h + 1 := by
    rw [← hnow]
    unfold now
    rw [(minuteWork_frame C).1]
  have hworkHall : (minuteWork C).hall = s.hall := by
    rw [hwork, ← hhall]
    exact (congrArg Outer.hall (stagingScan_outer C) :)
  have hworkQuiet : (minuteWork C).agenda = [] := by
    rw [hwork, hscan]
    exact hquiet.trans (hC ▸ markTicked_agenda.trans hagenda)
  have hinstants : orderInstants (minuteWork C) = minuteWork C := by
    refine orderInstants_idle fun o ho => ?_
    rw [hone, List.mem_singleton] at ho
    subst ho
    refine ⟨rfl, rfl, ?_, nofun⟩
    unfold expiryDue cutoffSecs
    rw [hworkNow, hworkHall]
    simpa [orderOf, occurrence, Deferred.candidate] using hend
  have hfinal : (settle (timeMark early closed s)).chg.orders =
      [{ orderOf C (occurrence k e start).candidate with prepare := p }] := by
    rw [timeMark_minute hset hb htime hlt hm, hC, hidle, hinstants, settle_chg_of_quiet hworkQuiet, hone]
  refine ⟨_, hfinal ▸ List.mem_singleton.mpr rfl, rfl, rfl, rfl, rfl, ?_, rfl⟩
  have hlate : ¬ start < now C := by rw [hnow]; omega
  simp [orderOf, occurrence, Deferred.candidate, hlate]

end

/-! ### The statement -/

/-- A mark that only re-phases the timebase, with no setting pending, changes the clock and the report queue alone (R45). -/
theorem rephase_besides {closed : Bool} {s : State} (hset : s.clock.setting = none) :
    (rephase closed s).besidesClock = s.besidesClock ∧ (rephase closed s).clock = { s.clock with
      state := if s.clock.state = .holdover then .valid else s.clock.state
      watch := 3 } := by
  have heq : rephase closed s = clockAtMark closed s.clock.time (restartWatch s) := by
    unfold rephase
    rw [hset]
    rfl
  rw [heq]
  exact ⟨clockAtMark_besides .., clockAtMark_of_none (s := restartWatch s) hset⟩

/-- A setting pending at a mark is applied, and the watch starts afresh (R47, R48). -/
theorem timeMark_applies {early closed : Bool} {s : State} {p : PendingSetting} (hset : s.clock.setting = some p) :
    (timeMark early closed s).clock = { s.clock with
      time := some ((if windowShut p closed then p.value + 2 else p.value) % 4294967296)
      state := .valid, setting := none, watch := 3, lastInternal := early && s.clock.lastInternal } := by
  by_cases hb : early = false ∨ s.clock.lastInternal = false
  · have hlast : (early && s.clock.lastInternal) = false := by rcases hb with h | h <;> simp [h]
    rw [timeMark_of_boundary hb, secondBoundary_clock, clockAtMark_of_some (s := tickTimers (marked s)) hset, hlast]
    rfl
  · obtain ⟨rfl, hlast⟩ : early = true ∧ s.clock.lastInternal = true := by simpa using hb
    rw [timeMark_of_rephase hlast, Bool.true_and]
    unfold rephase
    rw [hset]
    exact (timeFollows_clock ..).trans (clockAtMark_of_some (s := restartWatch s) hset)

/-- The clock's part of an internal boundary comes on the watch that runs on (R45, R46). -/
theorem internalBoundary_clock (s : State) : (internalBoundary s).clock =
    (clockAtInternal (s.clock.time.map (fun h => (h + 1) % 4294967296))
      (tickTimers (s.onClock (fun c => { c with watch := c.watch - 1, lastInternal := true })))).clock := secondBoundary_clock ..

/-- A change of the clock and of the report queue leaves a settled state settled. -/
theorem settled_of_besidesClock {s t : State} (h : t.besidesClock = s.besidesClock) (hs : s.settled) : t.settled :=
  settled_eq (congrArg State.agenda h :) (congrArg State.notes h :) (congrArg State.mx h :) (congrArg State.pins h :)
    (congrArg State.tx h :) (congrArg State.chg h :) hs

theorem eq_of_besidesClock {s t : State} (h : t.besidesClock = s.besidesClock) : { t with clock := s.clock, port := s.port } = s := by
  have h' := congrArg (fun u : State => { u with clock := s.clock, port := s.port }) h
  exact h'

/-- Settles O36: the clock's part of each boundary is followed through what comes after it, which leaves it alone. -/
theorem theClockFollowsMarksAndBoundaries : Obligations.TheClockFollowsMarksAndBoundaries := by
  intro s hs
  obtain ⟨hp, hsettled⟩ := hs
  refine ⟨fun early closed hb hset => ?_, fun closed hlast hset => ?_, fun early closed p hset => ?_, fun hset => ?_,
    fun p hset => ?_, fun hst hwatch => ?_, fun hno => ?_⟩
  · refine ⟨settle (timeMark early closed s), event_powered hp, by simp, ?_, fun h htime hlt => ⟨?_, ?_, ?_, ?_⟩⟩
    · rw [settle_clock]
      exact timeMark_clock hset hb
    · intro k n hst hact hle hother
      rw [bankOf_of_banks (settle_banks _)]
      exact timeMark_activates hset hb htime hlt hst hact hle hother
    · intro hm
      rw [settle_staging]
      exact timeMark_stagesNothing hset hb htime hlt hm
    · intro hm hauto
      rw [settle_staging]
      exact timeMark_drops hset hb htime hlt hm hauto
    · intro hm hauto
      refine ⟨by rw [settle_staging]; exact timeMark_scans hset hb htime hlt hm hauto, ?_⟩
      intro k e through start hact hentries hother horders hdeferred hclear
      exact timeMark_stages hset hb htime hlt hsettled.1.1 hm hauto ⟨hact, hentries, hother, hclear⟩ horders hdeferred
  · obtain ⟨hbesides, hclock⟩ := rephase_besides (closed := closed) hset
    refine ⟨rephase closed s, ?_, eq_of_besidesClock hbesides, hclock⟩
    rw [← settle_of_settled (settled_of_besidesClock hbesides hsettled), ← timeMark_of_rephase hlast]
    exact event_powered hp
  · exact ⟨settle (timeMark early closed s), event_powered hp, by simp, (settle_clock _).trans (timeMark_applies hset)⟩
  · refine ⟨settle (internalBoundary s), event_powered hp, by simp, ?_⟩
    rw [settle_clock, internalBoundary_clock]
    exact clockAtInternal_of_none hset
  · refine ⟨settle (internalBoundary s), event_powered hp, by simp, fun hdue => ?_, fun hwait => ?_⟩
    · rw [settle_clock, internalBoundary_clock]
      exact clockAtInternal_applies hset hdue
    · rw [settle_clock, internalBoundary_clock]
      exact clockAtInternal_waits hset hwait
  · have hruns : watchRunsOut s = clockReport .valid .markWatch none (s.onClock (fun c => { c with state := .holdover })) := by
      unfold watchRunsOut
      simp [hst, hwatch]
    rw [← hruns, ← settle_of_settled (s := watchRunsOut s) (settled_of_besidesClock (by rw [hruns]; rfl) hsettled)]
    exact event_powered hp
  · have hidle : watchRunsOut s = s := by
      unfold watchRunsOut
      rcases hno with h | h <;> simp [h]
    have hexec : exec .markWatchExpiry s = .next (settle (watchRunsOut s)) := event_powered hp
    rw [hexec, hidle, settle_of_settled hsettled]

end Sys2Proof.Machine
end

section
/-! PROOFS. The calendar (O17): hall days and dates of 2000 to 2099. -/

set_option Elab.async false

namespace Sys2Proof.Machine

/-! ### Months (R53) -/

/-- Day `rest` (from 0) of a run of months that starts at `first` falls in the month whose days before it, within the run, are
`rest` or fewer. -/
theorem monthOf_spec {lens : List Nat} {first rest : Nat} (h : rest < lens.sum) :
    ∃ k day, monthOf lens first rest = (first + k, day + 1) ∧ k < lens.length ∧ day < lens.getD k 0 ∧
      rest = (lens.take k).sum + day := by
  induction lens generalizing first rest with
  | nil => exact absurd h (Nat.not_lt_zero _)
  | cons len more ih =>
    by_cases hlen : rest < len
    · exact ⟨0, rest, by simp [monthOf, hlen], by simp, by simpa using hlen, by simp⟩
    · rw [List.sum_cons] at h
      obtain ⟨k, day, he, hk, hday, hrest⟩ := ih (first := first + 1) (rest := rest - len) (by omega)
      refine ⟨k + 1, day, ?_, by simpa using hk, by simpa using hday, ?_⟩
      · rw [monthOf, if_neg hlen, he, Nat.add_right_comm, Nat.add_assoc]
      · rw [List.take_succ_cons, List.sum_cons]; omega

/-- The month of a day that is given by its month and its day of the month. -/
theorem monthOf_take {lens : List Nat} {first k day : Nat} (hk : k < lens.length) (hday : day < lens.getD k 0) :
    monthOf lens first ((lens.take k).sum + day) = (first + k, day + 1) := by
  induction lens generalizing first k with
  | nil => exact absurd hk (Nat.not_lt_zero _)
  | cons len more ih =>
    cases k with
    | zero =>
      have hfirst : day < len := by simpa using hday
      simp [monthOf, hfirst]
    | succ k =>
      have hge : ¬ len + (more.take k).sum + day < len := by omega
      have hback : len + (more.take k).sum + day - len = (more.take k).sum + day := by omega
      rw [List.take_succ_cons, List.sum_cons, monthOf, if_neg hge, hback, ih (by simpa using hk) (by simpa using hday),
        Nat.add_right_comm, Nat.add_assoc]

/-! ### Years (R53) -/

/-- The days of a year. -/
def yearDays (year : Nat) : Nat := if isLeap year then 366 else 365

theorem monthDays_sum (year : Nat) : (monthDays year).sum = yearDays year := by
  unfold monthDays yearDays
  cases isLeap year <;> rfl

theorem nth_monthDays (year month : Nat) (h : 1 ≤ month) :
    (nth (monthDays year) month).getD 0 = (monthDays year).getD (month - 1) 0 := by
  unfold nth
  rw [if_neg (by omega), List.getD_eq_getElem?_getD]

/-- The first hall day of the year `2000 + y`. -/
def yearStart (y : Nat) : Nat := 365 * y + (y + 3) / 4

theorem yearDays_eq (y : Nat) : yearDays (2000 + y) = if y % 4 = 0 then 366 else 365 := by
  have h : isLeap (2000 + y) = decide (y % 4 = 0) := by
    unfold isLeap
    rw [Bool.eq_iff_iff, beq_iff_eq, decide_eq_true_eq]
    omega
  unfold yearDays
  rw [h]
  simp

/-- The year of a hall day, and the day's place in that year. -/
def yearOfDay (day : Nat) : Nat :=
  let r := day % 1461
  4 * (day / 1461) + if r < 366 then 0 else 1 + (r - 366) / 365
def restOfDay (day : Nat) : Nat :=
  let r := day % 1461
  if r < 366 then r else (r - 366) % 365

theorem dateOfDay_eq (day : Nat) : dateOfDay day =
    { year := 2000 + yearOfDay day
      month := (monthOf (monthDays (2000 + yearOfDay day)) 1 (restOfDay day)).1
      day := (monthOf (monthDays (2000 + yearOfDay day)) 1 (restOfDay day)).2 } := by
  unfold dateOfDay yearOfDay restOfDay
  dsimp only
  rw [Nat.add_assoc]

/-- A hall day lies in its year. -/
theorem day_in_year (day : Nat) :
    day = yearStart (yearOfDay day) + restOfDay day ∧ restOfDay day < yearDays (2000 + yearOfDay day) := by
  rw [yearDays_eq]
  unfold yearStart yearOfDay restOfDay
  dsimp only
  split
  · constructor
    · omega
    · rw [if_pos (by omega)]; assumption
  · constructor
    · omega
    · split <;> omega

/-- The year of a day that is given by its year and its place in that year. -/
theorem year_of_yearStart {y rest : Nat} (h : rest < yearDays (2000 + y)) :
    yearOfDay (yearStart y + rest) = y ∧ restOfDay (yearStart y + rest) = rest := by
  obtain ⟨q, j, hj, rfl⟩ : ∃ q j, j < 4 ∧ y = 4 * q + j := ⟨y / 4, y % 4, Nat.mod_lt _ (by decide), by omega⟩
  rw [yearDays_eq, Nat.mul_add_mod, Nat.mod_eq_of_lt hj] at h
  have hsum : yearStart (4 * q + j) + rest = 1461 * q + (365 * j + (j + 3) / 4 + rest) := by unfold yearStart; omega
  have hplace : 365 * j + (j + 3) / 4 + rest < 1461 := by split at h <;> omega
  unfold yearOfDay restOfDay
  rw [hsum, Nat.mul_add_mod, Nat.mod_eq_of_lt hplace, Nat.mul_add_div (by decide), Nat.div_eq_of_lt hplace, Nat.add_zero]
  dsimp only
  interval_cases j <;> split at h <;> split <;> omega

/-! ### The statement -/

theorem toDay_eq (y month day : Nat) : Date.toDay { year := 2000 + y, month := month, day := day } =
    yearStart y + (((monthDays (2000 + y)).take (month - 1)).sum + (day - 1)) := by
  unfold Date.toDay yearStart
  dsimp only
  rw [Nat.add_sub_cancel_left, Nat.add_assoc]

/-- A calendar date by its parts. -/
theorem valid_iff {d : Date} : Date.valid d = true ↔ 2000 ≤ d.year ∧ d.year ≤ 2099 ∧ 1 ≤ d.month ∧ d.month ≤ 12 ∧ 1 ≤ d.day ∧
    d.day ≤ (monthDays d.year).getD (d.month - 1) 0 := by
  unfold Date.valid
  simp only [Bool.and_eq_true, decide_eq_true_eq, and_assoc]
  refine and_congr_right fun _ => and_congr_right fun _ => and_congr_right fun h => ?_
  rw [nth_monthDays _ _ h]

/-- The days of a year before a month, and a day of that month, lie in the year. -/
theorem take_sum_lt {l : List Nat} {k day : Nat} (hday : day < l.getD k 0) : (l.take k).sum + day < l.sum := by
  induction l generalizing k with
  | nil => simp at hday
  | cons len more ih =>
    cases k with
    | zero => simp at hday ⊢; omega
    | succ k =>
      have := ih (by simpa using hday)
      rw [List.take_succ_cons, List.sum_cons, List.sum_cons]
      omega

theorem dateOfDay_toDay {d : Date} (h : Date.valid d = true) : dateOfDay (Date.toDay d) = d ∧ Date.toDay d ≤ 36524 := by
  obtain ⟨hy1, hy2, hm1, hm2, hd1, hd2⟩ := valid_iff.mp h
  obtain ⟨year, month, day⟩ := d
  obtain ⟨y, rfl⟩ := Nat.exists_eq_add_of_le hy1
  dsimp only at *
  have hlt : day - 1 < (monthDays (2000 + y)).getD (month - 1) 0 := by omega
  have hrest := take_sum_lt hlt
  have hlen : (monthDays (2000 + y)).length = 12 := rfl
  rw [monthDays_sum] at hrest
  obtain ⟨hyear, hplace⟩ := year_of_yearStart hrest
  rw [toDay_eq]
  constructor
  · rw [dateOfDay_eq, hyear, hplace, monthOf_take (by omega) hlt]
    simp only [Date.mk.injEq, true_and]
    omega
  · rw [yearDays_eq] at hrest
    unfold yearStart
    split at hrest <;> omega

theorem toDay_dateOfDay {n : Nat} (h : n ≤ 36524) : Date.valid (dateOfDay n) = true ∧ Date.toDay (dateOfDay n) = n := by
  obtain ⟨hday, hrest⟩ := day_in_year n
  rw [← monthDays_sum] at hrest
  obtain ⟨k, day, hmonth, hk, hlt, hsum⟩ := monthOf_spec (first := 1) hrest
  have hk12 : k < 12 := hk
  have hyear : yearOfDay n ≤ 99 := by
    have : yearStart (yearOfDay n) ≤ 36524 := by omega
    unfold yearStart at this
    omega
  have hdate : dateOfDay n = { year := 2000 + yearOfDay n, month := 1 + k, day := day + 1 } := by
    rw [dateOfDay_eq, hmonth]
  rw [hdate]
  constructor
  · refine valid_iff.mpr ⟨?_, ?_, ?_, ?_, ?_, ?_⟩ <;> dsimp only
    any_goals omega
    rw [Nat.add_sub_cancel_left]
    exact hlt
  · rw [toDay_eq, Nat.add_sub_cancel_left, Nat.add_sub_cancel]
    omega

/-- Settles O17: a date is its year, its month and its day, and each of the two searches finds what the sums were made of. -/
theorem calendarDatesAndHallDaysAgree : Obligations.CalendarDatesAndHallDaysAgree :=
  ⟨rfl, fun _ => dateOfDay_toDay, fun _ => toDay_dateOfDay⟩

end Sys2Proof.Machine
end

section
/-! PROOFS. A loss of power and its return (O57). -/

set_option Elab.async false

namespace Sys2Proof.Machine

/-! ### The loss (log 6) -/

/-- Without supply no line follows R120 but a WITHDRAWN one. -/
theorem silent_of_unpowered {s : State} (h : s.pins.powered = false) : (judgePermits s).silent := by
  intro n
  have hrule : ∀ k, permitRule s k = false := by
    intro k
    unfold permitRule
    split
    · simp [h]
    · rfl
  show nth ((upTo 16).map (permitRule s)) n ≠ some true
  rw [nth_map]
  cases nth (upTo 16) n <;> simp [hrule]

/-! ### The return (R197) -/

/-- What every power-on starts afresh, and what comes over from before it: the inputs, the image slots and the queue. -/
structure Afresh (s t : State) : Prop where
  powered : t.pins.powered = true
  key : t.pins.key = s.pins.key
  chainClosed : t.pins.chainClosed = s.pins.chainClosed
  pending : t.pending = s.pending
  store : t.store = { s.store with writing := none }
  clock : t.clock = {}
  staging : t.staging = {}
  chg : t.chg = {}
  log : t.log = {}
  stats : t.stats = List.replicate 8 {}
  prot : t.prot = List.replicate 16 {}
  queue : t.line.queue = []
  heldBack : t.line.heldBack = []
  selected : t.port.selected = 0xFFF
  atRest : t.atRest

theorem Afresh.offerReport {s t : State} (h : Afresh s t) (b : ReportBody) : Afresh s (offerReport b t) :=
  { h with selected := (congrArg Outer.selected (congrArg Given.outer (offerReport_given b t))).trans h.selected }

theorem Afresh.judgePermits {s t : State} (h : Afresh s t) : Afresh s (judgePermits t) := { h with }

theorem freshFrom_afresh (s : State) : Afresh s (freshFrom s) :=
  ⟨rfl, rfl, rfl, rfl, rfl, rfl, rfl, rfl, rfl, rfl, rfl, rfl, rfl, rfl, rfl, rfl⟩

/-- The commands that wait for the line. -/
def State.waitingCmds (s : State) : List Cmd × List Cmd := (s.line.queue, s.line.heldBack)

theorem bindAll_waitingCmds (s : State) : (bindAll s).waitingCmds = s.waitingCmds := by
  unfold bindAll
  rw [forEach_keeps State.waitingCmds, forEach_keeps State.waitingCmds]
  all_goals
    intro n t
    split <;> rfl

theorem startPoll_waitingCmds (s : State) : (startPoll s).waitingCmds = s.waitingCmds := by
  unfold startPoll; dsimp only; split <;> rfl

/-- A power-on from an image gives its tables, and leaves the rest as a fresh start has it. -/
theorem loadImage_afresh (i : Image) (s : State) : Afresh s (loadImage i (freshFrom s)) ∧
    (loadImage i (freshFrom s)).hall = { tx := i.tx, ant := i.ant, loads := i.loads, par := i.par } ∧
    (loadImage i (freshFrom s)).banks = i.banks ∧ (loadImage i (freshFrom s)).port = {} := by
  have hoff := loadImage_offLine i (freshFrom s)
  have hcmds : (loadImage i (freshFrom s)).waitingCmds = ([], []) := by
    rw [loadImage_eq, startPoll_waitingCmds, bindAll_waitingCmds]
    rfl
  generalize loadImage i (freshFrom s) = t at hoff hcmds ⊢
  injection hoff with hpins hhall hbanks hclock hstaging hchg _ _ _ hprot _ hlog hstats hstore hport hagenda hnotes hpending
  exact ⟨{
    powered := (congrArg Pins.powered hpins :)
    key := (congrArg Pins.key hpins :)
    chainClosed := (congrArg Pins.chainClosed hpins :)
    pending := hpending
    store := hstore
    clock := hclock
    staging := hstaging
    chg := hchg
    log := hlog
    stats := hstats
    prot := hprot
    queue := congrArg Prod.fst hcmds
    heldBack := congrArg Prod.snd hcmds
    selected := congrArg Port.selected hport
    atRest := ⟨hagenda, hnotes⟩ }, hhall, hbanks, hport⟩

/-- The STORE report at power-on is the first one (R188, R197). -/
theorem offerReport_first {s : State} (h : s.port = {}) (b : StoreReport) :
    (offerReport (.store b) s).port.out = [.report .store 0 0 (.store b)] := by
  have hkind : ReportBody.kind (.store b) = .store := rfl
  have hselected : ({} : Port).selected.getLsbD ReportKind.store.position = true := by decide
  have hroom : ({} : Port).reports < Config.maxReports := by decide
  unfold offerReport Port.offer
  rw [onPort_port, h, hkind]
  simp only [hselected, hroom, if_true]
  rfl

/-- What a power-on gives by the image slots: the tables of the latest good image, or those of R18, and the report of a slot
that is bad (R18, R197). -/
structure Loaded (s t : State) : Prop where
  none_good : s.store.slot1 = .bad → s.store.slot2 = .bad → t.hall = State.blank.hall ∧ t.banks = {} ∧
    t.port.out = [.report .store 0 0 (.store .badImage)]
  some_good : ∀ first g i, s.store.latest = some (first, g, i) →
    t.hall = { tx := i.tx, ant := i.ant, loads := i.loads, par := i.par } ∧ t.banks = i.banks ∧
    (s.store.slot1 = .bad ∨ s.store.slot2 = .bad → t.port.out = [.report .store 0 0 (.store (.singleImage g))]) ∧
    (s.store.slot1 ≠ .bad → s.store.slot2 ≠ .bad → t.port.out = [])

theorem Loaded.judgePermits {s t : State} (h : Loaded s t) : Loaded s (judgePermits t) := { h with }

theorem latest_eq_none_iff {t : Store} : t.latest = none ↔ t.slot1 = .bad ∧ t.slot2 = .bad := by
  unfold Store.latest
  cases t.slot1 <;> cases t.slot2 <;> simp
  split <;> simp

/-- A power-on with one good slot reports it, and with two reports nothing (R197). -/
theorem powerUp_of_latest {s : State} {first : Bool} {g : Nat} {i : Image} (h : s.store.latest = some (first, g, i)) :
    powerUp s = if s.store.slot1 = .bad ∨ s.store.slot2 = .bad then
      offerReport (.store (.singleImage g)) (loadImage i (freshFrom s)) else loadImage i (freshFrom s) := by
  unfold powerUp
  rw [h]
  cases s.store.slot1 <;> cases s.store.slot2 <;> simp <;> rfl

theorem powerUp_of_none {s : State} (h : s.store.latest = none) :
    powerUp s = offerReport (.store .badImage) (freshFrom s) := by
  obtain ⟨h1, h2⟩ := latest_eq_none_iff.mp h
  unfold powerUp
  rw [h, h1, h2]
  rfl

theorem powerUp_starts (s : State) : Afresh s (powerUp s) ∧ Loaded s (powerUp s) := by
  cases hl : s.store.latest with
  | none =>
    rw [powerUp_of_none hl]
    refine ⟨(freshFrom_afresh s).offerReport _, fun _ _ => ⟨rfl, rfl, offerReport_first rfl _⟩, ?_⟩
    rw [hl]
    exact nofun
  | some x =>
    obtain ⟨first, g, i⟩ := x
    obtain ⟨hfresh, hhall, hbanks, hport⟩ := loadImage_afresh i s
    rw [powerUp_of_latest hl]
    generalize loadImage i (freshFrom s) = t at hfresh hhall hbanks hport ⊢
    refine ⟨?_, fun h1 h2 => ?_, fun f g' i' hl' => ?_⟩
    · split
      · exact hfresh.offerReport _
      · exact hfresh
    · rw [latest_eq_none_iff.mpr ⟨h1, h2⟩] at hl
      cases hl
    · obtain ⟨-, rfl, rfl⟩ : first = f ∧ g = g' ∧ i = i' := by simpa [hl] using hl'
      split
      next hbad =>
        refine ⟨hhall, hbanks, fun _ => offerReport_first hport _, fun h1 h2 => ?_⟩
        exact absurd hbad (not_or.mpr ⟨h1, h2⟩)
      next hgood => exact ⟨hhall, hbanks, fun hbad => absurd hbad hgood, fun _ _ => by rw [hport]⟩

/-- Settles O57: what power-on starts afresh, and what it takes from the slots, for each state of the two slots. -/
theorem powerIsLostAndReturns : Obligations.PowerIsLostAndReturns := by
  intro s
  refine ⟨⟨unpowered s, rfl, rfl, silent_of_unpowered rfl, rfl, rfl⟩, fun hp => if_pos hp, fun hp => ?_⟩
  obtain ⟨hfresh, hloaded⟩ := powerUp_starts s
  have hon : exec .powerOn s = .next (judgePermits (powerUp s)) := by
    show execPowerOn s = _
    unfold execPowerOn
    rw [if_neg (by simp [hp])]
  obtain ⟨hpowered, hkey, hchain, hpending, hstore, hclock, hstaging, hchg, hlog, hstats, hprot, hqueue, hheld, hselected,
    hrest⟩ := hfresh.judgePermits
  exact ⟨judgePermits (powerUp s), hon, ⟨hpowered, hrest, judgePermits_follow _⟩, hkey, hchain, hpending, hstore, hclock,
    hstaging, hchg, hlog, hstats, hprot, hqueue, hheld, hselected, hloaded.judgePermits.none_good,
    hloaded.judgePermits.some_good⟩

end Sys2Proof.Machine
end

section
/-! PROOFS. The turn of the Hall Key to REMOTE (O59), refuted on a state in which two live orders carry one id. -/

set_option Elab.async false

namespace Sys2Proof.Machine
namespace SharedId

/-! ### A hall under LOCAL in which id 7 names two live orders

The first, a scheduled order, waits in CLOSING after a failure that may be rescued onto its alternate, antenna 2; the second is a
manual order that is STAGED. -/

def transmitter : TxRec where
  tlu := 1
  mdu := 2
  low := 5900
  high := 17900
  rated := 3000
  modes := { am := true, rcam := false, dig := false }
  standby := none
  warmUp := 180
  presetEst := 12
  searchEst := 60
  ramp := 10
  searchPower := 100
  inhibited := false

def antenna : AntRec where
  kind := .fixed
  segments := [{ low := 5900, high := 17900, rating := 2500 }]
  warn := 40
  trip := 110
  rotator := none

def manual : Order where
  id := 7
  origin := .manual
  snap := { service := 1, tx := 1, freq := 9410, primary := 1, alternate := some 2, azimuth := none, power := 2500
            mode := .am, priority := .normal }
  start := 20000
  ends := 23600
  prepare := 19000
  held := true

def closing : Order :=
  { manual with
    origin := .schedule .a 1 6600, start := 6600, ends := 9600, prepare := 6000, stage := .closing, antenna := some 1
    failure := some .routeStuck, outcomeDue := some .failed }

def hall : State :=
  judgePermits { State.blank with
    pins := { State.blank.pins with key := .local }
    hall := { tx := some transmitter :: List.replicate 15 none, ant := some antenna :: some antenna :: List.replicate 30 none
              loads := [500, 500], par := {} }
    clock := { time := some 6000, state := .valid }
    chg := { orders := [closing, manual], lastId := 7 }
    tx := { TxCtl.initial with state := .standby } :: List.replicate 15 TxCtl.initial }

theorem hall_running : hall.running := ⟨rfl, ⟨rfl, rfl⟩, judgePermits_follow _⟩

/-- Under REMOTE the closing ends in a rescue, which writes HELD under the id: a scheduled order out of AUTO is held (R92), and
the manual order of that id with it. -/
theorem manual_stays_held :
    ∃ p ∈ (settle (keyToRemote hall)).chg.orders, p.origin = .manual ∧ p.held = true := by
  decide +kernel

end SharedId

/-- Refutes O59. The statement has no premise that the ids of the live orders differ (R68), and what an event writes under an id
it writes to every order of that id: where a scheduled order and a manual order share id 7, the rescue of the scheduled one at
the turn to REMOTE leaves the manual one HELD. -/
theorem not_theHallKeyTurns : ¬ Obligations.TheHallKeyTurns := by
  intro h
  obtain ⟨-, -, toRemote, -⟩ := h SharedId.hall SharedId.hall_running
  obtain ⟨t, ht, -, -, -, released, -⟩ := toRemote rfl
  have hturn : exec (.hallKeyChange .remote) SharedId.hall = .next (settle (keyToRemote SharedId.hall)) := rfl
  rw [hturn] at ht
  cases ht
  obtain ⟨p, hp, hmanual, hheld⟩ := SharedId.manual_stays_held
  rw [released p hp hmanual] at hheld
  cases hheld

end Sys2Proof.Machine
end

section
/-! PROOFS. What settling keeps of the orders and the protection records (O35, O58): the operations that leave both alone. -/

set_option Elab.async false

namespace Sys2Proof.Machine

/-! ### The order table and the protection records -/

/-- The part of a protection record that only an order's progress changes: factor, base, trip history, recovery delay. -/
def ProtRec.standing (p : ProtRec) : Nat × Option Nat × List TripEntry × Option RecoveryDelay :=
  (p.factor, p.base, p.trips, p.recovery)

/-- The order table, and the protection records as far as only an order's progress changes them. -/
def State.tenure (s : State) : Changeover × List (Nat × Option Nat × List TripEntry × Option RecoveryDelay) :=
  (s.chg, s.prot.map ProtRec.standing)

theorem chg_of_tenure {s t : State} (h : t.tenure = s.tenure) : t.chg = s.chg := congrArg Prod.fst h

theorem updProt_tenure {n : Nat} {f : ProtRec → ProtRec} (s : State) (hf : ∀ p, (f p).standing = p.standing) :
    (updProt n f s).tenure = s.tenure := by
  unfold State.tenure
  rw [show (updProt n f s).prot = updNth s.prot n f from rfl, updNth_map_same _ _ _ _ hf]
  rfl

@[simp] theorem forEach_tenure {α : Type} {l : List α} {f : α → State → State} (s : State)
    (hf : (∀ a t, (f a t).tenure = t.tenure) = True) : (forEach l f s).tenure = s.tenure :=
  forEach_keeps State.tenure l f s (of_eq_true hf)

section updates
variable (s : State)
@[simp] theorem onTx_tenure (f) : (s.onTx f).tenure = s.tenure := rfl
@[simp] theorem onLine_tenure (f) : (s.onLine f).tenure = s.tenure := rfl
@[simp] theorem onDir_tenure (f) : (s.onDir f).tenure = s.tenure := rfl
@[simp] theorem onMx_tenure (f) : (s.onMx f).tenure = s.tenure := rfl
@[simp] theorem onAgenda_tenure (f) : (s.onAgenda f).tenure = s.tenure := rfl
@[simp] theorem onNotes_tenure (f) : (s.onNotes f).tenure = s.tenure := rfl
@[simp] theorem updTx_tenure (n f) : (updTx n f s).tenure = s.tenure := rfl
@[simp] theorem updDir_tenure (n f) : (updDir n f s).tenure = s.tenure := rfl
@[simp] theorem updRotator_tenure (n f) : (updRotator n f s).tenure = s.tenure := rfl
@[simp] theorem emit_tenure (g) : (emit g s).tenure = s.tenure := rfl
end updates

/-! ### Reports -/

section reports
variable (s : State)
@[simp] theorem offerReport_tenure (b) : (offerReport b s).tenure = s.tenure := rfl
@[simp] theorem hallReport_tenure (k) : (hallReport k s).tenure = s.tenure := rfl
@[simp] theorem count_tenure (k q) : (count k q s).tenure = s.tenure := rfl
@[simp] theorem countDir_tenure (k) : (countDir k s).tenure = s.tenure := rfl
@[simp] theorem countOutcome_tenure (o) : (countOutcome o s).tenure = s.tenure := by cases o <;> rfl
@[simp] theorem makeFaultWith_tenure (k sub o fl t n) : (makeFaultWith k sub o fl t n s).tenure = s.tenure := rfl
@[simp] theorem makeFault_tenure (k sub o) : (makeFault k sub o s).tenure = s.tenure := rfl
@[simp] theorem makeTxFault_tenure (k n o) : (makeTxFault k n o s).tenure = s.tenure := rfl
@[simp] theorem updNote_tenure (id f) : (updNote id f s).tenure = s.tenure := rfl
@[simp] theorem noteOrder_tenure (id) : (noteOrder id s).tenure = s.tenure := by
  unfold noteOrder; (repeat' split) <;> rfl
@[simp] theorem flushNote_tenure (k) : (flushNote k s).tenure = s.tenure := by
  unfold flushNote; (repeat' split) <;> rfl
@[simp] theorem flushOrders_tenure : (flushOrders s).tenure = s.tenure := by
  unfold flushOrders; simp
@[simp] theorem unitLost_tenure (a fl k) : (unitLost a fl k s).tenure = s.tenure := by
  unfold unitLost; dsimp only; split <;> rfl
@[simp] theorem unitDown_tenure (a fl k) : (unitDown a fl k s).tenure = s.tenure := by
  unfold unitDown unitReport; dsimp only; simp only [count_tenure, makeFaultWith_tenure, offerReport_tenure]
@[simp] theorem tripReport_tenure (n o st k d r) : (tripReport n o st k d r s).tenure = s.tenure := rfl
@[simp] theorem tripFault_tenure (k n o t) : (tripFault k n o t s).tenure = s.tenure := rfl
end reports

/-! ### The Field Line and Transmitter Control -/

section commands
variable (s : State)
@[simp] theorem placeCmd_tenure (c) : (placeCmd c s).tenure = s.tenure := by unfold placeCmd; split <;> rfl
@[simp] theorem offerCmd_tenure (addr fn urgent sub) : (offerCmd addr fn urgent sub s).tenure = s.tenure := by
  unfold offerCmd; simp
@[simp] theorem removeCmds_tenure (p) : (removeCmds p s).tenure = s.tenure := rfl
@[simp] theorem failCmds_tenure (p) : (failCmds p s).tenure = s.tenure := by unfold failCmds; simp
@[simp] theorem offerTlu_tenure (n fn urgent) : (offerTlu n fn urgent s).tenure = s.tenure := by
  unfold offerTlu; split <;> simp
@[simp] theorem setTxState_tenure (n st) : (setTxState n st s).tenure = s.tenure := rfl
@[simp] theorem failOrdersOn_tenure (n lo hi k) : (failOrdersOn n lo hi k s).tenure = s.tenure := by
  unfold failOrdersOn; simp
@[simp] theorem warmFromReply_tenure (n) : (warmFromReply n s).tenure = s.tenure := rfl
@[simp] theorem carrierOffRequest_tenure (n who) : (carrierOffRequest n who s).tenure = s.tenure := by
  have hprot : ∀ t : State, (updProt n (fun p => { p with sent := 0, acked := 0, rise := none }) t).tenure = t.tenure :=
    fun t => updProt_tenure t fun _ => rfl
  unfold carrierOffRequest
  dsimp only
  (repeat' split) <;> simp [hprot]
@[simp] theorem carrierOn_tenure (n level) : (carrierOn n level s).tenure = s.tenure := by
  unfold carrierOn
  rw [offerTlu_tenure, updProt_tenure _ fun _ => by rfl, updTx_tenure]
@[simp] theorem cancelCoolDown_tenure (n) : (cancelCoolDown n s).tenure = s.tenure := by
  unfold cancelCoolDown; split <;> rfl
@[simp] theorem requestWarmUp_tenure (n id) : (requestWarmUp n id s).tenure = s.tenure := by
  unfold requestWarmUp; dsimp only; (repeat' split) <;> simp
@[simp] theorem dropWarm_tenure (n id) : (dropWarm n id s).tenure = s.tenure := rfl
@[simp] theorem setPreset_tenure (n i p) : (setPreset n i p s).tenure = s.tenure := rfl
@[simp] theorem invalidate_tenure (n f) : (invalidate n f s).tenure = s.tenure := by
  unfold invalidate; split <;> simp
@[simp] theorem countTuneKind_tenure (k) : (countTuneKind k s).tenure = s.tenure := by cases k <;> rfl
@[simp] theorem openTune_tenure (n t) : (openTune n t s).tenure = s.tenure := by
  unfold openTune
  rw [updProt_tenure _ fun _ => by rfl, updTx_tenure]
@[simp] theorem startMode_tenure (n id f m) : (startMode n id f m s).tenure = s.tenure := by unfold startMode; simp
@[simp] theorem startPreset_tenure (n id f m p) : (startPreset n id f m p s).tenure = s.tenure := by unfold startPreset; simp
@[simp] theorem startSearch_tenure (n id f m) : (startSearch n id f m s).tenure = s.tenure := by
  unfold startSearch; dsimp only; simp
@[simp] theorem holdSearch_tenure (n) : (holdSearch n s).tenure = s.tenure := by
  unfold holdSearch; dsimp only; split <;> simp
@[simp] theorem tuneAcked_tenure (n limit) : (tuneAcked n limit s).tenure = s.tenure := rfl
@[simp] theorem setMode_tenure (n m r) : (setMode n m r s).tenure = s.tenure := by unfold setMode; split <;> rfl
@[simp] theorem carrierOffResult_tenure (n serial) : (carrierOffResult n serial s).tenure = s.tenure := rfl
@[simp] theorem setpointResult_tenure (n power r) : (setpointResult n power r s).tenure = s.tenure := by
  unfold setpointResult
  split
  · exact updProt_tenure s fun _ => rfl
  · split
    · rfl
    · exact updProt_tenure s fun _ => rfl
end commands

/-! ### The directory and the matrix -/

section matrix
variable (s : State)
@[simp] theorem setXp_tenure (r c st) : (setXp r c st s).tenure = s.tenure := rfl
@[simp] theorem antReport_tenure (c k) : (antReport c k s).tenure = s.tenure := rfl
@[simp] theorem xpReport_tenure (r c o n p k) : (xpReport r c o n p k s).tenure = s.tenure := rfl
@[simp] theorem setFault_tenure (c k) : (setFault c k s).tenure = s.tenure := by unfold setFault; split <;> rfl
@[simp] theorem settleTo_tenure (c law) : (settleTo c law s).tenure = s.tenure := by
  unfold settleTo; dsimp only; (repeat' split) <;> rfl
@[simp] theorem settleColumn_tenure (c) : (settleColumn c s).tenure = s.tenure := settleTo_tenure ..
@[simp] theorem offerWaiters_tenure (c) : (offerWaiters c s).tenure = s.tenure := by unfold offerWaiters; split <;> rfl
@[simp] theorem requestMove_tenure (r c dir e who) : (requestMove r c dir e who s).tenure = s.tenure := by
  unfold requestMove; dsimp only; (repeat' split) <;> rfl
@[simp] theorem tellAll_tenure (l r c ok) : (tellAll l r c ok s).tenure = s.tenure := by unfold tellAll; simp
@[simp] theorem dropRequesters_tenure (p) : (dropRequesters p s).tenure = s.tenure := rfl
@[simp] theorem sweepQueue_tenure (r c) : (sweepQueue r c s).tenure = s.tenure := by
  unfold sweepQueue; dsimp only; simp
@[simp] theorem returnCredit_tenure (r c) : (returnCredit r c s).tenure = s.tenure := rfl
@[simp] theorem grantClaim_tenure (c id) : (grantClaim c id s).tenure = s.tenure := by unfold grantClaim; simp
@[simp] theorem requestClaim_tenure (c o) : (requestClaim c o s).tenure = s.tenure := by
  unfold requestClaim; dsimp only; (repeat' split) <;> simp
@[simp] theorem offerColumn_tenure (c) : (offerColumn c s).tenure = s.tenure := by
  unfold offerColumn; dsimp only; (repeat' split) <;> simp
@[simp] theorem openParkedLoad_tenure (c) : (openParkedLoad c s).tenure = s.tenure := by
  unfold openParkedLoad; dsimp only; split <;> simp
@[simp] theorem plainRelease_tenure (c id) : (plainRelease c id s).tenure = s.tenure := by
  unfold plainRelease; dsimp only; (repeat' split) <;> simp
@[simp] theorem cancelHandover_tenure (id) : (cancelHandover id s).tenure = s.tenure := by
  unfold cancelHandover; dsimp only; (repeat' split) <;> simp
@[simp] theorem leaveWaits_tenure (id) : (leaveWaits id s).tenure = s.tenure := by unfold leaveWaits; simp
@[simp] theorem moveNak_tenure (m) : (moveNak m s).tenure = s.tenure := by
  unfold moveNak; dsimp only; split <;> simp
@[simp] theorem moveNoReply_tenure (m) : (moveNoReply m s).tenure = s.tenure := by unfold moveNoReply; simp
@[simp] theorem moveResult_tenure (serial r) : (moveResult serial r s).tenure = s.tenure := by
  unfold moveResult; (repeat' split) <;> simp
@[simp] theorem startSlew_tenure (a id target) : (startSlew a id target s).tenure = s.tenure := by
  unfold startSlew; split <;> simp
@[simp] theorem dropSlew_tenure (id) : (dropSlew id s).tenure = s.tenure := rfl
@[simp] theorem joinLoadWait_tenure (o) : (joinLoadWait o s).tenure = s.tenure := rfl
end matrix

end Sys2Proof.Machine
end

section
/-! PROOFS. What settling keeps of the orders and the protection records (O35, O58): the operations that change an order, the
messages between the blocks, and the rest they come to. -/

set_option Elab.async false

namespace Sys2Proof.Machine

/-! ### The rule and the invariant -/

/-- `P` may be asked of every order, and `Q` of every protection record, while the messages are taken: `P` looks at HELD, at the
bar on a rescue and at the stage alone, and stands the changes of stage and the rescues that orders of the table can make; `Q`
looks at the standing of a record alone, and asks nothing once an order is there to change it. -/
structure OrderRule (g : Given) (P : Order → Prop) (Q : ProtRec → Prop) : Prop where
  same : ∀ {o p}, P o → p.held = o.held → p.noRescue = o.noRescue → p.stage = o.stage → P p
  moved : ∀ {o p q}, P o → o.stage ≠ .closing → P p → q.held = p.held → q.noRescue = p.noRescue → P q
  rescued : ∀ {s o p q}, s.given = g → P o → o.noRescue = false → P p → q.held = heldNow s o → q.noRescue = p.noRescue → P q
  standing : ∀ {p q}, Q p → q.standing = p.standing → Q q
  free : ∀ {o}, P o → ∀ p, Q p

/-- Every order meets `P` and every protection record `Q`, under a rule that the messages keep. -/
structure Kept (g : Given) (P : Order → Prop) (Q : ProtRec → Prop) (s : State) : Prop where
  rule : OrderRule g P Q
  given : s.given = g
  orders : ∀ o ∈ s.chg.orders, P o
  prot : ∀ p ∈ s.prot, Q p

namespace Kept

variable {g : Given} {P : Order → Prop} {Q : ProtRec → Prop} {s t : State}

/-! ### The updates of the state -/

/-- An operation that leaves the orders and the standing of the records alone. -/
theorem keep (h : Kept g P Q s) (hg : t.given = s.given := by simp) (ht : t.tenure = s.tenure := by simp) : Kept g P Q t where
  rule := h.rule
  given := hg.trans h.given
  orders := by rw [chg_of_tenure ht]; exact h.orders
  prot p hp := by
    have hp' : p.standing ∈ s.prot.map ProtRec.standing := by
      have e : t.prot.map ProtRec.standing = s.prot.map ProtRec.standing := congrArg Prod.snd ht
      exact e ▸ List.mem_map_of_mem hp
    obtain ⟨q, hq, he⟩ := List.mem_map.mp hp'
    exact h.rule.standing (h.prot q hq) he.symm

protected theorem ite {c : Prop} [Decidable c] (hs : Kept g P Q s) (ht : Kept g P Q t) : Kept g P Q (if c then s else t) := by
  split
  · exact hs
  · exact ht

protected theorem forEach {α : Type} {l : List α} {f : α → State → State} (h : Kept g P Q s)
    (hf : ∀ a t, Kept g P Q t → Kept g P Q (f a t)) : Kept g P Q (forEach l f s) := by
  unfold Machine.forEach
  induction l generalizing s with
  | nil => exact h
  | cons a l ih => exact ih (hf a s h)

section neutral
variable (h : Kept g P Q s)
include h
protected theorem emit {m} : Kept g P Q (emit m s) := h.keep rfl rfl
protected theorem onAgenda {f} : Kept g P Q (s.onAgenda f) := h.keep rfl rfl
protected theorem onDir {f} (hf : (f s.dir).cols = s.dir.cols := by rfl) : Kept g P Q (s.onDir f) :=
  h.keep (by simp [State.given, State.onDir, State.outer, State.sizes, State.banks, hf]) rfl
protected theorem countDir {k} : Kept g P Q (countDir k s) := h.keep
protected theorem updTx {n : Nat} {f : TxCtl → TxCtl} (hf : ∀ x, (f x).memory.length = x.memory.length := by intro x; rfl) :
    Kept g P Q (updTx n f s) := h.keep (updTx_given n f s (eq_true hf))
protected theorem updRotator {a f} : Kept g P Q (updRotator a f s) := h.keep
protected theorem updDir {c f} (hf : ∀ d, ((f d).inhibited, (f d).suspect) = (d.inhibited, d.suspect) := by intro d; rfl) :
    Kept g P Q (updDir c f s) := h.keep (updDir_given c f s (eq_true hf)) rfl
protected theorem offerReport {b} : Kept g P Q (offerReport b s) := h.keep
protected theorem warmFromReply {n} : Kept g P Q (warmFromReply n s) := h.keep
protected theorem setPreset {n i p} : Kept g P Q (setPreset n i p s) := h.keep
protected theorem setFault {c k} : Kept g P Q (setFault c k s) := h.keep
protected theorem setMode {n m r} : Kept g P Q (setMode n m r s) := h.keep
protected theorem tuneAcked {n l} : Kept g P Q (tuneAcked n l s) := h.keep
protected theorem holdSearch {n} : Kept g P Q (holdSearch n s) := h.keep
protected theorem count {k q} : Kept g P Q (count k q s) := h.keep
protected theorem countOutcome {o} : Kept g P Q (countOutcome o s) := h.keep
protected theorem makeFault {k sub o} : Kept g P Q (makeFault k sub o s) := h.keep
protected theorem makeTxFault {k n o} : Kept g P Q (makeTxFault k n o s) := h.keep
protected theorem noteOrder {id} : Kept g P Q (noteOrder id s) := h.keep
protected theorem updNote {id f} : Kept g P Q (updNote id f s) := h.keep
protected theorem offerCmd {a fn u sub} : Kept g P Q (offerCmd a fn u sub s) := h.keep
protected theorem carrierOffRequest {n who} : Kept g P Q (carrierOffRequest n who s) := h.keep
protected theorem carrierOn {n level} : Kept g P Q (carrierOn n level s) := h.keep
protected theorem requestWarmUp {n id} : Kept g P Q (requestWarmUp n id s) := h.keep
protected theorem failOrdersOn {n lo hi k} : Kept g P Q (failOrdersOn n lo hi k s) := h.keep
protected theorem setTxState {n st} : Kept g P Q (setTxState n st s) := h.keep
protected theorem countTuneKind {k} : Kept g P Q (countTuneKind k s) := h.keep
protected theorem startMode {n id f m} : Kept g P Q (startMode n id f m s) := h.keep
protected theorem startPreset {n id f m p} : Kept g P Q (startPreset n id f m p s) := h.keep
protected theorem startSearch {n id f m} : Kept g P Q (startSearch n id f m s) := h.keep
protected theorem invalidate {n f} : Kept g P Q (invalidate n f s) := h.keep
protected theorem leaveWaits {id} : Kept g P Q (leaveWaits id s) := h.keep
protected theorem dropRequesters {p} : Kept g P Q (dropRequesters p s) := h.keep
protected theorem dropSlew {id} : Kept g P Q (dropSlew id s) := h.keep
protected theorem dropWarm {n id} : Kept g P Q (dropWarm n id s) := h.keep
protected theorem requestClaim {c o} : Kept g P Q (requestClaim c o s) := h.keep
protected theorem requestMove {r c d e who} : Kept g P Q (requestMove r c d e who s) := h.keep
protected theorem plainRelease {c id} : Kept g P Q (plainRelease c id s) := h.keep
protected theorem settleColumn {c} : Kept g P Q (settleColumn c s) := h.keep
protected theorem offerWaiters {c} : Kept g P Q (offerWaiters c s) := h.keep
protected theorem startSlew {a id target} : Kept g P Q (startSlew a id target s) := h.keep
protected theorem joinLoadWait {o} : Kept g P Q (joinLoadWait o s) := h.keep
protected theorem tripReport {n o st k d r} : Kept g P Q (tripReport n o st k d r s) := h.keep
protected theorem tripFault {k n o t} : Kept g P Q (tripFault k n o t s) := h.keep
end neutral

theorem of_order? (h : Kept g P Q s) {id : Nat} {o : Order} (ho : order? s id = some o) : P o := h.orders o (order?_mem ho).1

/-- An update of an order that `P` does not look at. -/
protected theorem updOrder (h : Kept g P Q s) {id : Nat} {f : Order → Order} (hheld : ∀ o, (f o).held = o.held := by intro o; rfl)
    (hbar : ∀ o, (f o).noRescue = o.noRescue := by intro o; rfl) (hst : ∀ o, (f o).stage = o.stage := by intro o; rfl) :
    Kept g P Q (updOrder id f s) where
  rule := h.rule
  given := (updOrder_given id f s).trans h.given
  orders p hp := by
    obtain ⟨o, ho, rfl⟩ := List.mem_map.mp hp
    split
    · exact h.rule.same (h.orders o ho) (hheld o) (hbar o) (hst o)
    · exact h.orders o ho
  prot := h.prot

protected theorem setWork (h : Kept g P Q s) {id f} : Kept g P Q (setWork id f s) := h.updOrder
protected theorem refreshMove (h : Kept g P Q s) {id} : Kept g P Q (refreshMove id s) := h.setWork

/-- Once an order is there, nothing is asked of the protection records. -/
theorem updProt_of (h : Kept g P Q s) {o : Order} (ho : P o) {n : Nat} {f : ProtRec → ProtRec} : Kept g P Q (updProt n f s) where
  rule := h.rule
  given := (updProt_given n f s).trans h.given
  orders := h.orders
  prot p _ := h.rule.free ho p

protected theorem updProt (h : Kept g P Q s) {n : Nat} {f : ProtRec → ProtRec}
    (hf : ∀ p, (f p).standing = p.standing := by intro p; rfl) : Kept g P Q (updProt n f s) :=
  h.keep (updProt_given n f s) (updProt_tenure s hf)

protected theorem setFactor (h : Kept g P Q s) {o : Order} (ho : P o) {n v i r c} : Kept g P Q (setFactor n v i r c s) := by
  unfold Machine.setFactor
  dsimp only
  split
  · exact h
  · split
    · exact ((h.updProt_of ho).updProt_of ho).offerReport
    · exact h.updProt_of ho

/-! ### Transmitter Control -/

protected theorem dropTune (h : Kept g P Q s) {n} : Kept g P Q (dropTune n s) := by
  unfold Machine.dropTune
  split
  · exact h
  · dsimp only
    split
    · exact h.updTx.setWork
    · exact h.updTx

protected theorem loseWork (h : Kept g P Q s) {n lo} : Kept g P Q (loseWork n lo s) := by
  unfold Machine.loseWork
  dsimp only
  split
  · exact h.dropTune.failOrdersOn.emit
  · exact h.dropTune.failOrdersOn

protected theorem goOffline (h : Kept g P Q s) {n} : Kept g P Q (goOffline n s) := by
  unfold Machine.goOffline
  dsimp only
  split
  · exact h
  · split
    · exact h.setTxState.makeTxFault.loseWork
    · exact h.setTxState.loseWork

protected theorem takeState (h : Kept g P Q s) {n} : Kept g P Q (takeState n s) := by
  unfold Machine.takeState
  split
  · exact h.goOffline
  · exact h.setTxState.warmFromReply.ite h.setTxState
  · exact h.setTxState

protected theorem takeStateIfTuning (h : Kept g P Q s) {n} : Kept g P Q (takeStateIfTuning n s) := h.takeState.ite h
protected theorem leaveTripped (h : Kept g P Q s) {n} : Kept g P Q (leaveTripped n s) := h.takeState.ite h
protected theorem endSearch (h : Kept g P Q s) {n} : Kept g P Q (endSearch n s) := h.dropTune.takeStateIfTuning

protected theorem warmUpFailed (h : Kept g P Q s) {n} : Kept g P Q (warmUpFailed n s) := by
  unfold Machine.warmUpFailed
  split
  · exact h
  · exact h.updTx.forEach fun _ _ ht => ht.setWork.emit

protected theorem filamentOffAcked (h : Kept g P Q s) {n} : Kept g P Q (filamentOffAcked n s) :=
  h.updTx.ite h.updTx.setTxState.loseWork

protected theorem tuneResult (h : Kept g P Q s) {n ok} : Kept g P Q (tuneResult n ok s) := by
  unfold Machine.tuneResult
  split
  · exact h
  · dsimp only
    split
    · exact h.dropTune.takeStateIfTuning.emit
    · exact h.dropTune.takeStateIfTuning

protected theorem searchFail (h : Kept g P Q s) {n ranOut} : Kept g P Q (searchFail n ranOut s) :=
  (h.carrierOffRequest.ite h).count.makeTxFault.tuneResult

protected theorem presetFail (h : Kept g P Q s) {n drop} : Kept g P Q (presetFail n drop s) := by
  unfold Machine.presetFail
  split
  · exact h
  · exact (h.invalidate.ite h).makeTxFault.tuneResult

protected theorem beginBlind (h : Kept g P Q s) {n id} : Kept g P Q (beginBlind n id s) :=
  h.noteOrder.updTx.updOrder

protected theorem endBlind (h : Kept g P Q s) {n} : Kept g P Q (endBlind n s) :=
  h.ite (Kept.goOffline (h.updTx.forEach fun _ _ ht => ht.updOrder))

/-- An order takes a stage where some order is not in CLOSING. -/
protected theorem setStage (h : Kept g P Q s) {o : Order} (ho : P o) (hw : o.stage ≠ .closing) {id st} :
    Kept g P Q (setStage id st s) := by
  have hmoved : Kept g P Q (Machine.updOrder id (fun x => { x with stage := st, stageSecs := 0 }) (noteOrder id s)) :=
    { rule := h.rule
      given := by simp [h.given]
      orders := fun p hp => by
        obtain ⟨q, hq, rfl⟩ := List.mem_map.mp hp
        rw [noteOrder_chg] at hq
        split
        · exact h.rule.moved ho hw (h.orders q hq) rfl rfl
        · exact h.orders q hq
      prot := fun p _ => h.rule.free ho p }
  unfold Machine.setStage
  split
  · exact h
  · exact Kept.ite (hmoved.updProt_of ho).endBlind hmoved

protected theorem dropRecovery (h : Kept g P Q s) {o : Order} (ho : P o) {n id} : Kept g P Q (dropRecovery n id s) := by
  unfold Machine.dropRecovery
  split
  · exact Kept.ite (h.updProt_of ho).leaveTripped h
  · exact h

/-! ### The directory, the matrix and the rotators -/

protected theorem grantLoad (h : Kept g P Q s) : Kept g P Q (grantLoad s) := by
  unfold Machine.grantLoad
  split
  · exact h.onDir.updDir.settleColumn.countDir.updOrder.emit
  · exact h

protected theorem offerLoads (h : Kept g P Q s) : Kept g P Q (offerLoads s) :=
  h.keep.grantLoad.grantLoad

protected theorem releaseWithOpening (h : Kept g P Q s) {c o} : Kept g P Q (releaseWithOpening c o s) :=
  h.plainRelease.emit.ite h.setWork.requestMove

protected theorem slewEnded (h : Kept g P Q s) {id} : Kept g P Q (slewEnded id s) := h.setWork.emit
protected theorem slewFailedFor (h : Kept g P Q s) {id} : Kept g P Q (slewFailedFor id s) := h.setWork.emit

protected theorem tellEarlier (h : Kept g P Q s) {id k} : Kept g P Q (tellEarlier id k s) := by
  unfold Machine.tellEarlier
  split
  · exact h.ite h.slewEnded
  · exact h

protected theorem requestSlew (h : Kept g P Q s) {a id target} : Kept g P Q (requestSlew a id target s) := by
  unfold Machine.requestSlew
  split
  · refine h.slewFailedFor.ite (h.slewEnded.ite (Kept.ite ?_ h.tellEarlier.updRotator))
    split
    · exact h.tellEarlier.updRotator
    · exact h.tellEarlier.startSlew
  · exact h.slewFailedFor

protected theorem failSlew (h : Kept g P Q s) {a} : Kept g P Q (failSlew a s) := by
  unfold Machine.failSlew
  split
  · exact h
  next r _ =>
    have hstop : ∀ t, Kept g P Q t → Kept g P Q (match rotatorPart? t a with
        | some p => if (unitAt t p.aru).state = .silent || isLocal t then t else offerCmd p.aru .stop false a t
        | none => t) := by
      intro t ht
      split
      · exact ht.ite ht.offerCmd
      · exact ht
    dsimp only
    split
    · exact (hstop _ h.updRotator).setFault.makeFault.slewFailedFor
    · exact (hstop _ h.updRotator).setFault.makeFault

/-! ### Outcomes, closing and rescue -/

protected theorem setMark (h : Kept g P Q s) {id m} : Kept g P Q (setMark id m s) := h.noteOrder.updOrder
protected theorem rechooseMark (h : Kept g P Q s) {o} : Kept g P Q (rechooseMark o s) := h.setMark

/-- An order leaves the table. -/
theorem removeOrder (h : Kept g P Q s) {p : Order → Bool} :
    Kept g P Q (s.onChg (fun c => { c with orders := c.orders.filter p })) :=
  { h with orders := fun o ho => h.orders o (List.mem_filter.mp ho).1 }

protected theorem finishOrder (h : Kept g P Q s) {id out} : Kept g P Q (finishOrder id out s) := by
  have hgone : ∀ t, Kept g P Q t → Kept g P Q (countOutcome out
      (t.onChg (fun c => { c with orders := c.orders.filter (fun p => p.id != id) }))) := fun t ht => ht.removeOrder.countOutcome
  unfold Machine.finishOrder
  split
  · exact h
  · have hn := fun f => (h.noteOrder (id := id)).updNote (id := id) (f := f)
    exact Kept.forEach (Kept.forEach (hgone _ ((hn _).ite (hn _).leaveWaits.dropSlew.dropWarm.updTx.updProt))
      fun _ _ ht => ht.rechooseMark) fun _ _ ht => ht.emit

protected theorem enterClosing (h : Kept g P Q s) {id out} : Kept g P Q (enterClosing id out s) := by
  unfold Machine.enterClosing
  split
  · exact h
  next o ho =>
    have hp := h.of_order? ho
    split
    · exact h
    next hst =>
      have hleft : Kept g P Q (setStage id .closing s) := h.setStage hp hst
      have hdone : ∀ t c, [Decidable c] → Kept g P Q t → Kept g P Q (if c then Machine.endSearch o.snap.tx
          (Machine.dropRecovery o.snap.tx id (dropWarm o.snap.tx id (dropSlew id (dropRequesters (ofOrder id) (leaveWaits id t)))))
          else Machine.dropRecovery o.snap.tx id (dropWarm o.snap.tx id (dropSlew id (dropRequesters (ofOrder id) (leaveWaits id t))))) :=
        fun t c _ ht => (ht.leaveWaits.dropRequesters.dropSlew.dropWarm.dropRecovery hp).endSearch.ite
          (ht.leaveWaits.dropRequesters.dropSlew.dropWarm.dropRecovery hp)
      exact Kept.emit (Kept.refreshMove ((hdone _ _ hleft.updOrder).setWork.carrierOffRequest.ite (hdone _ _ hleft.updOrder)))

protected theorem preempt (h : Kept g P Q s) {id} : Kept g P Q (preempt id s) := by
  unfold Machine.preempt
  split
  · exact h
  next o _ =>
    have hs : Kept g P Q (if o.preempting.isSome then Machine.setMark id none s else s) := h.setMark.ite h
    dsimp only
    split
    · exact hs.finishOrder
    · exact hs
    · exact hs.enterClosing

protected theorem conclude (h : Kept g P Q s) {id out} : Kept g P Q (conclude id out s) := by
  unfold Machine.conclude
  split
  · exact h
  · exact h.finishOrder.ite h.enterClosing

protected theorem preemptFor (h : Kept g P Q s) {rescued id} : Kept g P Q (preemptFor rescued id s) :=
  h.updOrder.ite h.preempt

/-- A rescue gives its order the HELD that a new order would have. -/
protected theorem rescue (h : Kept g P Q s) {o : Order} (ho : P o) (hbar : o.noRescue = false) {c} : Kept g P Q (rescue o c s) := by
  have hback : ∀ (t : State) (f : Order → Order), Kept g P Q t → (∀ x, (f x).held = heldNow t o) → (∀ x, (f x).noRescue = x.noRescue) →
      Kept g P Q (Machine.updOrder o.id f t) := fun t f ht hheld hno =>
    { rule := ht.rule
      given := (updOrder_given o.id f t).trans ht.given
      orders := fun p hp => by
        obtain ⟨q, hq, rfl⟩ := List.mem_map.mp hp
        split
        · exact ht.rule.rescued ht.given ho hbar (ht.orders q hq) (hheld q) (hno q)
        · exact ht.orders q hq
      prot := ht.prot }
  unfold Machine.rescue
  dsimp only
  refine Kept.emit (Kept.forEach ?_ fun _ _ ht => ht.preemptFor)
  refine Kept.count ?_
  refine Kept.setFactor ?_ ho
  refine Kept.updTx (f := TxCtl.awake) ?_ fun _ => rfl
  exact hback _ _ h.noteOrder.updNote.updProt (fun _ => rfl) fun _ => rfl

theorem noRescue_of_rescueFor {o : Order} {c : Nat × Nat} (h : rescueFor s o = some c) : o.noRescue = false := by
  unfold rescueFor at h
  split at h
  next hc => simp only [Bool.and_eq_true, Bool.not_eq_true'] at hc; exact hc.1.1.1.2
  · cases h

protected theorem finishClosing (h : Kept g P Q s) {id} : Kept g P Q (finishClosing id s) := by
  unfold Machine.finishClosing
  split
  · exact h
  next o ho =>
    split
    next hc => exact h.rescue (h.of_order? ho) (noRescue_of_rescueFor hc)
    · exact h.finishOrder

protected theorem closingStep (h : Kept g P Q s) {o} : Kept g P Q (closingStep o s) := by
  have hrel : ∀ t, Kept g P Q t → Kept g P Q (match o.load with
      | none => Machine.finishClosing o.id t
      | some c =>
        if (xpAt t o.snap.tx c).state.moving then if isLocal t then t else Machine.releaseWithOpening c o t
        else Machine.finishClosing o.id (Machine.updOrder o.id (fun x => { x with load := none })
          (Machine.plainRelease c o.id t))) := by
    intro t ht
    split
    · exact ht.finishClosing
    · exact (ht.ite ht.releaseWithOpening).ite ht.plainRelease.updOrder.finishClosing
  unfold Machine.closingStep
  refine h.refreshMove.ite ?_
  cases o.antenna with
  | none => exact hrel _ h.refreshMove
  | some a => exact hrel _ h.refreshMove.plainRelease

protected theorem failOrder (h : Kept g P Q s) {id cause} : Kept g P Q (failOrder id cause s) := by
  unfold Machine.failOrder
  split
  · exact h
  · split
    · exact h
    · exact h.updOrder
    · exact h.updOrder.ite h.updOrder.enterClosing

/-! ### Preparation -/

protected theorem failPreparation (h : Kept g P Q s) {id cause} : Kept g P Q (failPreparation id cause s) :=
  h.updOrder.finishClosing

protected theorem askClaim (h : Kept g P Q s) {id} : Kept g P Q (askClaim id s) := by
  unfold Machine.askClaim
  dsimp only
  split
  · exact h.updOrder.emit.ite h.updOrder.requestClaim
  · exact h.updOrder

protected theorem askSlew (h : Kept g P Q s) {o} : Kept g P Q (askSlew o s) := by
  unfold Machine.askSlew
  split
  · exact h
  · split
    · exact h.updOrder.requestSlew.ite h
    · exact h

protected theorem beginSearch (h : Kept g P Q s) {o} : Kept g P Q (beginSearch o s) := by
  have hload : ∀ t, Kept g P Q t → Kept g P Q (emit .offerLoads (joinLoadWait o (Machine.setWork o.id (fun w => { w with load := true }) t))) :=
    fun _ ht => ht.setWork.joinLoadWait.emit
  unfold Machine.beginSearch
  dsimp only
  split
  · split
    · exact hload _ h.updOrder.releaseWithOpening
    · exact hload _ h
  · exact hload _ h

/-! ### The steps of an order beyond STAGED and short of CLOSING -/

section moving
variable {w : Order} (hp : P w) (hw : w.stage ≠ .closing)
include hp hw

protected theorem enterClearing (h : Kept g P Q s) {id} : Kept g P Q (enterClearing id s) := (h.setStage hp hw).emit
protected theorem enterRouting (h : Kept g P Q s) {id} : Kept g P Q (enterRouting id s) := (h.setStage hp hw).emit
protected theorem enterPoised (h : Kept g P Q s) {id} : Kept g P Q (enterPoised id s) := (h.setStage hp hw).emit

protected theorem enterWarming (h : Kept g P Q s) {id n} : Kept g P Q (enterWarming id n s) := (h.setStage hp hw).setWork.requestWarmUp

protected theorem enterRecovering (h : Kept g P Q s) {id cause} : Kept g P Q (enterRecovering id cause s) :=
  (h.setStage hp hw).updOrder

protected theorem enterProving (h : Kept g P Q s) {id} : Kept g P Q (enterProving id s) := by
  unfold Machine.enterProving
  split
  · exact h
  · exact (((h.setStage hp hw).updOrder.dropRecovery hp).updProt_of hp).carrierOn

protected theorem enterTuning (h : Kept g P Q s) {id} : Kept g P Q (enterTuning id s) := by
  have hs : Kept g P Q (Machine.updOrder id (fun x => { x with tuneDone := false }) (Machine.setStage id .tuning s)) :=
    (h.setStage hp hw).updOrder
  unfold Machine.enterTuning
  dsimp only
  split
  · exact hs
  · split
    · exact hs.emit
    · refine hs.emit.ite ?_
      split
      · exact hs.setWork.startPreset
      · exact hs.updOrder.count.beginSearch
      · exact hs.beginSearch
      · exact hs.emit.ite hs.setWork.startMode

protected theorem beginPreparation (h : Kept g P Q s) {id} : Kept g P Q (beginPreparation id s) := by
  unfold Machine.beginPreparation
  split
  · exact h
  next o _ =>
    have hs : Kept g P Q (Machine.setFactor o.snap.tx 1000 (some id) none .preparation (noteOrder id s)) :=
      h.noteOrder.setFactor hp
    dsimp only
    split
    · exact hs.failPreparation
    · exact hs.failPreparation
    · split
      · exact hs.failPreparation
      · have hclaim : ∀ t p, [Decidable p] → Kept g P Q t → Kept g P Q (if p then t else Machine.askClaim id t) :=
          fun t p _ ht => ht.ite ht.askClaim
        refine Kept.ite (Kept.enterWarming hp hw (hclaim _ _ ?_)) (Kept.enterClearing hp hw (hclaim _ _ ?_)) <;>
          exact hs.updOrder.countTuneKind

omit hp hw in
protected theorem clearColumn (h : Kept g P Q s) {o c} : Kept g P Q (clearColumn o c s) := h.updOrder.releaseWithOpening.ite h.requestMove

protected theorem clearingStep (h : Kept g P Q s) {o} : Kept g P Q (clearingStep o s) := by
  have hclear : ∀ t l, Kept g P Q t → Kept g P Q (Machine.refreshMove o.id (Machine.forEach l (Machine.clearColumn o) t)) :=
    fun t l ht => (ht.forEach fun _ _ hu => hu.clearColumn).refreshMove
  refine h.emit.ite (Kept.ite (Kept.ite (Kept.enterRouting hp hw (hclear _ _ ?_)) (Kept.enterTuning hp hw (hclear _ _ ?_)))
    (hclear _ _ ?_)) <;>
    exact h.setWork.carrierOffRequest.ite h

protected theorem tuneComplete (h : Kept g P Q s) {o} : Kept g P Q (tuneComplete o s) :=
  h.askClaim.ite ((h.enterRouting hp hw).ite h)

protected theorem tuningStep (h : Kept g P Q s) {o} : Kept g P Q (tuningStep o s) := by
  have hs : Kept g P Q (Machine.refreshMove o.id s) := h.refreshMove
  unfold Machine.tuningStep
  refine hs.ite (Kept.ite ?_ (hs.ite ?_))
  · split
    · exact hs
    · split
      · exact hs.setWork.startSearch.ite hs.setWork.startSearch.holdSearch
      · exact hs.setWork.requestMove
      · exact hs
  · split
    · exact hs.releaseWithOpening
    · exact hs.tuneComplete hp hw

protected theorem routingStep (h : Kept g P Q s) {o} : Kept g P Q (routingStep o s) := by
  unfold Machine.routingStep
  dsimp only
  split
  · exact h.refreshMove
  · exact (h.refreshMove.ite (h.refreshMove.enterPoised hp hw)).ite (h.refreshMove.ite h.refreshMove.setWork.requestMove)

protected theorem poisedStep (h : Kept g P Q s) {o} : Kept g P Q (poisedStep o s) := (h.enterProving hp hw).ite h

protected theorem tripOrder (h : Kept g P Q s) {o k d} : Kept g P Q (tripOrder o k d s) := by
  have hnot : Kept g P Q (tripNotTaken o.snap.tx (some o.id) (some o.stage) k d s) := by
    unfold tripNotTaken
    exact h.ite ((h.setFactor hp).ite h).updProt.tripReport.tripFault
  have hnoted : Kept g P Q (noteTrip o.snap.tx k (carrierOffRequest o.snap.tx none s)) := h.carrierOffRequest.updProt_of hp
  unfold Machine.tripOrder
  refine hnot.ite (Kept.count (Kept.tripFault (Kept.tripReport (Kept.updProt_of (Kept.enterRecovering hp hw
    (Kept.updOrder (Kept.updTx ?_ fun x => ?_))) hp))))
  · split
    · exact hnoted.setFactor hp
    · exact hnoted
  · split <;> rfl

end moving

protected theorem blockedStep (h : Kept g P Q s) {o} : Kept g P Q (blockedStep o s) := h.emit.ite h

protected theorem advance (h : Kept g P Q s) {id} : Kept g P Q (advance id s) := by
  unfold Machine.advance
  split
  · exact h
  next o ho =>
    have hp := h.of_order? ho
    split
    next hst => exact (h.beginPreparation hp (by rw [hst]; exact nofun)).ite h
    · exact h.closingStep
    next hclosing =>
      refine h.blockedStep.ite (h.ite ?_)
      dsimp only
      split
      · exact h.askSlew
      · split
        · exact h.askSlew.ite (h.askSlew.enterClearing hp hclosing)
        · exact h.askSlew.clearingStep hp hclosing
        · exact h.askSlew.tuningStep hp hclosing
        · exact h.askSlew.routingStep hp hclosing
        · exact h.askSlew.poisedStep hp hclosing
        · exact h.askSlew

protected theorem claimGranted (h : Kept g P Q s) {id} : Kept g P Q (claimGranted id s) := h.updOrder.advance
protected theorem claimFailed (h : Kept g P Q s) {id} : Kept g P Q (claimFailed id s) := h.setWork.failOrder
protected theorem tuneEnded (h : Kept g P Q s) {id ok} : Kept g P Q (tuneEnded id ok s) := h.updOrder.advance.ite h.failOrder.advance

protected theorem moveEnded (h : Kept g P Q s) {who col ok} : Kept g P Q (moveEnded who col ok s) := by
  unfold Machine.moveEnded
  split
  · exact h.refreshMove.emit.ite h.refreshMove.failOrder.emit
  next id =>
    have hload : ∀ t, Kept g P Q t → Kept g P Q ((if col ≤ 32 then (fun t => t)
        else Machine.updOrder id (fun x => { x with load := none })) t) := by
      intro t ht
      split
      · exact ht
      · exact ht.updOrder
    have hrel : Kept g P Q (if ok then (if col ≤ 32 then (fun t => t)
        else Machine.updOrder id (fun x => { x with load := none })) (plainRelease col id s) else s) :=
      (hload _ h.plainRelease).ite h
    exact hrel.refreshMove.emit.ite hrel.refreshMove.failOrder.emit
  next id =>
    refine h.ite (Kept.offerWaiters (Kept.claimFailed (Kept.settleColumn (h.updDir fun d => ?_))))
    split <;> rfl
  · exact h

/-! ### Results of commands -/

protected theorem filamentResult (h : Kept g P Q s) {n on serial r} : Kept g P Q (filamentResult n on serial r s) := by
  have hcool : ∀ c, [Decidable c] → Kept g P Q (if c then updTx n (fun x => { x with coolDown := .none }) s else s) :=
    fun _ _ => h.updTx.ite h
  unfold Machine.filamentResult
  dsimp only
  split
  · exact (h.setTxState.ite h).updTx.ite (h.setTxState.ite h)
  · exact h.warmUpFailed.ite h
  · split
    · exact (hcool _).filamentOffAcked
    · exact (hcool _).updTx.ite (hcool _)

protected theorem modeResult (h : Kept g P Q s) {n m serial r} : Kept g P Q (modeResult n m serial r s) := by
  unfold Machine.modeResult
  refine h.setMode.ite ?_
  split <;> exact h.setMode.tuneResult

protected theorem presetResult (h : Kept g P Q s) {n m serial r} : Kept g P Q (presetResult n m serial r s) := by
  unfold Machine.presetResult
  refine h.setMode.ite ?_
  split
  · exact h.setMode.tuneAcked
  · exact h.setMode.presetFail
  · exact h.setMode.presetFail

protected theorem searchResult (h : Kept g P Q s) {n m serial r} : Kept g P Q (searchResult n m serial r s) := by
  unfold Machine.searchResult
  refine h.setMode.ite ?_
  split
  · exact h.setMode.tuneAcked
  · exact h.setMode.searchFail

protected theorem positionsResult (h : Kept g P Q s) {n serial r} : Kept g P Q (positionsResult n serial r s) := by
  unfold Machine.positionsResult
  split
  · exact h
  · refine h.ite ?_
    split
    · exact h.setPreset.tuneResult.ite h.searchFail
    · exact h.searchFail

theorem not_closing_of_carrierOrder {n : Nat} {o : Order} (ho : carrierOrder? s n = some o) : o.stage ≠ .closing := by
  intro hst
  have hc := List.find?_some ho
  simp [hst, Stage.carrier] at hc

protected theorem carrierOnResult (h : Kept g P Q s) {n level serial r} : Kept g P Q (carrierOnResult n level serial r s) := by
  have hs : ∀ c, [Decidable c] → Kept g P Q (if c then updTx n (fun x => { x with carrier := none }) s else s) :=
    fun _ _ => h.updTx.ite h
  unfold Machine.carrierOnResult
  dsimp only
  split
  · exact (hs _).updProt
  · split
    next o ho => exact ((hs _).tripOrder ((hs _).orders o (List.mem_of_find?_eq_some ho)) (not_closing_of_carrierOrder ho)).ite (hs _)
    · exact hs _
  · exact hs _

protected theorem slewResult (h : Kept g P Q s) {a serial r} : Kept g P Q (slewResult a serial r s) := by
  unfold Machine.slewResult
  split
  · exact h
  · exact h.failSlew.ite h
  · exact h

protected theorem commandResult (h : Kept g P Q s) {c r} : Kept g P Q (commandResult c r s) := by
  unfold Machine.commandResult
  split
  · exact h.filamentResult
  · exact h.modeResult
  · exact h.presetResult
  · exact h.searchResult
  · exact h.positionsResult
  · exact h.carrierOnResult
  · exact h.keep
  · exact h.keep
  · exact h.keep
  · exact h.slewResult
  · exact h

protected theorem unitSilent (h : Kept g P Q s) {k owner} : Kept g P Q (unitSilent k owner s) := by
  unfold Machine.unitSilent
  split
  · split
    · exact h.beginBlind.ite h.goOffline
    · exact h.goOffline
  · exact h
  · split
    · exact h.failSlew.ite h
    · exact h

/-! ### The messages between the blocks -/

protected theorem handle (h : Kept g P Q s) {m} : Kept g P Q (handle m s) := by
  unfold Machine.handle
  split
  · exact h.advance
  · exact h.failOrder
  · exact h.claimGranted
  · exact h.claimFailed
  · exact h.moveEnded
  · exact h.keep
  · exact h.offerLoads
  · exact h.commandResult
  · exact h.keep
  · exact h.unitSilent
  · exact h.keep
  · exact h.tuneEnded
  · split
    · exact h.advance
    · exact h

protected theorem drain (h : Kept g P Q s) {fuel} : Kept g P Q (drain fuel s) := by
  induction fuel generalizing s with
  | zero => exact h
  | succ k ih =>
    unfold Machine.drain
    split
    · exact h
    · exact ih (Kept.handle (h.onAgenda (f := fun _ => _)))

protected theorem rest (h : Kept g P Q s) : Kept g P Q (rest s) := h.drain.onAgenda

end Kept
end Sys2Proof.Machine
end

section
/-! PROOFS. RESTART ORDERLY and RESTART IMMEDIATE (O58). -/

set_option Elab.async false

namespace Sys2Proof.Machine

/-! ### The cancelling of every order (R97) -/

theorem stages_of_tenure {s t : State} (h : t.tenure = s.tenure) : t.stages = s.stages := by
  unfold State.stages; rw [chg_of_tenure h]

@[simp] theorem dropRequesters_stages (p) (s : State) : (dropRequesters p s).stages = s.stages := rfl
@[simp] theorem takeState_stages (n) (s : State) : (takeState n s).stages = s.stages := by
  unfold takeState
  split
  · exact goOffline_stages n s
  · dsimp only
    split <;> rfl
  · rfl
@[simp] theorem endSearch_stages (n) (s : State) : (endSearch n s).stages = s.stages := by
  unfold endSearch takeStateIfTuning; split <;> simp
@[simp] theorem dropRecovery_stages (n id) (s : State) : (dropRecovery n id s).stages = s.stages := by
  unfold dropRecovery leaveTripped; (repeat' split) <;> simp
@[simp] theorem carrierOffRequest_stages (n who) (s : State) : (carrierOffRequest n who s).stages = s.stages :=
  stages_of_tenure (carrierOffRequest_tenure s n who)

theorem stages_of_order?_none {s : State} {id : Nat} (h : order? s id = none) : ∀ k ∈ s.stages, k.1 ≠ id := by
  have hne : ∀ o ∈ s.chg.orders, o.id ≠ id := by simpa [order?] using h
  rintro _ hk
  obtain ⟨o, ho, rfl⟩ := List.mem_map.mp hk
  exact hne o ho

/-- An order that leaves the table takes its stage with it, and no other order's changes (R69). -/
theorem finishOrder_stages (id : Nat) (out : OrderOutcome) (s : State) :
    (finishOrder id out s).stages = s.stages.filter (fun k => k.1 != id) := by
  have hgone : ∀ t : State, t.stages = s.stages →
      (t.onChg (fun c => { c with orders := c.orders.filter (fun p => p.id != id) })).stages = s.stages.filter (fun k => k.1 != id) := by
    rintro t ht
    rw [← ht]
    simp [State.stages, State.onChg, List.filter_map, Function.comp_def]
  unfold finishOrder
  split
  next hnone => exact (List.filter_eq_self.mpr fun k hk => by simpa using stages_of_order?_none hnone k hk).symm
  next =>
    dsimp only
    rw [forEach_stages _ (by simp), forEach_stages _ (by simp), countOutcome_stages]
    refine hgone _ ?_
    split <;> simp

/-- An order that enters CLOSING changes no other order's stage (R93). -/
theorem enterClosing_stages {id : Nat} {o : Order} (out : OrderOutcome) {s : State} (ho : order? s id = some o)
    (hst : o.stage ≠ .closing) :
    (enterClosing id out s).stages = s.stages.map (fun k => if k.1 = id then (k.1, .closing) else k) := by
  have hupd : ∀ (f : Order → Order) (t : State), (∀ p, ((f p).id, (f p).stage) = (p.id, p.stage)) →
      (updOrder id f t).stages = t.stages := fun f t hf => updOrder_stages_of hf t
  unfold enterClosing
  rw [ho]
  dsimp only
  rw [if_neg hst]
  (repeat' split) <;> simp [hupd, setStage_stages]

theorem enterClosing_of_closing {id : Nat} {o : Order} (out : OrderOutcome) {s : State} (ho : order? s id = some o)
    (hst : o.stage = .closing) : enterClosing id out s = s := by
  unfold enterClosing
  rw [ho]
  exact if_pos hst

/-- The ids of the table and their stages: no two orders have the same id. -/
def State.idsApart (s : State) : Prop := (s.stages.map Prod.fst).Nodup

/-- A cancelled order is in CLOSING or gone; the other orders keep their stages (R89, R97). -/
theorem conclude_stages {id : Nat} {out : OrderOutcome} {s : State} (hn : s.idsApart) :
    (conclude id out s).idsApart ∧ ∀ k ∈ (conclude id out s).stages, k.2 = .closing ∨ k ∈ s.stages ∧ k.1 ≠ id := by
  unfold conclude
  split
  next hnone => exact ⟨hn, fun k hk => .inr ⟨hk, stages_of_order?_none hnone k hk⟩⟩
  next o ho =>
    split
    · unfold State.idsApart
      rw [finishOrder_stages]
      refine ⟨hn.sublist (List.filter_sublist.map _), fun k hk => ?_⟩
      obtain ⟨hk, hne⟩ := List.mem_filter.mp hk
      exact .inr ⟨hk, by simpa using hne⟩
    · by_cases hst : o.stage = .closing
      · rw [enterClosing_of_closing out ho hst]
        refine ⟨hn, fun k hk => ?_⟩
        obtain ⟨hmem, hid⟩ := order?_mem ho
        by_cases hkid : k.1 = id
        · have he : k = (o.id, o.stage) := List.inj_on_of_nodup_map hn hk (List.mem_map_of_mem hmem) (hkid.trans hid.symm)
          exact .inl (he ▸ hst)
        · exact .inr ⟨hk, hkid⟩
      · unfold State.idsApart
        rw [enterClosing_stages out ho hst]
        constructor
        · have hids : (fun k : Nat × Stage => (if k.1 = id then (k.1, .closing) else k).1) = Prod.fst := by
            funext k; split <;> rfl
          rw [List.map_map]
          exact (congrArg (fun f => (s.stages.map f).Nodup) hids).mpr hn
        · intro k hk
          obtain ⟨j, hj, rfl⟩ := List.mem_map.mp hk
          split
          · exact .inl rfl
          next hne => exact .inr ⟨hj, hne⟩

/-- Once every id has been cancelled, every order left is in CLOSING. -/
theorem forEach_conclude_stages {out : OrderOutcome} {ids : List Nat} {s : State} (hn : s.idsApart)
    (h : ∀ k ∈ s.stages, k.2 = .closing ∨ k.1 ∈ ids) : ∀ k ∈ (forEach ids (fun id => conclude id out) s).stages, k.2 = .closing := by
  induction ids generalizing s with
  | nil => exact fun k hk => (h k hk).resolve_right List.not_mem_nil
  | cons id ids ih =>
    obtain ⟨hn', hs⟩ := conclude_stages (id := id) (out := out) hn
    refine ih hn' fun k hk => ?_
    obtain hc | ⟨hk', hne⟩ := hs k hk
    · exact .inl hc
    · exact (h k hk').imp_right fun hm => (List.mem_cons.mp hm).resolve_left hne

/-! ### The rules of the restarts -/

/-- No order is rescued. -/
theorem orderRule_noRescue (g : Given) : OrderRule g (fun o => o.noRescue = true) (fun _ => True) where
  same ho _ hno _ := hno.trans ho
  moved _ _ hp _ hno := hno.trans hp
  rescued _ ho hno _ _ _ := absurd (ho.symm.trans hno) nofun
  standing _ _ := trivial
  free _ _ := trivial

/-- Every order is in CLOSING and is not rescued. -/
theorem orderRule_closed (g : Given) : OrderRule g (fun o => o.stage = .closing ∧ o.noRescue = true) (fun _ => True) where
  same ho _ hno hst := ⟨hst.trans ho.1, hno.trans ho.2⟩
  moved ho hst _ _ _ := absurd ho.1 hst
  rescued _ ho hno _ _ _ := absurd (ho.2.symm.trans hno) nofun
  standing _ _ := trivial
  free _ _ := trivial

/-- The protection record holds nothing of an order (R168). -/
def ProtRec.clear (p : ProtRec) : Prop := p.factor = 1000 ∧ p.trips = [] ∧ p.base = none ∧ p.recovery = none

/-- There is no order, and no protection record holds anything of one. -/
theorem orderRule_empty (g : Given) : OrderRule g (fun _ => False) ProtRec.clear where
  same ho := ho.elim
  moved ho := ho.elim
  rescued _ ho := ho.elim
  standing := by
    rintro p q ⟨hf, ht, hb, hr⟩ he
    simp only [ProtRec.standing, Prod.mk.injEq] at he
    obtain ⟨hf', hb', ht', hr'⟩ := he
    exact ⟨hf'.trans hf, ht'.trans ht, hb'.trans hb, hr'.trans hr⟩
  free ho := ho.elim

/-! ### RESTART ORDERLY -/

/-- The cancelling leaves orders in CLOSING that are not rescued (R97). -/
theorem cancelAll_closed {s : State} (hn : (s.chg.orders.map (·.id)).Nodup) :
    ∀ o ∈ (cancelAll s).chg.orders, o.stage = .closing ∧ o.noRescue = true := by
  have hbarred : ∀ t : State, (t.onChg (fun c => { c with orders := c.orders.map (fun o => { o with noRescue := true }) })).stages = t.stages :=
    fun t => by simp [State.stages, State.onChg, Function.comp_def]
  have hids : ∀ t : State, t.idsApart ↔ (t.chg.orders.map (·.id)).Nodup := fun t => by
    unfold State.idsApart State.stages; rw [List.map_map]; rfl
  intro o ho
  unfold cancelAll at ho
  dsimp only at ho
  set t := forEach (idsWhere s (fun o => o.preempting.isSome)) (fun id => setMark id none) s with htdef
  have ht : t.stages = s.stages := forEach_stages s (by simp)
  have hapart : t.idsApart := by unfold State.idsApart; rw [ht]; exact (hids s).mpr hn
  set u := t.onChg (fun c => { c with orders := c.orders.map (fun o => { o with noRescue := true }) }) with hudef
  have hu : u.stages = t.stages := hbarred t
  constructor
  · refine forEach_conclude_stages (s := u) (by unfold State.idsApart; rw [hu]; exact hapart) (fun k hk => .inr ?_) (o.id, o.stage)
      (List.mem_map_of_mem ho)
    rw [hu] at hk
    obtain ⟨p, hp, rfl⟩ := List.mem_map.mp hk
    exact List.mem_map_of_mem (List.mem_filter.mpr ⟨hp, rfl⟩)
  · have hkept : Kept u.given (fun o => o.noRescue = true) (fun _ => True) u :=
      { rule := orderRule_noRescue _, given := rfl, prot := fun _ _ => trivial
        orders := fun p hp => by obtain ⟨q, -, rfl⟩ := List.mem_map.mp hp; rfl }
    exact (hkept.forEach (f := fun id => conclude id .cancelled) fun _ _ h => h.conclude).orders o ho

/-- Setting the factor of every transmitter in turn leaves no other factor (R168). -/
theorem factor_of_forEach_setFactor {v : Nat} {cause : FoldCause} {l : List Nat} {s : State}
    (h : ∀ i p, s.prot[i]? = some p → p.factor = v ∨ i + 1 ∈ l) :
    ∀ p ∈ (forEach l (fun n => setFactor n v none none cause) s).prot, p.factor = v := by
  induction l generalizing s with
  | nil =>
    intro p hp
    obtain ⟨i, hi⟩ := List.mem_iff_getElem?.mp hp
    exact (h i p hi).resolve_right List.not_mem_nil
  | cons n l ih =>
    obtain ⟨f, hprot, hf⟩ := setFactor_prot n v none none cause s
    refine ih fun i p hp => ?_
    rw [hprot] at hp
    unfold updNth at hp
    by_cases hn : n = 0
    · rw [if_pos hn] at hp
      exact (h i p hp).imp_right fun hm => (List.mem_cons.mp hm).resolve_left (by omega)
    · rw [if_neg hn, List.getElem?_modify] at hp
      by_cases hi : n - 1 = i
      · simp only [if_pos hi] at hp
        obtain ⟨q, hq, rfl⟩ := Option.map_eq_some_iff.mp hp
        have hrec : protRec s n = q := by unfold protRec nth; rw [if_neg hn, hi, hq]; rfl
        exact .inl (hrec ▸ hf)
      · simp only [if_neg hi, Option.map_eq_map, Option.map_id'] at hp
        exact (h i p hp).imp_right fun hm => (List.mem_cons.mp hm).resolve_left (by omega)

theorem chg_forEach_setFactor {v : Nat} {cause : FoldCause} (l : List Nat) (s : State) :
    (forEach l (fun n => setFactor n v none none cause) s).chg = s.chg :=
  forEach_keeps State.chg _ _ _ fun n t => by unfold setFactor; dsimp only; (repeat' split) <;> rfl

theorem hallReport_prot (k) (s : State) : (hallReport k s).prot = s.prot := rfl

/-- The second part of RESTART ORDERLY: the deferred set is dropped, and the protection reset (R61, R168). -/
def resetStanding (gone : List Deferred) (s : State) : State :=
  s.onStaging (fun g => { g with deferred := [] })
  |> forEach gone (fun d => stagingReport d.bank d.entry d.start .droppedRestart)
  |> forEach (upTo 16) (fun n => setFactor n 1000 none none .reset)
  |> State.onProt (List.map (fun p => { p.restarted with reported := 1000 }))

theorem restartOrderly_eq (s : State) : restartOrderly s =
    if isAuto s then
      hallReport .restartOrderly (resetStanding s.staging.deferred (flushOrders (rest (cancelAll (restartClock s)))))
    else resetStanding s.staging.deferred (flushOrders (rest (cancelAll (restartClock s)))) := rfl

theorem resetStanding_given (gone : List Deferred) (s : State) :
    (resetStanding gone s).given = { s.given with staging := { s.staging with deferred := [] } } := by
  unfold resetStanding
  rw [onProt_given _ _ (by simp), forEach_given _ _ _ (by simp), forEach_given _ _ _ (by simp [stagingReport])]
  rfl

theorem resetStanding_chg (gone : List Deferred) (s : State) : (resetStanding gone s).chg = s.chg := by
  have hreport : ∀ d : Deferred, ∀ t : State, (stagingReport d.bank d.entry d.start .droppedRestart t).chg = t.chg := fun _ _ => rfl
  unfold resetStanding
  rw [onProt_chg, chg_forEach_setFactor, forEach_keeps State.chg _ _ _ hreport, onStaging_chg]

/-- The reset leaves nothing of an order in a protection record (R168). -/
theorem resetStanding_prot {gone : List Deferred} {s : State} (hlen : s.prot.length = 16) :
    ∀ p ∈ (resetStanding gone s).prot, p.clear := by
  have hreport : ∀ d : Deferred, ∀ t : State, (stagingReport d.bank d.entry d.start .droppedRestart t).prot = t.prot :=
    fun _ _ => rfl
  intro p hp
  unfold resetStanding at hp
  rw [onProt_prot] at hp
  obtain ⟨q, hq, rfl⟩ := List.mem_map.mp hp
  refine ⟨factor_of_forEach_setFactor (fun i p hi => .inr ?_) q hq, rfl, rfl, rfl⟩
  rw [forEach_keeps State.prot _ _ _ hreport, onStaging_prot] at hi
  obtain ⟨hlt, -⟩ := List.getElem?_eq_some_iff.mp hi
  exact mem_upTo.mpr ⟨by omega, by omega⟩

/-- What both restarts leave of the state (R58, R67, R97, R168). -/
structure Cleared (s u : State) : Prop where
  given : u.given = { s.given with
    clock := { s.clock with enable := false }
    staging := { deferred := [], through := s.clock.time.or s.staging.through } }
  prot : ∀ p ∈ u.prot, p.clear

theorem Cleared.hallReport {s u : State} (h : Cleared s u) {k} : Cleared s (hallReport k u) :=
  ⟨(hallReport_given k u).trans h.given, by rw [hallReport_prot]; exact h.prot⟩

theorem restartClock_through (s : State) : (restartClock s).staging.through = s.clock.time.or s.staging.through := by
  show (if s.clock.time.isSome then s.clock.time else s.staging.through) = _
  cases s.clock.time <;> rfl

theorem restartClock_given (s : State) : { (restartClock s).given with staging := { (restartClock s).staging with deferred := [] } } =
    { s.given with
      clock := { s.clock with enable := false }
      staging := { deferred := [], through := s.clock.time.or s.staging.through } } := by
  rw [← restartClock_through]
  rfl

/-- RESTART ORDERLY up to the reset of the protection. -/
theorem cancelled_given (s : State) : (flushOrders (rest (cancelAll (restartClock s)))).given = (restartClock s).given := by simp

theorem restartOrderly_cleared {s : State} (hlen : s.prot.length = 16) : Cleared s (restartOrderly s) := by
  have hg := cancelled_given s
  have hreset : ∀ gone t, t.given = (restartClock s).given → Cleared s (resetStanding gone t) := fun gone t ht =>
    { prot := resetStanding_prot ((congrArg (fun g : Given => g.outer.sizes.prot) ht).trans hlen)
      given := by
        rw [resetStanding_given, ← restartClock_given, ht, show t.staging = (restartClock s).staging from congrArg Given.staging ht] }
  rw [restartOrderly_eq]
  split
  · exact (hreset _ _ hg).hallReport
  · exact hreset _ _ hg

/-- The orders that RESTART ORDERLY leaves close and are not rescued (R97). -/
theorem restartOrderly_orders {s : State} (hn : (s.chg.orders.map (·.id)).Nodup) :
    ∀ o ∈ (restartOrderly s).chg.orders, o.stage = .closing ∧ o.noRescue = true := by
  have hkept : Kept (cancelAll (restartClock s)).given (fun o => o.stage = .closing ∧ o.noRescue = true) (fun _ => True)
      (cancelAll (restartClock s)) :=
    { rule := orderRule_closed _, given := rfl, orders := cancelAll_closed hn, prot := fun _ _ => trivial }
  have hreset : ∀ gone, (resetStanding gone (flushOrders (rest (cancelAll (restartClock s))))).chg =
      (rest (cancelAll (restartClock s))).chg := fun gone =>
    (resetStanding_chg gone _).trans (chg_of_tenure (flushOrders_tenure _))
  have hchg : (restartOrderly s).chg = (rest (cancelAll (restartClock s))).chg := by
    rw [restartOrderly_eq]
    split
    · exact (chg_of_tenure (hallReport_tenure _ _)).trans (hreset _)
    · exact hreset _
  rw [hchg]
  exact hkept.rest.orders

/-! ### RESTART IMMEDIATE -/

theorem TxCtl.restarted_memory (x : TxCtl) : x.restarted.memory = x.memory := rfl

/-- RESTART IMMEDIATE before its messages are taken. -/
def discard (s : State) : State :=
  restartClock s |> State.onStaging (fun g => { g with deferred := [] })
  |> State.onChg (fun c => { c with orders := [] })
  |> State.onNotes (fun _ => [])
  |> releaseAll
  |> State.onProt (List.map (fun p => { p.restarted with factor := 1000, reported := 1000 }))
  |> State.onTx (List.map TxCtl.restarted)

theorem restartImmediate_eq (s : State) : restartImmediate s =
    emit .offerLoads (hallReport .restartImmediate (forEach (upTo 16)
      (fun n => restartTx (((upTo 16).filter (searching s)).contains n) n) (rest (failCmds (fun _ => true) (discard s))))) := rfl

theorem releaseAll_given (s : State) : (releaseAll s).given = s.given := by
  have hwaits : (releaseWaits s).given = s.given := by
    unfold releaseWaits
    rw [onMx_given _ _ (by simp [Function.comp_def]) (by simp), onDir_given _ _ (by simp [Function.comp_def])]
  rw [releaseAll_eq, forEach_given _ _ _ (eq_true fun c t => updDir_given _ _ _ (by simp)), hwaits]

theorem discard_given (s : State) : (discard s).given = { s.given with
    clock := { s.clock with enable := false }
    staging := { deferred := [], through := s.clock.time.or s.staging.through } } := by
  unfold discard
  rw [onTx_given _ _ (by simp [Function.comp_def, TxCtl.restarted_memory]), onProt_given _ _ (by simp), releaseAll_given,
    ← restartClock_given]
  rfl

theorem releaseAll_chg (s : State) : (releaseAll s).chg = s.chg := by
  rw [releaseAll_eq]
  exact forEach_keeps State.chg _ _ _ fun _ _ => rfl

theorem discard_orders (s : State) : (discard s).chg.orders = [] := by
  unfold discard
  rw [onTx_chg, onProt_chg, releaseAll_chg]
  rfl

theorem discard_prot (s : State) : ∀ p ∈ (discard s).prot, p.clear := by
  intro p hp
  unfold discard at hp
  rw [onTx_prot, onProt_prot] at hp
  obtain ⟨q, -, rfl⟩ := List.mem_map.mp hp
  exact ⟨rfl, rfl, rfl, rfl⟩

/-- Once discarded, there is no order, and none in any protection record (R97, R168). -/
theorem discard_kept (s : State) : Kept (discard s).given (fun _ => False) ProtRec.clear (discard s) where
  rule := orderRule_empty _
  given := rfl
  orders := by rw [discard_orders]; exact fun _ => List.not_mem_nil
  prot := discard_prot s

protected theorem Kept.restartTx {g : Given} {P : Order → Prop} {Q : ProtRec → Prop} {s : State} (h : Kept g P Q s) {searched n} :
    Kept g P Q (restartTx searched n s) := by
  unfold Machine.restartTx
  split
  · exact h
  · exact Kept.ite (Kept.goOffline (h.takeState.ite h))
      (Kept.ite (Kept.carrierOffRequest (h.takeState.ite h)) (h.takeState.ite h))

theorem restartImmediate_kept (s : State) : Kept (discard s).given (fun _ => False) ProtRec.clear (restartImmediate s) := by
  have hrest : Kept _ _ _ (rest (failCmds (fun _ => true) (discard s))) :=
    ((discard_kept s).keep (failCmds_given _ _) (failCmds_tenure _ _)).rest
  have htx := hrest.forEach (l := upTo 16) (f := fun n => restartTx (((upTo 16).filter (searching s)).contains n) n)
    fun _ _ ht => ht.restartTx
  rw [restartImmediate_eq]
  exact (htx.keep (hallReport_given .restartImmediate _) (hallReport_tenure _ _)).emit

theorem restartImmediate_orders (s : State) : (restartImmediate s).chg.orders = [] :=
  List.eq_nil_iff_forall_not_mem.mpr fun o ho => (restartImmediate_kept s).orders o ho

theorem restartImmediate_cleared (s : State) : Cleared s (restartImmediate s) :=
  ⟨(restartImmediate_kept s).given.trans (discard_given s), (restartImmediate_kept s).prot⟩

/-! ### The two requests -/

/-- Settles O58: the messages after the cancelling keep every order in CLOSING and unrescued, since only an order that is not in
CLOSING or may be rescued could change that; after RESTART IMMEDIATE there is no order left to change anything. -/
theorem aRestartClearsTheOrders : Obligations.ARestartClearsTheOrders := by
  unfold Obligations.ARestartClearsTheOrders
  intro tag s hrun hwhole hstore hn
  have hbusy : storeBusy s = false := storeBusy_eq_false hstore
  have hcleared : ∀ u, Cleared s u → u.given.outer = s.given.outer ∧ u.clock = { s.clock with enable := false } ∧
      u.banks = s.banks ∧ u.staging.deferred = [] ∧ u.staging.through = s.clock.time.or s.staging.through ∧
      ∀ p ∈ u.prot, p.factor = 1000 ∧ p.trips = [] ∧ p.base = none ∧ p.recovery = none := by
    intro u ⟨hg, hp⟩
    have hclock : u.clock = _ := congrArg Given.clock hg
    have hbanks : u.banks = _ := congrArg Given.banks hg
    have hstaging : u.staging = _ := congrArg Given.staging hg
    exact ⟨by rw [hg], hclock, hbanks, by rw [hstaging], by rw [hstaging], hp⟩
  refine ⟨fun hlocal => ?_, fun hremote => ?_, restartImmediate s, ?_, hcleared _ (restartImmediate_cleared s),
    restartImmediate_orders s⟩
  · unfold exec execRestartOrderly request
    simp [hrun.1, checks, hbusy, isLocal, hlocal, refusal]
  · refine ⟨restartOrderly s, ?_, hcleared _ (restartOrderly_cleared hwhole.prot_length), restartOrderly_orders hn⟩
    have hrestart : exec (.restartOrderly tag) s = .next (okReply 0x49 tag
        (.restarted (idsWhere s (fun o => o.stage != .closing)).length) (settle (restartOrderly s))) := by
      unfold exec execRestartOrderly
      refine request_accepted (u := restartOrderly s) (data := fun _ => .restarted (idsWhere s (fun o => o.stage != .closing)).length)
        hrun.1 (checks_pass ?_)
      simp [hbusy, isLocal, hremote]
    rw [hrestart, idsWhere, List.length_map]
  · unfold exec execRestartImmediate
    refine request_accepted (u := restartImmediate s) (data := fun _ => .restarted s.chg.orders.length) hrun.1 (checks_pass ?_)
    simp [hbusy]

end Sys2Proof.Machine
end

section
/-! PROOFS. What staging adds to the Order Table (O35, O37): it sends no message, keeps every live order but its mark, and in AUTO
adds no order that is HELD. -/

set_option Elab.async false

namespace Sys2Proof.Machine

theorem isAuto_of_undeferred {s t : State} (h : t.undeferred = s.undeferred) : isAuto t = isAuto s := by
  have hkey : t.pins.key = s.pins.key := congrArg (fun g : Given => g.outer.key) h
  unfold isAuto
  rw [hkey, clock_of_undeferred h]

theorem isLocal_of_isAuto {s : State} (h : isAuto s = true) : isLocal s = false := by
  unfold isAuto at h
  unfold isLocal
  simp only [Bool.and_eq_true, beq_iff_eq] at h
  rw [h.1.1]
  rfl

/-- In AUTO no order is created HELD (R54). -/
theorem heldNow_of_isAuto {s : State} (h : isAuto s = true) (o : Order) : heldNow s o = false := by
  unfold heldNow
  rw [isLocal_of_isAuto h, h]
  simp

/-! ### The messages -/

@[simp] theorem noteOrder_agenda (id) (s : State) : (noteOrder id s).agenda = s.agenda := by
  unfold noteOrder; (repeat' split) <;> rfl
@[simp] theorem setMark_agenda (id m) (s : State) : (setMark id m s).agenda = s.agenda := noteOrder_agenda id s
@[simp] theorem markFor_agenda (c id o) (s : State) : (markFor c id o s).agenda = s.agenda := by
  unfold markFor
  split
  · split <;> simp
  · simp
@[simp] theorem informCoolDown_agenda (n) (s : State) : (informCoolDown n s).agenda = s.agenda := by
  unfold informCoolDown cancelCoolDown; split <;> rfl
@[simp] theorem stagingReport_agenda (b entry start ev) (s : State) : (stagingReport b entry start ev s).agenda = s.agenda := rfl
@[simp] theorem setHeld_agenda (v id) (s : State) : (setHeld v id s).agenda = s.agenda := by
  unfold setHeld; split
  · exact noteOrder_agenda id s
  · rfl

/-- An order is created without a message to another block (R60). -/
@[simp] theorem createOrder_agenda (c) (s : State) : (createOrder c s).agenda = s.agenda := by
  unfold createOrder
  dsimp only
  rw [onStaging_agenda, informCoolDown_agenda, forEach_keeps State.agenda _ _ _ fun _ _ => markFor_agenda ..]
  rfl

/-! ### The orders that staging adds -/

/-- `t` comes of `s` by admissions: no message is sent, the orders of `s` stay but for their marks, and in AUTO no new one is
HELD. -/
structure StagedOnto (s t : State) : Prop where
  auto : isAuto t = isAuto s
  agenda : t.agenda = s.agenda
  kept : s.unmarked ⊆ t.unmarked
  unheld : isAuto s = true → ∀ o ∈ t.unmarked, o ∈ s.unmarked ∨ o.held = false

namespace StagedOnto

variable {s t u : State}

/-- Nothing is added by what leaves the orders alone. -/
theorem of_chg (hu : t.undeferred = s.undeferred) (ha : t.agenda = s.agenda) (hc : t.chg = s.chg) : StagedOnto s t where
  auto := isAuto_of_undeferred hu
  agenda := ha
  kept := by rw [unmarked_of_chg hc]; exact fun _ ho => ho
  unheld _ o ho := .inl (unmarked_of_chg hc ▸ ho)

protected theorem refl (s : State) : StagedOnto s s := of_chg rfl rfl rfl

protected theorem trans (h : StagedOnto s t) (h' : StagedOnto t u) : StagedOnto s u where
  auto := h'.auto.trans h.auto
  agenda := h'.agenda.trans h.agenda
  kept _ ho := h'.kept (h.kept ho)
  unheld ha o ho := (h'.unheld (h.auto.trans ha) o ho).elim (h.unheld ha o) .inr

protected theorem forEach {α : Type} {l : List α} {f : α → State → State} (h : StagedOnto s t)
    (hf : ∀ a u, StagedOnto u (f a u)) : StagedOnto s (forEach l f t) := by
  unfold Machine.forEach
  induction l generalizing t with
  | nil => exact h
  | cons a l ih => exact ih (h.trans (hf a t))

theorem report (h : StagedOnto s t) {b entry start ev} : StagedOnto s (stagingReport b entry start ev t) :=
  h.trans (of_chg (stagingReport_undeferred ..) rfl rfl)

/-- A change of the deferred set adds no order. -/
theorem onDeferred (h : StagedOnto s t) {f : Staging → Staging} (hf : (f t.staging).through = t.staging.through := by rfl) :
    StagedOnto s (t.onStaging f) := h.trans (of_chg (onStaging_undeferred t hf) rfl rfl)

protected theorem createOrder {c} : StagedOnto s (createOrder c s) where
  auto := isAuto_of_undeferred (createOrder_undeferred c s)
  agenda := createOrder_agenda c s
  kept := by rw [createOrder_unmarked]; exact List.subset_append_left ..
  unheld ha o ho := by
    rw [createOrder_unmarked, List.mem_append, List.mem_singleton] at ho
    refine ho.imp_right fun he => ?_
    rw [he]
    exact heldNow_of_isAuto ha _

protected theorem admitOrder {c : Candidate} {a : Admission} (h : admitOrder c s = (a, t)) : StagedOnto s t := by
  unfold Machine.admitOrder at h
  split at h
  · obtain ⟨-, rfl⟩ := Prod.mk.inj h
    exact .refl s
  · obtain ⟨-, rfl⟩ := Prod.mk.inj h
    exact .createOrder

protected theorem deferOccurrence (h : StagedOnto s t) {d} : StagedOnto s (deferOccurrence d t) := by
  unfold Machine.deferOccurrence
  split
  · exact h
  · split
    · exact h.onDeferred.report
    · exact h.report

protected theorem stageOccurrence {d} : StagedOnto s (stageOccurrence d s) := by
  unfold Machine.stageOccurrence
  split
  next ha => exact .admitOrder ha
  next ha => exact (StagedOnto.admitOrder ha).report
  next ha => exact (StagedOnto.admitOrder ha).report
  next ha => exact (StagedOnto.admitOrder ha).deferOccurrence

protected theorem stageUnknown {d} : StagedOnto s (stageUnknown d s) := by
  unfold Machine.stageUnknown stageUnlessLive
  split
  · exact .refl s
  · split
    · exact .refl s
    · exact .stageOccurrence

protected theorem catchUp (h : StagedOnto s t) : StagedOnto s (catchUp t) := by
  refine h.forEach fun m u => (StagedOnto.refl u).forEach fun x v => ?_
  unfold catchOne
  split
  · exact .stageUnknown
  · exact .refl v

protected theorem dropTest (h : StagedOnto s t) : StagedOnto s (dropTest t) :=
  h.onDeferred.forEach fun _ u => (StagedOnto.refl u).report

protected theorem retries (h : StagedOnto s t) : StagedOnto s (retries t) := by
  refine h.forEach fun d u => ?_
  unfold retryDeferred
  dsimp only
  split
  next ha => exact (StagedOnto.admitOrder ha).onDeferred
  next ha => exact (StagedOnto.admitOrder ha).onDeferred.report
  next ha => exact (StagedOnto.admitOrder ha).onDeferred.report
  next ha => exact .admitOrder ha

/-- A scan changes the staged-through instant besides. -/
protected theorem stagingScan (h : StagedOnto s t) : StagedOnto s (stagingScan t) := by
  have hloop : StagedOnto s (forEach (minutes (scanFrom t) (now t + 60 * t.hall.par.lookAhead))
      (fun m u => forEach (startsAt t m) (fun x => stageUnknown (occurrence x.1 x.2 m)) u) t) :=
    h.forEach fun m u => (StagedOnto.refl u).forEach fun _ _ => .stageUnknown
  exact { auto := hloop.auto, agenda := hloop.agenda, kept := hloop.kept, unheld := hloop.unheld }

end StagedOnto
end Sys2Proof.Machine
end

section
/-! PROOFS. TIME-SET and AUTOMATION; the beginning of AUTO (O35). -/

set_option Elab.async false

namespace Sys2Proof.Machine

/-! ### HELD (R92) -/

theorem setHeld_orders (v : Bool) (id : Nat) (s : State) :
    (setHeld v id s).chg.orders = s.chg.orders.map (fun o => if o.id = id then { o with held := v } else o) := by
  unfold setHeld
  split
  · show (noteOrder id s).chg.orders.map _ = _
    rw [noteOrder_chg]
  · rfl

theorem forEach_setHeld_orders (v : Bool) (l : List Nat) (s : State) :
    (forEach l (setHeld v) s).chg.orders = s.chg.orders.map (fun o => if o.id ∈ l then { o with held := v } else o) := by
  induction l generalizing s with
  | nil => simp [forEach]
  | cons id l ih =>
    have hstep : forEach (id :: l) (setHeld v) s = forEach l (setHeld v) (setHeld v id s) := rfl
    rw [hstep, ih, setHeld_orders, List.map_map]
    refine List.map_congr_left fun o _ => ?_
    by_cases hid : o.id = id <;> by_cases hl : o.id ∈ l <;> simp [hid, hl]

theorem forEach_setHeld_agenda (v : Bool) (l : List Nat) (s : State) : (forEach l (setHeld v) s).agenda = s.agenda :=
  forEach_keeps State.agenda _ _ _ fun id t => setHeld_agenda v id t

theorem forEach_setHeld_given (v : Bool) (l : List Nat) (s : State) : (forEach l (setHeld v) s).given = s.given :=
  forEach_keeps State.given _ _ _ fun id t => setHeld_given v id t

/-- At the end of AUTO every scheduled order from STAGED through POISED is HELD (R92). -/
theorem endAuto_held (s : State) : ∀ o ∈ (endAuto s).chg.orders, isScheduled o = true → Stage.between .staged .poised o.stage = true →
    o.held = true := by
  intro o ho hs hst
  unfold endAuto at ho
  rw [forEach_setHeld_orders] at ho
  obtain ⟨p, hp, rfl⟩ := List.mem_map.mp ho
  have hsame : ∀ c : Prop, [Decidable c] → isScheduled p = isScheduled (if c then { p with held := true } else p) ∧
      p.stage = (if c then { p with held := true } else p).stage := fun c _ => by split <;> exact ⟨rfl, rfl⟩
  obtain ⟨h1, h2⟩ := hsame (p.id ∈ idsWhere s (fun o => isScheduled o && Stage.between .staged .poised o.stage))
  rw [← h1] at hs
  rw [← h2] at hst
  have hin : p.id ∈ idsWhere s (fun o => isScheduled o && Stage.between .staged .poised o.stage) :=
    List.mem_map_of_mem (List.mem_filter.mpr ⟨hp, by simp [hs, hst]⟩)
  rw [if_pos hin]

/-- In AUTO no message makes an order HELD: a rescue gives its order the HELD of a new one (R54, R88). -/
theorem orderRule_unheld {s : State} (h : isAuto s = true) : OrderRule s.given (fun o => o.held = false) (fun _ => True) where
  same ho hh _ _ := hh.trans ho
  moved _ _ hp hh _ := hh.trans hp
  rescued {t o _ _} ht _ _ _ hh _ := by
    rw [hh]
    exact heldNow_of_isAuto ((isAuto_of_undeferred (undeferred_of_given ht)).trans h) o
  standing _ _ := trivial
  free _ _ := trivial

/-- The first part of AUTO's beginning: HELD is cleared, and each order takes the step it is due (R92). -/
def dueSteps (s : State) : State :=
  rest (forEach (idsWhere s (fun _ => true)) (fun id => emit (.advance id))
    (forEach (idsWhere s (fun _ => true)) (setHeld false) s))

theorem dueSteps_given (s : State) : (dueSteps s).given = s.given := by
  unfold dueSteps
  rw [rest_given, forEach_keeps State.given _ _ _ fun _ _ => by rfl, forEach_setHeld_given]

theorem dueSteps_unheld {s : State} (h : isAuto s = true) : ∀ o ∈ (dueSteps s).chg.orders, o.held = false := by
  have hcleared : Kept s.given (fun o => o.held = false) (fun _ => True) (forEach (idsWhere s (fun _ => true)) (setHeld false) s) :=
    { rule := orderRule_unheld h
      given := forEach_setHeld_given ..
      orders := fun o ho => by
        rw [forEach_setHeld_orders] at ho
        obtain ⟨p, hp, rfl⟩ := List.mem_map.mp ho
        have hin : p.id ∈ idsWhere s (fun _ => true) := List.mem_map_of_mem (List.mem_filter.mpr ⟨hp, rfl⟩)
        rw [if_pos hin]
      prot := fun _ _ => trivial }
  exact (hcleared.forEach (f := fun id => emit (.advance id)) fun _ _ ht => ht.emit).rest.orders

theorem dueSteps_of_empty {s : State} (ho : s.chg.orders = []) (ha : s.agenda = []) : dueSteps s = s := by
  have hids : idsWhere s (fun _ => true) = [] := by unfold idsWhere; rw [ho]; rfl
  unfold dueSteps
  rw [hids]
  exact rest_of_quiet ha

/-! ### Catch-up (R63) -/

theorem mem_catchMinutes {h c m : Nat} : m ∈ catchMinutes h c ↔ m % 60 = 0 ∧ m < h ∧ h + c < m + 86400 := by
  unfold catchMinutes
  rw [List.mem_filter, mem_minutes, decide_eq_true_iff]
  omega

/-- Two minutes less than a day apart at one minute of the day are one. -/
theorem eq_of_minuteOfDay_of_day {m n : Nat} (hm : m % 60 = 0) (hn : n % 60 = 0) (h : m < n + 86400) (h' : n < m + 86400)
    (he : minuteOfDay m = minuteOfDay n) : m = n := by
  unfold minuteOfDay Config.daySeconds at he
  omega

/-- Catch-up stages the one occurrence of a bank's one entry in its day (R63). -/
theorem catchUp_stages {s : State} {k : BankId} {e : Entry} {start : Nat} (h : SoleEntry s k e) (hdeferred : s.staging.deferred = [])
    (horders : s.chg.orders = []) (hoccurs : occursOn (bankOf s k).header e (hallDay start) = true)
    (hminute : e.start = minuteOfDay start) (hin : start ∈ catchMinutes (now s) (cutoffSecs s))
    (hend : now s + cutoffSecs s < start + 60 * e.duration) (hadm : admissionFault s (occurrence k e start).candidate = none) :
    catchUp s = createOrder (occurrence k e start).candidate s := by
  obtain ⟨hwhole, hlt, hgt⟩ := mem_catchMinutes.mp hin
  have hidle : ∀ t ∈ catchMinutes (now s) (cutoffSecs s), t ≠ start → ∀ u : State, forEach (startsAt s t) (catchOne t) u = u := by
    intro t ht hne u
    obtain ⟨htm, htlt, htgt⟩ := mem_catchMinutes.mp ht
    have hother : (e.start == minuteOfDay t) = false := by
      rw [beq_eq_false_iff_ne, hminute]
      exact fun he => hne (eq_of_minuteOfDay_of_day htm hwhole (by omega) (by omega) he.symm)
    rw [h.startsAt_eq, hother, Bool.and_false]
    rfl
  have hstart : forEach (startsAt s start) (catchOne start) s = createOrder (occurrence k e start).candidate s := by
    have hone : startsAt s start = [(k, e)] := by
      rw [h.startsAt_eq, hoccurs, hminute, beq_self_eq_true]
      rfl
    have hknown : deferred? s (occurrence k e start).origin = false := by simp [deferred?, hdeferred]
    rw [hone]
    show catchOne start (k, e) s = _
    unfold catchOne
    rw [if_pos hend]
    show stageUnknown (occurrence k e start) s = _
    unfold stageUnknown
    rw [hknown]
    exact stageUnlessLive_of_admitted (by simp [horders]) hadm
  exact (forEach_single ((minutes_nodup ..).filter _) hin hidle).trans hstart

/-! ### The beginning of AUTO -/

/-- Staging is about to begin: an unset staged-through instant counts as the second before (R56). -/
def beginStaging (s : State) : State := s.onStaging (fun g => { g with through := some (g.through.getD (now s - 1)) })

theorem beginAuto_eq (s : State) :
    beginAuto s = stagingScan (retries (dropTest (catchUp (beginStaging (dueSteps s))))) := rfl

theorem beginAuto_onto (s : State) : StagedOnto (beginStaging (dueSteps s)) (beginAuto s) := by
  rw [beginAuto_eq]
  exact (StagedOnto.refl _).catchUp.dropTest.retries.stagingScan

theorem beginAuto_agenda (s : State) : (beginAuto s).agenda = [] := (beginAuto_onto s).agenda

/-- Once AUTO has begun no order is HELD (R54, R92). -/
theorem beginAuto_unheld {s : State} (h : isAuto s = true) : ∀ o ∈ (beginAuto s).chg.orders, o.held = false := by
  intro o ho
  have hauto : isAuto (beginStaging (dueSteps s)) = true :=
    (isAuto_of_undeferred (undeferred_of_given (dueSteps_given s))).trans h
  obtain hold | hnew := (beginAuto_onto s).unheld hauto o.unmarked (List.mem_map_of_mem ho)
  · obtain ⟨p, hp, he⟩ := List.mem_map.mp hold
    have hheld : p.unmarked.held = o.unmarked.held := congrArg Order.held he
    exact hheld.symm.trans (dueSteps_unheld h p hp)
  · exact hnew

theorem beginStaging_through (s : State) : (beginStaging s).staging.through = some (s.staging.through.getD (now s - 1)) := rfl

theorem hall_of_undeferred {s t : State} (h : t.undeferred = s.undeferred) : t.hall = s.hall :=
  congrArg (fun g : Given => g.outer.hall) h

theorem now_of_clock {s t : State} (h : t.clock = s.clock) : now t = now s := by unfold now; rw [h]

/-- The first scan goes up to now + the look-ahead (R56, R57). -/
theorem beginAuto_through (s : State) : (beginAuto s).staging.through =
    some (max (s.staging.through.getD (now s - 1)) (now s + 60 * s.hall.par.lookAhead)) := by
  have hgiven := undeferred_of_given (dueSteps_given s)
  have hnow : now (dueSteps s) = now s := now_of_clock (clock_of_undeferred hgiven)
  have hthrough : (dueSteps s).staging.through = s.staging.through := through_of_undeferred hgiven
  have hpar : (dueSteps s).hall = s.hall := hall_of_undeferred hgiven
  have hstaged : ∀ t : State, (retries (dropTest (catchUp t))).undeferred = t.undeferred := fun t => by simp
  have hscan : ∀ t : State, (stagingScan (retries (dropTest (catchUp t)))).staging.through =
      some (max (t.staging.through.getD 0) (now t + 60 * t.hall.par.lookAhead)) := fun t => by
    rw [stagingScan_through, through_of_undeferred (hstaged t), now_of_clock (clock_of_undeferred (hstaged t)),
      hall_of_undeferred (hstaged t)]
  have hbegun : ∀ t : State, (beginStaging t).hall = t.hall ∧ now (beginStaging t) = now t := fun _ => ⟨rfl, rfl⟩
  rw [beginAuto_eq, hscan, beginStaging_through, (hbegun _).1, (hbegun _).2, hnow, hthrough, hpar, Option.getD_some]

/-- Where there is one entry and nothing staged before, the beginning of AUTO catches up its occurrence under way (R63). -/
theorem beginAuto_catchesUp {s : State} {k : BankId} {e : Entry} {start : Nat} (h : SoleEntry s k e) (hagenda : s.agenda = [])
    (hdeferred : s.staging.deferred = []) (horders : s.chg.orders = [])
    (hoccurs : occursOn (bankOf s k).header e (hallDay start) = true) (hminute : e.start = minuteOfDay start)
    (hin : start ∈ catchMinutes (now s) (cutoffSecs s)) (hend : now s + cutoffSecs s < start + 60 * e.duration)
    (hadm : admissionFault s (occurrence k e start).candidate = none) :
    ∃ o ∈ (beginAuto s).chg.orders, o.origin = .schedule k e.number start ∧ o.snap = e.snapshot ∧ o.start = start ∧
      o.ends = start + 60 * e.duration ∧ o.lateStart = true ∧ o.prepare = now s ∧ o.stage = .staged := by
  have hcatch : catchUp (beginStaging s) = createOrder (occurrence k e start).candidate (beginStaging s) :=
    catchUp_stages (s := beginStaging s) ⟨h.active, h.entries, h.other, h.clear⟩ hdeferred horders hoccurs hminute hin hend hadm
  have hempty : (createOrder (occurrence k e start).candidate (beginStaging s)).staging.deferred = [] := by
    rw [createOrder_deferred]
    exact congrArg (List.filter _) hdeferred
  have hbegun : beginAuto s = stagingScan (createOrder (occurrence k e start).candidate (beginStaging s)) := by
    rw [beginAuto_eq, dueSteps_of_empty horders hagenda, hcatch, dropTest_of_empty hempty, retries_of_empty hempty]
  have hcreated : (orderOf (beginStaging s) (occurrence k e start).candidate).unmarked ∈ (beginAuto s).unmarked := by
    rw [hbegun]
    refine (StagedOnto.refl _).stagingScan.kept ?_
    rw [createOrder_unmarked]
    exact List.mem_append_right _ (List.mem_singleton_self _)
  obtain ⟨o, ho, he⟩ := List.mem_map.mp hcreated
  have hlate : (decide ((occurrence k e start).candidate.origin ≠ .manual) && decide (start < now s)) = true := by
    simp [occurrence, Deferred.candidate, Deferred.origin, (mem_catchMinutes.mp hin).2.1]
  refine ⟨o, ho, congrArg Order.origin he, congrArg Order.snap he, congrArg Order.start he, congrArg Order.ends he,
    (congrArg Order.lateStart he).trans hlate, (congrArg Order.prepare he).trans (if_pos hlate), congrArg Order.stage he⟩

/-! ### The automation enable (R55) -/

/-- The enable has its value, and a HALL report tells of a beginning or an end of AUTO. -/
def enabled (v : Bool) (s : State) : State :=
  if isAuto (s.onClock (fun c => { c with enable := v })) = isAuto s then s.onClock (fun c => { c with enable := v })
  else hallReport .automation (s.onClock (fun c => { c with enable := v }))

theorem setEnable_eq (v : Bool) (s : State) : setEnable v s = autoFollows (isAuto s) (enabled v s) := rfl

/-- Besides the enable, only the report queue changes. -/
theorem enabled_eq (v : Bool) (s : State) : ∃ p, enabled v s = { s with clock := { s.clock with enable := v }, port := p } := by
  unfold enabled
  split
  · exact ⟨s.port, rfl⟩
  · exact ⟨(hallReport .automation (s.onClock (fun c => { c with enable := v }))).port, rfl⟩

theorem endAuto_given (s : State) : (endAuto s).given = s.given := forEach_setHeld_given ..

theorem autoFollows_clock (was : Bool) (s : State) : (autoFollows was s).clock = s.clock := by
  unfold autoFollows
  split
  · exact beginAuto_clock s
  · split
    · exact clock_of_undeferred (undeferred_of_given (endAuto_given s))
    · rfl

theorem autoFollows_banks (was : Bool) (s : State) : (autoFollows was s).banks = s.banks := by
  unfold autoFollows
  split
  · exact beginAuto_banks s
  · split
    · exact banks_of_undeferred (undeferred_of_given (endAuto_given s))
    · rfl

theorem setEnable_clock (v : Bool) (s : State) : (setEnable v s).clock = { s.clock with enable := v } := by
  obtain ⟨p, hp⟩ := enabled_eq v s
  rw [setEnable_eq, autoFollows_clock, hp]

theorem setEnable_banks (v : Bool) (s : State) : (setEnable v s).banks = s.banks := by
  obtain ⟨p, hp⟩ := enabled_eq v s
  rw [setEnable_eq, autoFollows_banks, hp]

/-- The value held is set again without effect (R55). -/
theorem setEnable_same {v : Bool} {s : State} (h : s.clock.enable = v) : setEnable v s = s := by
  have hsame : s.onClock (fun c => { c with enable := v }) = s := by subst h; rfl
  have henabled : enabled v s = s := by
    unfold enabled
    rw [hsame, if_pos rfl]
  rw [setEnable_eq, henabled]
  unfold autoFollows
  cases isAuto s <;> rfl

theorem isAuto_settle (s : State) : isAuto (settle s) = isAuto s := isAuto_of_undeferred (undeferred_of_given (settle_given s))

theorem isAuto_setEnable (v : Bool) (s : State) : isAuto (setEnable v s) = isAuto (enabled v s) := by
  obtain ⟨p, hp⟩ := enabled_eq v s
  have hkey : (setEnable v s).pins.key = (enabled v s).pins.key := by
    have hout : (setEnable v s).pins.key = s.pins.key := congrArg Outer.key (setEnable_outer v s)
    rw [hout, hp]
  unfold isAuto
  rw [hkey, setEnable_eq, autoFollows_clock]

/-- Where AUTO begins. -/
theorem setEnable_begins {v : Bool} {s : State} (hwas : isAuto s = false) (his : isAuto (enabled v s) = true) :
    setEnable v s = beginAuto (enabled v s) := by
  rw [setEnable_eq]
  unfold autoFollows
  rw [his, hwas]
  rfl

/-- Where AUTO ends with the key REMOTE. -/
theorem setEnable_ends {s : State} (hwas : isAuto s = true) : setEnable false s = endAuto (enabled false s) := by
  obtain ⟨p, hp⟩ := enabled_eq false s
  have his : isAuto (enabled false s) = false := by rw [hp]; simp [isAuto]
  have hlocal : isLocal (enabled false s) = false := by
    have hnot := isLocal_of_isAuto hwas
    rw [hp]
    exact hnot
  rw [setEnable_eq]
  unfold autoFollows
  rw [his, hwas, hlocal]
  rfl

theorem endAuto_agenda (s : State) : (endAuto s).agenda = s.agenda := forEach_setHeld_agenda ..

/-- The setting that TIME-SET leaves pending (R47). -/
def timeSetting (d : Date) (hour minute second : Nat) (s : State) : PendingSetting :=
  { value := Date.toDay d * 86400 + hour * 3600 + minute * 60 + second, takenAt := s.clock.time, boundaries := 0 }

/-- TIME-SET takes every date and time in its ranges (R47). -/
theorem timeSet_accepted {tag : Nat} {d : Date} {hour minute second : Nat} {s : State} (hs : s.running) (hd : Date.valid d = true)
    (hh : hour ≤ 23) (hm : minute ≤ 59) (hsec : second ≤ 59) :
    exec (.timeSet tag d hour minute second) s = .next (okReply 0x20 tag (.timeSet s.clock.state s.clock.time)
      (s.onClock (fun c => { c with setting := some (timeSetting d hour minute second s) }))) := by
  have hranges : firstBad (timeRanges d hour minute second) = none := by
    have hdate := hd
    simp only [Date.valid, Bool.and_eq_true, decide_eq_true_iff] at hdate
    obtain ⟨⟨⟨⟨⟨hy1, hy2⟩, hm1⟩, hm2⟩, -⟩, -⟩ := hdate
    rw [firstBad_eq_none]
    simp [timeRanges, within, hd, hy1, hy2, hm1, hm2, hh, hm, hsec]
  have hsettled : (s.onClock (fun c => { c with setting := some (timeSetting d hour minute second s) })).settled :=
    settled_eq rfl rfl rfl rfl rfl rfl hs.2
  unfold exec execTimeSet
  refine request_accepted_settled (data := fun t => .timeSet t.clock.state t.clock.time) hs.1 hsettled ?_
  dsimp only
  rw [hranges]
  rfl

/-- Settles O35: in AUTO neither a message nor an admission makes an order HELD, and the occurrence that catch-up stages is not
touched by what is staged after it. -/
theorem clockRequestsSetTheClock : Obligations.ClockRequestsSetTheClock := by
  unfold Obligations.ClockRequestsSetTheClock
  intro tag s hs
  obtain ⟨hp, hsettled⟩ := hs
  refine ⟨fun d hour minute second hd hh hm hsec => timeSet_accepted ⟨hp, hsettled⟩ hd hh hm hsec, fun v h1 h2 => ?_,
    fun h c m => mem_catchMinutes⟩
  have hagenda : s.agenda = [] := hsettled.1.1
  have hclock := (settle_clock (setEnable (decide (v = 1)) s)).trans (setEnable_clock (decide (v = 1)) s)
  refine ⟨settle (setEnable (decide (v = 1)) s), ?_, hclock, ?_, ?_, fun heq => ?_, fun hauto hv => ?_, fun hwas his => ?_⟩
  · have hacc : exec (.automation tag v) s = .next (okReply 0x22 tag
        (.automation (settle (setEnable (decide (v = 1)) s)).clock.enable (isAuto (settle (setEnable (decide (v = 1)) s))))
        (settle (setEnable (decide (v = 1)) s))) := by
      unfold exec execAutomation
      refine request_accepted (u := setEnable (decide (v = 1)) s) (data := fun t => .automation t.clock.enable (isAuto t)) hp
        (checks_pass ?_)
      simp [within, h1, h2]
    rw [hacc, hclock]
  · rw [settle_banks, setEnable_banks]
  · simp
  · rw [setEnable_same heq, settle_of_settled hsettled]
  · have hoff : decide (v = 1) = false := by simp [hv]
    obtain ⟨p, hen⟩ := enabled_eq false s
    have hquiet : (endAuto (enabled false s)).agenda = [] := by rw [endAuto_agenda, hen]; exact hagenda
    rw [hoff, setEnable_ends hauto, settle_chg_of_quiet hquiet]
    exact endAuto_held _
  · rw [isAuto_settle, isAuto_setEnable] at his
    obtain ⟨p, hen⟩ := enabled_eq (decide (v = 1)) s
    have hnow : now (enabled (decide (v = 1)) s) = now s := by rw [hen]; rfl
    rw [setEnable_begins hwas his, settle_chg_of_quiet (beginAuto_agenda _), settle_staging]
    refine ⟨?_, beginAuto_unheld his, fun k e start hact hent hother hord hdef hclear hocc hmin hin hend hadm => ?_⟩
    · rw [beginAuto_through, hnow, hen]
    · have hbank : ∀ j, bankOf (enabled (decide (v = 1)) s) j = bankOf s j := fun j => by rw [hen]; cases j <;> rfl
      have hcut : cutoffSecs (enabled (decide (v = 1)) s) = cutoffSecs s := by rw [hen]; rfl
      have hadm' : admissionFault (enabled (decide (v = 1)) s) (occurrence k e start).candidate = none := by rw [hen]; exact hadm
      have hcaught := beginAuto_catchesUp (s := enabled (decide (v = 1)) s) (k := k) (e := e) (start := start)
        ⟨by rw [hbank]; exact hact, by rw [hbank]; exact hent, by rw [hbank]; exact hother, hclear⟩ (by rw [hen]; exact hagenda)
        (by rw [hen]; exact hdef) (by rw [hen]; exact hord) (by rw [hbank]; exact hocc) hmin (by rw [hnow, hcut]; exact hin)
        (by rw [hnow, hcut]; exact hend) hadm'
      rwa [hnow] at hcaught

end Sys2Proof.Machine
end

section
/-! PROOFS. ORDER-MANUAL; admission, occurrences and retries of the Staging Engine (O37). -/

set_option Elab.async false

namespace Sys2Proof.Machine

/-! ### Admission (R59) -/

/-- A candidate passes exactly when its transmitter may serve it, its conflicts are all of lower priority and the table has room. -/
theorem admissionFault_eq_none {s : State} {x : Candidate} : admissionFault s x = none ↔
    (∃ r, txRec? s x.snap.tx = some r ∧ r.inhibited = false) ∧ (txCtl s x.snap.tx).state ≠ .lockedOut ∧
    (∀ p ∈ s.chg.orders, conflicts x.snap.tx x.snap.primary x.start x.ends p = true → p.snap.priority.below x.snap.priority = true) ∧
    s.chg.orders.length < 32 := by
  have hlowest : lowestId ((conflicting s x).filter (fun o => !o.snap.priority.below x.snap.priority)) = none ↔
      ∀ p ∈ s.chg.orders, conflicts x.snap.tx x.snap.primary x.start x.ends p = true →
        p.snap.priority.below x.snap.priority = true := by
    simp only [lowestId, conflicting, List.min?_eq_none_iff, List.map_eq_nil_iff, List.filter_filter, List.filter_eq_nil_iff,
      Bool.and_eq_true, Bool.not_eq_true', not_and]
    exact ⟨fun h p hp hc => by_contra fun hb => h p hp (Bool.eq_false_iff.mpr hb) hc,
      fun h p hp hb hc => absurd (h p hp hc) (Bool.eq_false_iff.mp hb)⟩
  have htx : (((txRec? s x.snap.tx).map (·.inhibited)).getD true || (txCtl s x.snap.tx).state == .lockedOut) = false ↔
      (∃ r, txRec? s x.snap.tx = some r ∧ r.inhibited = false) ∧ (txCtl s x.snap.tx).state ≠ .lockedOut := by
    cases txRec? s x.snap.tx <;> simp
  unfold admissionFault
  dsimp only
  rw [← hlowest, ← and_assoc, ← htx]
  cases ((txRec? s x.snap.tx).map (·.inhibited)).getD true || (txCtl s x.snap.tx).state == .lockedOut
  · cases lowestId ((conflicting s x).filter (fun o => !o.snap.priority.below x.snap.priority)) with
    | none => by_cases hroom : 32 ≤ s.chg.orders.length <;> simp [Config.maxOrders, hroom, Nat.lt_of_not_le]
    | some k => simp
  · simp

/-- A CONFLICT names the lowest id of the conflicts that are not of lower priority. -/
theorem conflict_of_admissionFault {s : State} {x : Candidate} {k : Nat} (h : admissionFault s x = some (.conflict k)) :
    ∃ p ∈ s.chg.orders, p.id = k ∧ conflicts x.snap.tx x.snap.primary x.start x.ends p = true ∧
      p.snap.priority.below x.snap.priority = false ∧ ∀ q ∈ s.chg.orders,
        conflicts x.snap.tx x.snap.primary x.start x.ends q = true → q.snap.priority.below x.snap.priority = false → k ≤ q.id := by
  have hlowest : lowestId ((conflicting s x).filter (fun o => !o.snap.priority.below x.snap.priority)) = some k := by
    unfold admissionFault at h
    dsimp only at h
    split at h
    · cases h
    · split at h
      next hk => rw [hk]; cases h; rfl
      · split at h <;> cases h
  obtain ⟨hmem, hmin⟩ := List.min?_eq_some_iff.mp hlowest
  obtain ⟨p, hp, hid⟩ := List.mem_map.mp hmem
  simp only [conflicting, List.mem_filter, Bool.not_eq_true'] at hp
  refine ⟨p, hp.1.1, hid, hp.1.2, hp.2, fun q hq hc hb => hmin q.id (List.mem_map_of_mem ?_)⟩
  simp [conflicting, hq, hc, hb]

theorem admitOrder_of_fault {s : State} {c : Candidate} {f : Admission} (h : admissionFault s c = some f) : admitOrder c s = (f, s) := by
  unfold admitOrder; rw [h]

theorem admitOrder_of_none {s : State} {c : Candidate} (h : admissionFault s c = none) :
    admitOrder c s = (.admitted (newId s), createOrder c s) := by
  unfold admitOrder; rw [h]

/-! ### An occurrence (R57, R61) -/

section occurrences
variable {s : State} {d : Deferred}

theorem stageUnknown_of_known (h : deferred? s d.origin = true ∨ live? s d.origin = true) : stageUnknown d s = s := by
  unfold stageUnknown stageUnlessLive
  rcases h with h | h
  · rw [if_pos h]
  · rw [if_pos h, ite_self]

theorem stageUnknown_of_unknown (hd : deferred? s d.origin = false) (hl : live? s d.origin = false) :
    stageUnknown d s = stageOccurrence d s := by
  unfold stageUnknown stageUnlessLive
  rw [hd, hl]
  rfl

theorem stageOccurrence_of_none (h : admissionFault s d.candidate = none) : stageOccurrence d s = createOrder d.candidate s := by
  unfold stageOccurrence
  rw [admitOrder_of_none h]

theorem stageOccurrence_of_unavailable {st} (h : admissionFault s d.candidate = some (.unavailable st)) :
    stageOccurrence d s = stagingReport d.bank d.entry d.start (.skippedUnavailable st) s := by
  unfold stageOccurrence
  rw [admitOrder_of_fault h]

theorem stageOccurrence_of_conflict {k} (h : admissionFault s d.candidate = some (.conflict k)) :
    stageOccurrence d s = stagingReport d.bank d.entry d.start (.skippedConflict k) s := by
  unfold stageOccurrence
  rw [admitOrder_of_fault h]

theorem stageOccurrence_of_full (h : admissionFault s d.candidate = some .full) : stageOccurrence d s = deferOccurrence d s := by
  unfold stageOccurrence
  rw [admitOrder_of_fault h]

theorem deferOccurrence_of_room (hd : deferred? s d.origin = false) (h : s.staging.deferred.length < 16) : deferOccurrence d s =
    stagingReport d.bank d.entry d.start .deferred (s.onStaging (fun g => { g with deferred := g.deferred ++ [d] })) := by
  unfold deferOccurrence
  rw [hd, if_pos (show s.staging.deferred.length < Config.maxDeferred from h)]
  rfl

theorem deferOccurrence_of_full (hd : deferred? s d.origin = false) (h : 16 ≤ s.staging.deferred.length) :
    deferOccurrence d s = stagingReport d.bank d.entry d.start .droppedSetFull s := by
  unfold deferOccurrence
  rw [hd, if_neg (show ¬ s.staging.deferred.length < Config.maxDeferred from Nat.not_lt.mpr h)]
  rfl

/-- The state without the deferred occurrences of an origin. -/
def dropDeferred (x : Origin) (s : State) : State :=
  s.onStaging (fun g => { g with deferred := g.deferred.filter (fun e => decide (e.origin ≠ x)) })

theorem retryDeferred_of_none (h : admissionFault s d.candidate = none) :
    retryDeferred d s = dropDeferred d.origin (createOrder d.candidate s) := by
  unfold retryDeferred
  rw [admitOrder_of_none h]
  rfl

theorem retryDeferred_of_full (h : admissionFault s d.candidate = some .full) : retryDeferred d s = s := by
  unfold retryDeferred
  rw [admitOrder_of_fault h]

theorem createOrder_staging (c : Candidate) (s : State) : (createOrder c s).staging =
    { s.staging with deferred := s.staging.deferred.filter (fun d => decide (d.origin ≠ c.origin)) } := by
  have hext : ∀ g k : Staging, g.through = k.through → g = { k with deferred := g.deferred } := by
    rintro ⟨_, _⟩ ⟨_, _⟩ rfl
    rfl
  rw [hext _ _ (through_of_undeferred (createOrder_undeferred c s)), createOrder_deferred]

theorem dropDeferred_createOrder (d : Deferred) (s : State) :
    (dropDeferred d.origin (createOrder d.candidate s)).staging = (createOrder d.candidate s).staging := by
  have hidem : ∀ l : List Deferred, (l.filter (fun e => decide (e.origin ≠ d.origin))).filter (fun e => decide (e.origin ≠ d.origin)) =
      l.filter (fun e => decide (e.origin ≠ d.origin)) := fun l => by rw [List.filter_filter]; simp
  have hd : d.candidate.origin = d.origin := rfl
  unfold dropDeferred
  rw [onStaging_staging, createOrder_staging, hd]
  dsimp only
  rw [hidem]

/-- Whatever the outcome of a retry, but for want of room, the occurrence leaves the deferred set (R62). -/
theorem retryDeferred_staging (h : admissionFault s d.candidate ≠ some .full) : (retryDeferred d s).staging =
    { s.staging with deferred := s.staging.deferred.filter (fun x => decide (x.origin ≠ d.origin)) } := by
  cases hadm : admissionFault s d.candidate with
  | none =>
    rw [retryDeferred_of_none hadm, dropDeferred_createOrder, createOrder_staging]
    rfl
  | some f =>
    cases f with
    | admitted id =>
      unfold retryDeferred
      rw [admitOrder_of_fault hadm]
      rfl
    | unavailable st =>
      unfold retryDeferred
      rw [admitOrder_of_fault hadm]
      rfl
    | conflict k =>
      unfold retryDeferred
      rw [admitOrder_of_fault hadm]
      rfl
    | full => exact absurd hadm h

/-- An occurrence has been made an order: the statement's `made`. -/
theorem made_of_createOrder (h : admissionFault s d.candidate = none) {t : State} (hchg : t.chg = (createOrder d.candidate s).chg)
    (hst : t.staging = (createOrder d.candidate s).staging) :
    ∃ p, order? t (newId s) = some p ∧ p.origin = d.origin ∧ p.snap = d.snap ∧ p.start = d.start ∧ p.ends = d.ends ∧
      p.stage = .staged ∧ (p.lateStart = true ↔ d.start < now s) ∧ (d.start < now s → p.prepare = now s) ∧
      ∀ x ∈ t.staging.deferred, x.origin ≠ d.origin := by
  obtain ⟨p, hp, he⟩ := order?_createOrder h
  have hp' : order? t (newId s) = some p := by
    unfold order?
    rw [hchg]
    exact hp
  have hlate : (orderOf s d.candidate).unmarked.lateStart = decide (d.start < now s) := by
    simp [Order.unmarked, orderOf, Deferred.candidate, Deferred.origin]
    rfl
  refine ⟨p, hp', congrArg Order.origin he, congrArg Order.snap he, congrArg Order.start he, congrArg Order.ends he,
    congrArg Order.stage he, ?_, fun hlt => (congrArg Order.prepare he).trans ?_, ?_⟩
  · have hl : p.lateStart = _ := (congrArg Order.lateStart he).trans hlate
    rw [hl, decide_eq_true_iff]
  · simp [Order.unmarked, orderOf, Deferred.candidate, Deferred.origin, hlt]
  · rw [hst, createOrder_deferred]
    intro x hx
    exact of_decide_eq_true (List.mem_filter.mp hx).2

end occurrences

/-! ### The order of the retries (R62) -/

theorem insertDeferred_perm (d : Deferred) (l : List Deferred) : (insertDeferred d l).Perm (d :: l) := by
  induction l with
  | nil => exact .refl _
  | cons e l ih =>
    unfold insertDeferred
    split
    · exact .refl _
    · exact (ih.cons e).trans (.swap d e l)

theorem before_total {d e : Deferred} (h : ¬ d.before e = true) : e.before d = true := by
  unfold Deferred.before at *
  cases hd : d.bank <;> cases he : e.bank <;> simp [hd, he] at h ⊢ <;> omega

theorem before_trans {d e f : Deferred} (h : d.before e = true) (h' : e.before f = true) : d.before f = true := by
  unfold Deferred.before at *
  cases hd : d.bank <;> cases he : e.bank <;> cases hf : f.bank <;> simp [hd, he, hf] at h h' ⊢ <;> omega

theorem insertDeferred_sorted (d : Deferred) {l : List Deferred} (h : l.Pairwise (fun x y => x.before y = true)) :
    (insertDeferred d l).Pairwise (fun x y => x.before y = true) := by
  induction l with
  | nil => exact List.pairwise_singleton ..
  | cons e l ih =>
    obtain ⟨he, hl⟩ := List.pairwise_cons.mp h
    unfold insertDeferred
    split
    next hde =>
      refine List.pairwise_cons.mpr ⟨fun x hx => ?_, h⟩
      rcases List.mem_cons.mp hx with rfl | hx
      · exact hde
      · exact before_trans hde (he x hx)
    next hde =>
      refine List.pairwise_cons.mpr ⟨fun x hx => ?_, ih hl⟩
      rcases List.mem_cons.mp ((insertDeferred_perm d l).mem_iff.mp hx) with rfl | hx
      · exact before_total hde
      · exact he x hx

theorem foldr_insertDeferred (l : List Deferred) :
    (l.foldr insertDeferred []).Perm l ∧ (l.foldr insertDeferred []).Pairwise (fun x y => x.before y = true) := by
  induction l with
  | nil => exact ⟨.refl _, .nil⟩
  | cons d l ih => exact ⟨(insertDeferred_perm d _).trans (ih.1.cons d), insertDeferred_sorted d ih.2⟩

theorem before_iff {x y : Deferred} : x.before y = true ↔ x.start < y.start ∨ x.start = y.start ∧
    ((x.bank = .a ∧ y.bank = .b) ∨ x.bank = y.bank ∧ x.entry ≤ y.entry) := by
  simp [Deferred.before]

/-! ### The marks of a new order (R60) -/

theorem order?_updOrder (id k : Nat) (f : Order → Order) (hf : ∀ o, (f o).id = o.id) (s : State) :
    order? (updOrder id f s) k = (order? s k).map (fun o => if o.id = id then f o else o) := by
  have hid : ((fun o : Order => o.id == k) ∘ fun o => if o.id = id then f o else o) = fun o => o.id == k := by
    funext o
    dsimp only [Function.comp]
    split
    · rw [hf]
    · rfl
  show (s.chg.orders.map _).find? _ = _
  rw [List.find?_map, hid]
  rfl

theorem order?_setMark (id k : Nat) (m : Option Nat) (s : State) :
    order? (setMark id m s) k = (order? s k).map (fun o => if o.id = id then { o with preempting := m } else o) := by
  unfold setMark
  rw [order?_updOrder id k _ fun _ => by rfl]
  unfold order?
  rw [noteOrder_chg]

/-- The order of an id carries a mark. -/
def Marked (s : State) (k : Nat) : Prop := ∃ q, order? s k = some q ∧ q.preempting.isSome

/-- An order is in the table, and has lost no mark since it was looked at. -/
def Markable (s : State) (o : Order) : Prop := ∃ q, order? s o.id = some q ∧ (o.preempting.isSome → q.preempting.isSome)

theorem Markable.setMark {s : State} {o : Order} (h : Markable s o) (id i : Nat) : Markable (setMark id (some i) s) o := by
  obtain ⟨q, hq, hm⟩ := h
  refine ⟨_, by rw [order?_setMark, hq]; rfl, fun ho => ?_⟩
  dsimp only
  split
  · rfl
  · exact hm ho

theorem Marked.setMark {s : State} {k : Nat} (h : Marked s k) (id i : Nat) : Marked (setMark id (some i) s) k := by
  obtain ⟨q, hq, hm⟩ := h
  refine ⟨_, by rw [order?_setMark, hq]; rfl, ?_⟩
  dsimp only
  split
  · rfl
  · exact hm

theorem markFor_eq (c : Candidate) (i : Nat) (o : Order) (s : State) :
    markFor c i o s = setMark o.id (some i) s ∨ markFor c i o s = s ∧ o.preempting.isSome := by
  unfold markFor
  split
  next p hp =>
    split
    · refine .inr ⟨rfl, ?_⟩
      obtain ⟨j, hj, -⟩ := Option.bind_eq_some_iff.mp hp
      rw [hj]
      rfl
    · exact .inl rfl
  · exact .inl rfl

theorem Markable.markFor {s : State} {o : Order} (h : Markable s o) (c i r) : Markable (markFor c i r s) o := by
  rcases markFor_eq c i r s with he | ⟨he, -⟩
  · rw [he]; exact h.setMark ..
  · rwa [he]

theorem Marked.markFor {s : State} {k : Nat} (h : Marked s k) (c i r) : Marked (markFor c i r s) k := by
  rcases markFor_eq c i r s with he | ⟨he, -⟩
  · rw [he]; exact h.setMark ..
  · rwa [he]

theorem Markable.marked {s : State} {o : Order} (h : Markable s o) (c i) : Marked (Machine.markFor c i o s) o.id := by
  obtain ⟨q, hq, hm⟩ := h
  rcases markFor_eq c i o s with he | ⟨he, ho⟩
  · rw [he]
    refine ⟨_, by rw [order?_setMark, hq]; rfl, ?_⟩
    dsimp only
    rw [if_pos (order?_mem hq).2]
    rfl
  · rw [he]
    exact ⟨q, hq, hm ho⟩

/-- Every rival ends with a mark, its own or the new one. -/
theorem forEach_markFor {c : Candidate} {i : Nat} {l : List Order} {s : State} (h : ∀ o ∈ l, Markable s o) :
    ∀ o ∈ l, Marked (forEach l (markFor c i) s) o.id := by
  have hkeep : ∀ (m : List Order) (k : Nat) (t : State), Marked t k → Marked (forEach m (markFor c i) t) k := by
    intro m k
    induction m with
    | nil => exact fun _ ht => ht
    | cons r m ih => exact fun t ht => ih _ (ht.markFor c i r)
  induction l generalizing s with
  | nil => exact fun _ ho => absurd ho List.not_mem_nil
  | cons r l ih =>
    intro o ho
    rcases List.mem_cons.mp ho with rfl | ho
    · exact hkeep l o.id _ ((h o (List.mem_cons_self ..)).marked c i)
    · exact ih (s := markFor c i r s) (fun p hp => (h p (List.mem_cons_of_mem _ hp)).markFor c i r) o ho

theorem order?_of_nodup {s : State} (hn : (s.chg.orders.map (·.id)).Nodup) {p : Order} (hp : p ∈ s.chg.orders) :
    order? s p.id = some p := by
  cases h : order? s p.id with
  | none =>
    have hne : ∀ o ∈ s.chg.orders, o.id ≠ p.id := by simpa [order?] using h
    exact absurd rfl (hne p hp)
  | some o => rw [eq_of_order? hn h hp rfl]

/-- Every order that a new one conflicts with carries a mark (R60). -/
theorem createOrder_marks {c : Candidate} {s : State} (hn : (s.chg.orders.map (·.id)).Nodup) {p : Order} (hp : p ∈ conflicting s c) :
    Marked (createOrder c s) p.id := by
  have hgrown : ∀ (o : Order) (t : State), t.chg.orders = s.chg.orders ++ [o] → ∀ q ∈ conflicting s c, Markable t q := by
    intro o t ht q hq
    have hfound : s.chg.orders.find? (fun r => r.id == q.id) = some q := order?_of_nodup hn (List.mem_of_mem_filter hq)
    refine ⟨q, ?_, id⟩
    unfold order?
    rw [ht, List.find?_append, hfound]
    rfl
  have hsame : ∀ t u : State, t.chg = u.chg → Marked u p.id → Marked t p.id := by
    intro t u he ⟨q, hq, hm⟩
    exact ⟨q, by unfold order?; rw [he]; exact hq, hm⟩
  unfold createOrder
  dsimp only
  refine hsame _ _ (by rw [onStaging_chg, informCoolDown_chg]) (forEach_markFor (hgrown (orderOf s c) _ ?_) p hp)
  rfl

theorem createOrder_lastId (c : Candidate) (s : State) : (createOrder c s).chg.lastId = newId s := by
  have hmark : ∀ (r : Order) (t : State), (markFor c (newId s) r t).chg.lastId = t.chg.lastId := by
    intro r t
    rcases markFor_eq c (newId s) r t with he | ⟨he, -⟩
    · rw [he]
      show (noteOrder r.id t).chg.lastId = _
      rw [noteOrder_chg]
    · rw [he]
  unfold createOrder
  dsimp only
  rw [onStaging_chg, informCoolDown_chg, forEach_keeps (fun t => t.chg.lastId) _ _ _ hmark]
  rfl

theorem noteOrder_mx (id : Nat) (s : State) : (noteOrder id s).mx = s.mx := by unfold noteOrder; (repeat' split) <;> rfl

/-- A new order touches neither the directory nor the matrix. -/
theorem createOrder_dir_mx (c : Candidate) (s : State) : (createOrder c s).dir = s.dir ∧ (createOrder c s).mx = s.mx := by
  have hmark : ∀ (r : Order) (t : State), ((markFor c (newId s) r t).dir, (markFor c (newId s) r t).mx) = (t.dir, t.mx) := by
    intro r t
    rcases markFor_eq c (newId s) r t with he | ⟨he, -⟩
    · rw [he]
      show ((noteOrder r.id t).dir, (noteOrder r.id t).mx) = _
      rw [noteOrder_dir, noteOrder_mx]
    · rw [he]
  have hcool : ∀ t : State, ((informCoolDown c.snap.tx t).dir, (informCoolDown c.snap.tx t).mx) = (t.dir, t.mx) := by
    intro t
    unfold informCoolDown cancelCoolDown
    split <;> rfl
  have hdrop : ∀ (t : State) (f : Staging → Staging), ((t.onStaging f).dir, (t.onStaging f).mx) = (t.dir, t.mx) := fun _ _ => rfl
  have hboth : ((createOrder c s).dir, (createOrder c s).mx) = (s.dir, s.mx) := by
    unfold createOrder
    dsimp only
    rw [hdrop, hcool, forEach_keeps (fun t => (t.dir, t.mx)) _ _ _ hmark]
    rfl
  exact Prod.mk.inj hboth

/-! ### ORDER-MANUAL (R90) -/

/-- The candidate of an ORDER-MANUAL that starts at `start`. -/
def manualCandidate (f : ManualFields) (start : Nat) : Candidate :=
  { origin := .manual, snap := manualSnapshot f, start := start, ends := f.ends }

/-- A manual order under REMOTE is not HELD, and prepares its lead time before its start (R60, R65). -/
theorem orderOf_manual {f : ManualFields} {start : Nat} {s : State} (hkey : s.pins.key = .remote) :
    (orderOf s (manualCandidate f start)).prepare = start - leadTime s (manualSnapshot f) ∧
    (orderOf s (manualCandidate f start)).held = false := by
  constructor
  · simp [orderOf, manualCandidate]
  · simp [orderOf, manualCandidate, heldNow, isLocal, isScheduled, hkey]

/-- An ORDER-MANUAL that passes its checks and admission creates its order. -/
theorem orderManual_accepted {tag : Nat} {f : ManualFields} {h start : Nat} {s : State} (hs : s.running) (hkey : s.pins.key = .remote)
    (htime : s.clock.time = some h) (hstart : f.start.getD h = start)
    (hfields : firstBad (snapRanges f.service f.tx f.freq f.primary f.alternate f.azimuth f.power f.mode f.priority) = none)
    (hprog : programmeFault s { manualSnapshot f with alternate := f.alternate } = none)
    (h1 : h ≤ start) (h2 : start ≤ h + 86400) (h3 : start < f.ends) (h4 : f.ends ≤ start + 86400)
    (h5 : h + 60 * s.hall.par.cutoff < f.ends) (hadm : admissionFault s (manualCandidate f start) = none) :
    exec (.orderManual tag f) s = .next (okReply 0x28 tag (.orderMade (newId s)
      (((order? (settle (createOrder (manualCandidate f start) s)) (newId s)).map (·.prepare)).getD 0))
      (settle (createOrder (manualCandidate f start) s))) := by
  have hnow : now s = h := by unfold now; rw [htime]; rfl
  have hcut : cutoffSecs s = 60 * s.hall.par.cutoff := rfl
  unfold exec execOrderManual
  refine request_accepted (u := createOrder (manualCandidate f start) s)
    (data := fun u => .orderMade (newId s) (((order? u (newId s)).map (·.prepare)).getD 0)) hs.1 ?_
  dsimp only
  rw [hfields, hnow, hstart]
  dsimp only
  rw [checks_pass (by simp [isLocal, hkey, htime]), hprog]
  dsimp only
  rw [checks_pass (by simp [hcut]; omega)]
  have hgo : admitOrder (manualCandidate f start) s = _ := admitOrder_of_none hadm
  unfold manualCandidate at hgo ⊢
  rw [hgo]

/-- Settles O37: the order created is found by its new id, whole but for a mark; the retries are an insertion sort. -/
theorem aManualOrderIsCreated : Obligations.AManualOrderIsCreated := by
  unfold Obligations.AManualOrderIsCreated
  refine ⟨fun tag f h s hs hkey htime hn => ?_, fun s => ⟨fun x => ⟨admissionFault_eq_none, fun k => conflict_of_admissionFault⟩,
    fun d => ?_, (foldr_insertDeferred _).1, (foldr_insertDeferred _).2.imp before_iff.mp⟩⟩
  · intro start c hfields hprog h1 h2 h3 h4 h5 hadm
    have hadm' : admissionFault s (manualCandidate f start) = none := hadm
    obtain ⟨o, ho, hu⟩ := order?_createOrder hadm'
    obtain ⟨hprepare, hheld⟩ := orderOf_manual (f := f) (start := start) hkey
    have hquiet : (createOrder (manualCandidate f start) s).agenda = [] := (createOrder_agenda ..).trans hs.2.1.1
    have hsettled : order? (settle (createOrder (manualCandidate f start) s)) (newId s) = some o := by
      unfold order?
      rw [settle_chg_of_quiet hquiet]
      exact ho
    have hfresh : order? s (newId s) = none := by
      simpa [order?] using newId_fresh (room_of_admissionFault hadm').le
    have hsame := createOrder_undeferred (manualCandidate f start) s
    obtain ⟨hdir, hmx⟩ := createOrder_dir_mx (manualCandidate f start) s
    refine ⟨createOrder (manualCandidate f start) s, o, ?_, ho, hfresh, congrArg Order.origin hu, congrArg Order.snap hu,
      congrArg Order.start hu, congrArg Order.ends hu, congrArg Order.stage hu, (congrArg Order.prepare hu).trans hprepare,
      (congrArg Order.held hu).trans hheld, createOrder_lastId .., createOrder_length .., createOrder_outer .., banks_of_undeferred hsame,
      clock_of_undeferred hsame, hdir, hmx, fun p hp hc => createOrder_marks hn (List.mem_filter.mpr ⟨hp, hc⟩)⟩
    rw [orderManual_accepted hs hkey htime rfl hfields hprog h1 h2 h3 h4 h5 hadm', hsettled]
    rfl
  · refine ⟨stageUnknown_of_known, fun hd hl => ?_, retryDeferred_of_full, fun h => ?_, retryDeferred_staging⟩
    · rw [stageUnknown_of_unknown hd hl]
      refine ⟨fun h => ?_, fun st => stageOccurrence_of_unavailable, fun k => stageOccurrence_of_conflict, fun h hroom => ?_,
        fun h hfull => ?_⟩
      · rw [stageOccurrence_of_none h]
        exact made_of_createOrder h rfl rfl
      · rw [stageOccurrence_of_full h, deferOccurrence_of_room hd hroom]
      · rw [stageOccurrence_of_full h, deferOccurrence_of_full hd hfull]
    · rw [retryDeferred_of_none h]
      exact made_of_createOrder h rfl (dropDeferred_createOrder d s)

end Sys2Proof.Machine
end

section
/-! PROOFS. Preparation chooses the antenna and the tune (O39). -/

set_option Elab.async false

namespace Sys2Proof.Machine

/-! ### An order but for what the work of others changes -/

/-- An order without its work in hand and its counters: the parts that other orders' steps, and the entry into a stage, may change. -/
def Order.core (o : Order) : Order := { o with work := {}, blind := false, preempting := none, claimDue := false, stageSecs := 0 }

/-- The order of an id, but for what the work of others changes. -/
def coreOf (s : State) (id : Nat) : Option Order := (order? s id).map Order.core

theorem coreOf_of_chg {s t : State} (h : t.chg = s.chg) (id : Nat) : coreOf t id = coreOf s id := by
  unfold coreOf order?; rw [h]

theorem coreOf_of_tenure {s t : State} (h : t.tenure = s.tenure) (id : Nat) : coreOf t id = coreOf s id :=
  coreOf_of_chg (chg_of_tenure h) id

/-- An update of the parts left out. -/
theorem coreOf_updOrder {j : Nat} {f : Order → Order} (hf : ∀ o, (f o).core = o.core) (id : Nat) (s : State) :
    coreOf (updOrder j f s) id = coreOf s id := by
  have hid : ∀ o, (f o).id = o.id := fun o => (congrArg Order.id (hf o) :)
  unfold coreOf
  rw [order?_updOrder j id f hid, Option.map_map]
  congr 1
  funext o
  dsimp only [Function.comp]
  split
  · exact hf o
  · rfl

/-- An update of the order itself. -/
theorem coreOf_updOrder_self {id : Nat} {f : Order → Order} (hf : ∀ o, (f o).id = o.id) (s : State) :
    coreOf (updOrder id f s) id = (order? s id).map (fun o => (f o).core) := by
  unfold coreOf
  rw [order?_updOrder id id f hf]
  cases ho : order? s id with
  | none => rfl
  | some o => simp [(order?_mem ho).2]

/-- An update of another order. -/
theorem coreOf_updOrder_ne {j id : Nat} (h : j ≠ id) {f : Order → Order} (hf : ∀ o, (f o).id = o.id) (s : State) :
    coreOf (updOrder j f s) id = coreOf s id := by
  have hsame : order? (updOrder j f s) id = order? s id := by
    rw [order?_updOrder j id f hf]
    cases ho : order? s id with
    | none => rfl
    | some o =>
      have hne : o.id ≠ j := fun he => h (he.symm.trans (order?_mem ho).2)
      simp [hne]
  unfold coreOf
  rw [hsame]

section same
variable (id : Nat) (s : State)
@[simp] theorem emit_coreOf (m) : coreOf (emit m s) id = coreOf s id := rfl
@[simp] theorem updTx_coreOf (n f) : coreOf (updTx n f s) id = coreOf s id := rfl
@[simp] theorem updProt_coreOf (n f) : coreOf (updProt n f s) id = coreOf s id := rfl
@[simp] theorem updNote_coreOf (j f) : coreOf (updNote j f s) id = coreOf s id := rfl
@[simp] theorem count_coreOf (k q) : coreOf (count k q s) id = coreOf s id := rfl
@[simp] theorem dropRequesters_coreOf (p) : coreOf (dropRequesters p s) id = coreOf s id := rfl
@[simp] theorem dropSlew_coreOf (j) : coreOf (dropSlew j s) id = coreOf s id := rfl
@[simp] theorem dropWarm_coreOf (n j) : coreOf (dropWarm n j s) id = coreOf s id := rfl
@[simp] theorem noteOrder_coreOf (j) : coreOf (noteOrder j s) id = coreOf s id := coreOf_of_tenure (noteOrder_tenure s j) id
@[simp] theorem leaveWaits_coreOf (j) : coreOf (leaveWaits j s) id = coreOf s id := coreOf_of_tenure (leaveWaits_tenure s j) id
@[simp] theorem carrierOffRequest_coreOf (n who) : coreOf (carrierOffRequest n who s) id = coreOf s id :=
  coreOf_of_tenure (carrierOffRequest_tenure s n who) id
@[simp] theorem countTuneKind_coreOf (k) : coreOf (countTuneKind k s) id = coreOf s id :=
  coreOf_of_tenure (countTuneKind_tenure s k) id
@[simp] theorem requestClaim_coreOf (c o) : coreOf (requestClaim c o s) id = coreOf s id :=
  coreOf_of_tenure (requestClaim_tenure s c o) id
@[simp] theorem requestWarmUp_coreOf (n j) : coreOf (requestWarmUp n j s) id = coreOf s id :=
  coreOf_of_tenure (requestWarmUp_tenure s n j) id
@[simp] theorem setFactor_coreOf (n v i rho c) : coreOf (setFactor n v i rho c s) id = coreOf s id := by
  refine coreOf_of_chg ?_ id
  unfold setFactor
  dsimp only
  (repeat' split) <;> rfl
@[simp] theorem setWork_coreOf (j f) : coreOf (setWork j f s) id = coreOf s id := coreOf_updOrder (by intro o; rfl) id s
@[simp] theorem refreshMove_coreOf (j) : coreOf (refreshMove j s) id = coreOf s id := setWork_coreOf ..
@[simp] theorem setMark_coreOf (j m) : coreOf (setMark j m s) id = coreOf s id :=
  (coreOf_updOrder (by intro o; rfl) id _).trans (noteOrder_coreOf ..)
@[simp] theorem dropTune_coreOf (n) : coreOf (dropTune n s) id = coreOf s id := by
  unfold dropTune
  split
  · rfl
  · dsimp only
    split
    · exact setWork_coreOf ..
    · rfl
@[simp] theorem goOffline_coreOf (n) : coreOf (goOffline n s) id = coreOf s id := by
  have hlose : ∀ lo t, t.chg = s.chg → coreOf (loseWork n lo t) id = coreOf s id := by
    intro lo t ht
    have hdrop : coreOf (failOrdersOn n lo .recovering .txLost (dropTune n t)) id = coreOf s id :=
      (coreOf_of_tenure (failOrdersOn_tenure ..) id).trans ((dropTune_coreOf ..).trans (coreOf_of_chg ht id))
    unfold loseWork
    dsimp only
    split <;> exact hdrop
  unfold goOffline
  dsimp only
  split
  · rfl
  · refine hlose _ _ ?_
    split <;> rfl
@[simp] theorem takeState_coreOf (n) : coreOf (takeState n s) id = coreOf s id := by
  unfold takeState
  split
  · exact goOffline_coreOf ..
  · dsimp only
    split <;> rfl
  · rfl
@[simp] theorem endSearch_coreOf (n) : coreOf (endSearch n s) id = coreOf s id := by
  unfold endSearch takeStateIfTuning
  split
  · exact (takeState_coreOf ..).trans (dropTune_coreOf ..)
  · exact dropTune_coreOf ..
@[simp] theorem dropRecovery_coreOf (n j) : coreOf (dropRecovery n j s) id = coreOf s id := by
  unfold dropRecovery leaveTripped
  split
  · split
    · split
      · exact takeState_coreOf ..
      · rfl
    · rfl
  · rfl
@[simp] theorem endBlind_coreOf (n) : coreOf (endBlind n s) id = coreOf s id := by
  unfold endBlind
  split
  · rfl
  · rw [goOffline_coreOf, forEach_keeps (fun t => coreOf t id) _ _ _ fun _ _ => coreOf_updOrder (fun _ => by rfl) id _]
    rfl
end same

/-- The stage set is the stage; nothing else of the order changes. -/
theorem setStage_coreOf (id : Nat) (st : Stage) (s : State) :
    coreOf (setStage id st s) id = (coreOf s id).map (fun o => { o with stage := st }) := by
  have hset : coreOf (updOrder id (fun x => { x with stage := st, stageSecs := 0 }) (noteOrder id s)) id =
      (coreOf s id).map (fun o => { o with stage := st }) := by
    have hnote : order? (noteOrder id s) id = order? s id := by unfold order?; rw [noteOrder_chg]
    unfold coreOf
    rw [order?_updOrder id id _ (fun _ => by rfl), hnote]
    cases ho : order? s id with
    | none => rfl
    | some o => simp [(order?_mem ho).2, Order.core]
  unfold setStage
  split
  next hnone => rw [coreOf, hnone]; rfl
  next =>
    dsimp only
    split
    · rw [endBlind_coreOf, ← hset]
      rfl
    · exact hset

theorem setStage_coreOf_ne {j id : Nat} (h : j ≠ id) (st : Stage) (s : State) : coreOf (setStage j st s) id = coreOf s id := by
  have hset : coreOf (updOrder j (fun x => { x with stage := st, stageSecs := 0 }) (noteOrder j s)) id = coreOf s id :=
    (coreOf_updOrder_ne h (by intro o; rfl) _).trans (noteOrder_coreOf ..)
  unfold setStage
  split
  · rfl
  · dsimp only
    split
    · rw [endBlind_coreOf, ← hset]
      rfl
    · exact hset

/-! ### Another order is preempted -/

theorem order?_finishOrder (id : Nat) (out : OrderOutcome) (s : State) : order? (finishOrder id out s) id = none := by
  have hgone : ∀ k ∈ (finishOrder id out s).stages, k.1 ≠ id := by
    rw [finishOrder_stages]
    intro k hk
    simpa using (List.mem_filter.mp hk).2
  unfold order?
  rw [List.find?_eq_none]
  intro o ho
  simpa using hgone (o.id, o.stage) (List.mem_map_of_mem ho)

theorem coreOf_eq_unmarked (s : State) (id : Nat) :
    coreOf s id = (s.unmarked.find? (fun o => o.id == id)).map Order.core := by
  rw [← order?_unmarked, Option.map_map]
  rfl

theorem finishOrder_coreOf_ne {j id : Nat} (h : j ≠ id) (out : OrderOutcome) (s : State) :
    coreOf (finishOrder j out s) id = coreOf s id := by
  have hsame : (fun o : Order => decide ((o.id != j) = true ∧ (o.id == id) = true)) = fun o => o.id == id := by
    funext o
    by_cases ho : o.id = id
    · simp [ho, Ne.symm h]
    · simp [ho]
  rw [coreOf_eq_unmarked, coreOf_eq_unmarked, finishOrder_unmarked, List.find?_filter, hsame]

theorem enterClosing_coreOf_ne {j id : Nat} (h : j ≠ id) (out : OrderOutcome) (s : State) :
    coreOf (enterClosing j out s) id = coreOf s id := by
  have hupd : ∀ (f : Order → Order) (t : State), (∀ o, (f o).id = o.id) → coreOf (updOrder j f t) id = coreOf t id :=
    fun f t hf => coreOf_updOrder_ne h hf t
  unfold enterClosing
  split
  · rfl
  · dsimp only
    (repeat' split) <;> simp [hupd, setStage_coreOf_ne h]

/-- A preemption for another order leaves an order alone, but for its mark (R60, R84). -/
theorem preemptFor_coreOf_ne {j id : Nat} (h : j ≠ id) (rescued : Nat) (s : State) :
    coreOf (preemptFor rescued j s) id = coreOf s id := by
  have hmark : ∀ o : Order, coreOf (if o.preempting.isSome then setMark j none s else s) id = coreOf s id := fun o => by
    split
    · exact setMark_coreOf ..
    · rfl
  unfold preemptFor
  split
  · exact coreOf_updOrder_ne h (by intro o; rfl) s
  · unfold preempt
    split
    · rfl
    next o _ =>
      dsimp only
      split
      · rw [finishOrder_coreOf_ne h, hmark]
      · exact hmark o
      · rw [enterClosing_coreOf_ne h, hmark]

theorem forEach_coreOf {α : Type} {id : Nat} {l : List α} {f : α → State → State} {s : State}
    (hf : ∀ a ∈ l, ∀ t, coreOf (f a t) id = coreOf t id) : coreOf (forEach l f s) id = coreOf s id := by
  induction l generalizing s with
  | nil => rfl
  | cons a l ih =>
    have hstep : forEach (a :: l) f s = forEach l f (f a s) := rfl
    rw [hstep, ih fun b hb => hf b (List.mem_cons_of_mem _ hb), hf a (List.mem_cons_self ..)]

/-! ### A failure at preparation (R66, R86, R88) -/

/-- A rescued order is STAGED once more, keeps its failure and has one rescue more (R88). -/
theorem rescue_order? {o : Order} {s : State} (ho : order? s o.id = some o) (c : Nat × Nat) :
    ∃ p, order? (rescue o c s) o.id = some p ∧ p.stage = .staged ∧ p.rescues = o.rescues + 1 ∧ p.failure = o.failure := by
  have hnoted : ∀ f, order? (updProt o.snap.tx (fun p => { p with unproven := false }) (updNote o.id f (noteOrder o.id s))) o.id =
      some o := by
    intro f
    have hnote : order? (noteOrder o.id s) o.id = some o := by
      unfold order?
      rw [noteOrder_chg]
      exact ho
    exact hnote
  have hcore : ∃ q, coreOf (rescue o c s) o.id = some q ∧ q.stage = .staged ∧ q.rescues = o.rescues + 1 ∧ q.failure = o.failure := by
    unfold rescue
    dsimp only
    rw [emit_coreOf, forEach_coreOf fun p hp t => preemptFor_coreOf_ne ?_ o.id t]
    · rw [count_coreOf, setFactor_coreOf, updTx_coreOf, coreOf_updOrder_self (by intro o; rfl), hnoted]
      exact ⟨_, rfl, rfl, rfl, rfl⟩
    · have hother := (List.mem_filter.mp hp).2
      simp only [Bool.and_eq_true, bne_iff_ne] at hother
      exact hother.1
  obtain ⟨q, hq, hst, hres, hfail⟩ := hcore
  obtain ⟨p, hp, rfl⟩ := Option.map_eq_some_iff.mp hq
  exact ⟨p, hp, hst, hres, hfail⟩

/-- An order that fails at preparation leaves the table or is rescued (R66, R86). -/
theorem failPreparation_order? {id : Nat} {o : Order} {cause : FailCause} {s : State} (ho : order? s id = some o) :
    order? (failPreparation id cause s) id = none ∨ ∃ p, order? (failPreparation id cause s) id = some p ∧ p.stage = .staged ∧
      p.rescues = o.rescues + 1 ∧ p.failure = some cause := by
  obtain ⟨hmem, rfl⟩ := order?_mem ho
  have hfailed : order? (updOrder o.id (fun x => { x with failure := some cause, outcomeDue := some .failed }) s) o.id =
      some { o with failure := some cause, outcomeDue := some .failed } := by
    rw [order?_updOrder _ _ _ (by intro o; rfl), ho]
    simp
  unfold failPreparation finishClosing
  rw [hfailed]
  dsimp only
  split
  next c _ => exact .inr (rescue_order? hfailed c)
  · exact .inl (order?_finishOrder ..)

theorem rescueFor_of_noAntenna {s : State} {p : Order} (h : p.failure = some .noAntenna) : rescueFor s p = none := by
  unfold rescueFor
  rw [if_neg (by simp [h, FailCause.rescued])]

/-- For want of an antenna no order is rescued (R86). -/
theorem failPreparation_noAntenna {id : Nat} {s : State} : order? (failPreparation id .noAntenna s) id = none := by
  unfold failPreparation finishClosing
  split
  next hnone => exact hnone
  next p hp =>
    have hcause : p.failure = some .noAntenna := by
      rw [order?_updOrder _ _ _ (by intro o; rfl)] at hp
      obtain ⟨o, ho, rfl⟩ := Option.map_eq_some_iff.mp hp
      rw [if_pos (order?_mem ho).2]
    rw [rescueFor_of_noAntenna hcause]
    exact order?_finishOrder ..

/-! ### The choices at preparation (R70, R71) -/

/-- The choice of the antenna looks at the directory, the matrix, the Hall Description and the programme alone. -/
theorem chooseAntenna_congr {s t : State} {o p : Order} (hdir : t.dir = s.dir) (hmx : t.mx = s.mx) (hhall : t.hall = s.hall)
    (hsnap : p.snap = o.snap) : chooseAntenna t p = chooseAntenna s o := by
  have husable : ∀ n a, usable t n a p = usable s n a o := by
    intro n a
    unfold usable dirRec antRec? segmentRating antRec? xpAt rowXps isEssential
    rw [hdir, hmx, hhall, hsnap]
  unfold chooseAntenna
  simp only [husable, hsnap]

/-- The state in which preparation makes its choices: the factor is back at 1000 (R155). -/
def preparing (id n : Nat) (s : State) : State := setFactor n 1000 (some id) none .preparation (noteOrder id s)

/-- What the choices at preparation look at. -/
theorem preparing_fields (id n : Nat) (s : State) : (preparing id n s).dir = s.dir ∧ (preparing id n s).mx = s.mx ∧
    (preparing id n s).tx = s.tx ∧ (preparing id n s).hall = s.hall ∧ (preparing id n s).chg = s.chg := by
  have hfactor : ∀ t : State, (preparing id n t).dir = (noteOrder id t).dir ∧ (preparing id n t).mx = (noteOrder id t).mx ∧
      (preparing id n t).tx = (noteOrder id t).tx ∧ (preparing id n t).hall = (noteOrder id t).hall ∧
      (preparing id n t).chg = (noteOrder id t).chg := by
    intro t
    unfold preparing setFactor
    dsimp only
    (repeat' split) <;> exact ⟨rfl, rfl, rfl, rfl, rfl⟩
  have hnote : (noteOrder id s).dir = s.dir ∧ (noteOrder id s).mx = s.mx ∧ (noteOrder id s).tx = s.tx ∧
      (noteOrder id s).hall = s.hall ∧ (noteOrder id s).chg = s.chg := by
    unfold noteOrder
    (repeat' split) <;> exact ⟨rfl, rfl, rfl, rfl, rfl⟩
  obtain ⟨h1, h2, h3, h4, h5⟩ := hfactor s
  obtain ⟨k1, k2, k3, k4, k5⟩ := hnote
  exact ⟨h1.trans k1, h2.trans k2, h3.trans k3, h4.trans k4, h5.trans k5⟩

theorem txCtl_of_tx {s t : State} (h : t.tx = s.tx) (n : Nat) : txCtl t n = txCtl s n := by unfold txCtl; rw [h]

theorem tuneKindFor_of_tx {s t : State} (h : t.tx = s.tx) (n f : Nat) : tuneKindFor t n f = tuneKindFor s n f := by
  unfold tuneKindFor presetHit presetAt
  rw [txCtl_of_tx h]

/-- The antenna that preparation takes: one that was kept, or the choice of R71. -/
def chosenAntenna (s : State) (o : Order) : Option Nat := if o.keepAntenna then o.antenna else chooseAntenna s o

theorem chosenAntenna_preparing (id n : Nat) (s : State) (o : Order) : chosenAntenna (preparing id n s) o = chosenAntenna s o := by
  obtain ⟨hdir, hmx, -, hhall, -⟩ := preparing_fields id n s
  unfold chosenAntenna
  rw [chooseAntenna_congr hdir hmx hhall rfl]

/-- The order with its choices made (R70, R71). -/
def Order.prepared (s : State) (a : Nat) (o : Order) : Order :=
  { o with antenna := some a, tuneKind := some (tuneKindFor s o.snap.tx o.snap.freq), keepAntenna := false
           alternateUsed := if o.keepAntenna then o.alternateUsed else decide (a ≠ o.snap.primary) }

theorem askClaim_coreOf (id : Nat) (s : State) : coreOf (askClaim id s) id = coreOf s id := by
  have hasked : coreOf (updOrder id (fun x => { x with claimDue := false, work := { x.work with claim := true } }) s) id =
      coreOf s id := coreOf_updOrder (by intro o; rfl) id s
  unfold askClaim
  dsimp only
  split
  · split
    · exact hasked
    · rw [requestClaim_coreOf, hasked]
  · exact hasked

section begins
variable {id : Nat} {o : Order} {s : State} (ho : order? s id = some o)
include ho

/-- On a transmitter that is OFFLINE or LOCKED-OUT preparation fails (R70). -/
theorem beginPreparation_of_lost (hst : (txCtl s o.snap.tx).state = .offline ∨ (txCtl s o.snap.tx).state = .lockedOut) :
    beginPreparation id s = failPreparation id (if (txCtl s o.snap.tx).state = .offline then .txLost else .txLockout)
      (preparing id o.snap.tx s) := by
  have htx : txCtl (preparing id o.snap.tx s) o.snap.tx = txCtl s o.snap.tx := txCtl_of_tx (preparing_fields ..).2.2.1 _
  unfold beginPreparation
  rw [ho]
  unfold preparing at htx ⊢
  dsimp only
  rw [htx]
  rcases hst with hst | hst <;> rw [hst] <;> rfl

/-- Elsewhere it fails for want of an antenna (R71). -/
theorem beginPreparation_of_noAntenna (hoff : (txCtl s o.snap.tx).state ≠ .offline) (hlock : (txCtl s o.snap.tx).state ≠ .lockedOut)
    (hnone : chosenAntenna s o = none) :
    beginPreparation id s = failPreparation id .noAntenna (preparing id o.snap.tx s) := by
  have htx : txCtl (preparing id o.snap.tx s) o.snap.tx = txCtl s o.snap.tx := txCtl_of_tx (preparing_fields ..).2.2.1 _
  have hchosen : chosenAntenna (preparing id o.snap.tx s) o = none := (chosenAntenna_preparing ..).trans hnone
  unfold beginPreparation
  rw [ho]
  unfold preparing at htx hchosen ⊢
  unfold chosenAntenna at hchosen
  dsimp only
  rw [htx]
  split
  next h => exact absurd h hoff
  next h => exact absurd h hlock
  · rw [hchosen]

/-- Elsewhere, with an antenna chosen, the order makes its choices and enters WARMING or CLEARING (R65, R72). -/
theorem beginPreparation_core {a : Nat} (hoff : (txCtl s o.snap.tx).state ≠ .offline)
    (hlock : (txCtl s o.snap.tx).state ≠ .lockedOut) (ha : chosenAntenna s o = some a) :
    coreOf (beginPreparation id s) id = some { (o.prepared s a).core with
      stage := if (txCtl s o.snap.tx).state = .cold ∨ (txCtl s o.snap.tx).state = .warming then .warming else .clearing } := by
  have htx : (preparing id o.snap.tx s).tx = s.tx := (preparing_fields ..).2.2.1
  have hctl : txCtl (preparing id o.snap.tx s) o.snap.tx = txCtl s o.snap.tx := txCtl_of_tx htx _
  have hkind : tuneKindFor (preparing id o.snap.tx s) o.snap.tx o.snap.freq = tuneKindFor s o.snap.tx o.snap.freq :=
    tuneKindFor_of_tx htx ..
  have hchosen : chosenAntenna (preparing id o.snap.tx s) o = some a := (chosenAntenna_preparing ..).trans ha
  have ho' : order? (preparing id o.snap.tx s) id = some o := by
    unfold order?
    rw [(preparing_fields ..).2.2.2.2]
    exact ho
  have hmade : ∀ putOff : Bool, coreOf (updOrder id (fun x => { x with
      antenna := some a, tuneKind := some (tuneKindFor s o.snap.tx o.snap.freq), keepAntenna := false, claimDue := putOff
      alternateUsed := if x.keepAntenna then x.alternateUsed else decide (a ≠ x.snap.primary) }) (preparing id o.snap.tx s)) id =
      some (o.prepared s a).core := by
    intro putOff
    rw [coreOf_updOrder_self (by intro x; rfl), ho']
    rfl
  have hclaim : ∀ (c : Prop) [Decidable c] (t : State), coreOf (if c then t else askClaim id t) id = coreOf t id := by
    intro c _ t
    split
    · rfl
    · exact askClaim_coreOf ..
  unfold beginPreparation
  rw [ho]
  unfold preparing at hctl hkind hchosen hmade
  unfold chosenAntenna at hchosen
  dsimp only
  rw [hctl]
  split
  next h => exact absurd h hoff
  next h => exact absurd h hlock
  · rw [hchosen]
    dsimp only
    rw [hkind]
    by_cases hcold : (txCtl s o.snap.tx).state = .cold ∨ (txCtl s o.snap.tx).state = .warming
    · rw [if_pos (by simpa using hcold), if_pos hcold]
      unfold enterWarming
      rw [requestWarmUp_coreOf, setWork_coreOf, setStage_coreOf, hclaim, countTuneKind_coreOf, hmade]
      rfl
    · rw [if_neg (by simpa using hcold), if_neg hcold]
      unfold enterClearing
      rw [emit_coreOf, setStage_coreOf, hclaim, countTuneKind_coreOf, hmade]
      rfl

end begins

/-! ### The statement -/

/-- What the statement calls `begun`: the choices stand in the order, and it is in WARMING or CLEARING. -/
theorem begun_of_core {id a : Nat} {o : Order} {s u : State} (h : coreOf u id = some { (o.prepared s a).core with
      stage := if (txCtl s o.snap.tx).state = .cold ∨ (txCtl s o.snap.tx).state = .warming then .warming else .clearing }) :
    ∃ p, order? u id = some p ∧ p.antenna = some a ∧ p.tuneKind = some (tuneKindFor s o.snap.tx o.snap.freq) ∧ p.snap = o.snap ∧
      (o.keepAntenna = false → (p.alternateUsed = true ↔ a ≠ o.snap.primary)) ∧
      ((txCtl s o.snap.tx).state = .cold ∨ (txCtl s o.snap.tx).state = .warming → p.stage = .warming) ∧
      (¬ ((txCtl s o.snap.tx).state = .cold ∨ (txCtl s o.snap.tx).state = .warming) → p.stage = .clearing) := by
  obtain ⟨p, hp, he⟩ := Option.map_eq_some_iff.mp h
  have halt : p.alternateUsed = if o.keepAntenna then o.alternateUsed else decide (a ≠ o.snap.primary) :=
    (congrArg Order.alternateUsed he :)
  have hst : p.stage = if (txCtl s o.snap.tx).state = .cold ∨ (txCtl s o.snap.tx).state = .warming then .warming else .clearing :=
    (congrArg Order.stage he :)
  refine ⟨p, hp, congrArg Order.antenna he, congrArg Order.tuneKind he, (congrArg Order.snap he :), fun hkeep => ?_, fun hcold => ?_,
    fun hcold => ?_⟩
  · rw [halt, hkeep]
    simp
  · rw [hst, if_pos hcold]
  · rw [hst, if_neg hcold]

theorem preparationBegin_exec {id : Nat} {o : Order} {s : State} (hp : s.pins.powered = true) (ho : order? s id = some o) :
    exec (.preparationBegin id) s = .next (settle (if preparesNow s o then beginPreparation id s else s)) := by
  unfold exec execPreparationBegin
  refine (event_powered hp).trans ?_
  rw [ho]

/-- ORDER-ADVANCE puts the prepare instant to now and begins (R66). -/
theorem orderAdvance_accepted {tag id : Nat} {o : Order} {s : State} (hs : s.running) (ho : order? s id = some o) (h1 : 1 ≤ id)
    (h2 : id ≤ 65535) (hst : o.stage = .staged) (hkey : s.pins.key = .remote) (hauto : o.origin = .manual ∨ isAuto s = true)
    (hfree : isFree s o.snap.tx id = true)
    (hfirst : ∀ p ∈ ordersOf s o.snap.tx, p.id ≠ id → p.stage = .staged → o.start ≤ p.start) :
    exec (.orderAdvance tag id) s = .next (okReply 0x2A tag (.orderAdvanced o.prepare
      ((order? (settle (beginPreparation id (updOrder id (fun x => { x with prepare := now s }) s))) id).map (·.stage)))
      (settle (beginPreparation id (updOrder id (fun x => { x with prepare := now s }) s)))) := by
  have hbusy : (!isFree s o.snap.tx id || (ordersOf s o.snap.tx).any
      (fun p => p.id != id && p.stage == .staged && decide (p.start < o.start))) = false := by
    simp only [hfree, Bool.not_true, Bool.false_or, List.any_eq_false, Bool.and_eq_true, bne_iff_ne, beq_iff_eq,
      decide_eq_true_iff, not_and, Nat.not_lt, and_imp]
    exact hfirst
  have hsched : (isScheduled o && !isAuto s) = false := by
    rcases hauto with h | h
    · simp [isScheduled, h]
    · simp [h]
  unfold exec execOrderAdvance
  refine request_accepted (u := beginPreparation id (updOrder id (fun x => { x with prepare := now s }) s))
    (data := fun t => .orderAdvanced o.prepare ((order? t id).map (·.stage))) hs.1 ?_
  rw [checks_pass (by simp [within, h1, h2]), ho]
  dsimp only
  exact checks_pass (by simp [hst, isLocal, hkey, hsched, hbusy])

/-- Settles O39: what preparation does is followed through to the order, but for the parts that the work of others changes; the
rivals of a rescue are other orders. -/
theorem preparationChoosesAntennaAndTune : Obligations.PreparationChoosesAntennaAndTune := by
  unfold Obligations.PreparationChoosesAntennaAndTune
  intro id o s hs ho
  have hexec := preparationBegin_exec hs.1 ho
  refine ⟨fun hno => ?_, fun hyes hlost => ⟨beginPreparation id s, ?_, beginPreparation_given .., ?_⟩, fun hoff hlock => ?_⟩
  · rw [hexec, hno]
    exact congrArg _ (settle_of_settled hs.2)
  · rw [hexec, if_pos hyes]
  · have ho' : order? (preparing id o.snap.tx s) id = some o := by
      unfold order?
      rw [(preparing_fields ..).2.2.2.2]
      exact ho
    rw [beginPreparation_of_lost ho hlost]
    exact failPreparation_order? ho'
  · refine ⟨fun hyes hnone => ⟨beginPreparation id s, by rw [hexec, if_pos hyes], beginPreparation_given .., ?_⟩,
      fun a hyes ha => ⟨beginPreparation id s, by rw [hexec, if_pos hyes], beginPreparation_given ..,
        begun_of_core (beginPreparation_core ho hoff hlock ha)⟩, fun tag a ha h1 h2 hst hkey hauto hfree hfirst => ?_⟩
    · rw [beginPreparation_of_noAntenna ho hoff hlock hnone]
      exact failPreparation_noAntenna
    · have ho' : order? (updOrder id (fun x => { x with prepare := now s }) s) id = some { o with prepare := now s } := by
        rw [order?_updOrder _ _ _ (by intro x; rfl), ho]
        simp [(order?_mem ho).2]
      have hchosen : chosenAntenna (updOrder id (fun x => { x with prepare := now s }) s) { o with prepare := now s } = some a :=
        ha
      refine ⟨_, orderAdvance_accepted hs ho h1 h2 hst hkey hauto hfree hfirst, by simp, ?_⟩
      have hbegun := begun_of_core (beginPreparation_core ho' hoff hlock hchosen)
      exact hbegun

end Sys2Proof.Machine
end

section
/-! PROOFS. Every step settles the RF Permit lines, which are asserted exactly under R120 (O5, O10); reset meets the invariants
(O4); the reads of the running state (O26). -/

set_option Elab.async false

namespace Sys2Proof.Machine

/-! ### One step, command by command -/

/-- A property of the state that a change of the queue or of the Control Link Port alone cannot lose is kept by every step as
soon as every command but FRAME_TAKEN keeps it: a frame carries out one of those, or brings a reply (R182). -/
theorem step_induction {P : State → Prop} (hpending : ∀ s l, P s → P { s with pending := l })
    (hport : ∀ s f, P s → P (s.onPort f)) (hexec : ∀ c s t, c ≠ .frameTaken → P s → exec c s = .next t → P t)
    {s t : State} (h : P s) (hstep : step s = .next t) : P t := by
  have hcarry : ∀ (i : Instr) (u : State), P u → carryOut i u = .next t → P t := by
    intro i u hu hi
    rcases carryOut_cases i u with e | ⟨e, hne, -⟩ <;> rw [e] at hi
    · cases hi; exact hu
    · exact hexec i u t hne hu hi
  unfold step at hstep
  split at hstep
  · cases hstep; exact h
  next c l _ =>
    have hs := hpending s l h
    by_cases hc : c = .frameTaken
    · subst hc
      simp only [exec, execFrameTaken] at hstep
      split at hstep
      · cases hstep; exact hs
      split at hstep
      · cases hstep; exact hs
      next f rest _ =>
        have hrx := hport _ (fun p => { p with rx := rest }) hs
        split at hstep
        · exact hcarry _ _ hrx hstep
        all_goals
          cases hstep
          exact hport _ _ hrx
    · exact hexec c _ t hc hs hstep

/-! ### Settled states -/

theorem onPort_settled {s : State} (f : Port → Port) (h : s.settled) : (s.onPort f).settled :=
  settled_eq rfl rfl rfl rfl rfl rfl h

theorem event_settled {f : State → State} {s t : State} (h : s.settled) (he : event f s = .next t) : t.settled := by
  rcases event_next he with ⟨rfl, -⟩ | ⟨rfl, -⟩
  · exact h
  · exact settle_settled _

theorem request_settled {kind tag : Nat} {f : State → Answer} {s t : State} (h : s.settled)
    (hr : request kind tag f s = .next t) : t.settled := by
  rcases request_next hr with ⟨rfl, -⟩ | ⟨st, d, -, rfl⟩ | ⟨u, data, -, rfl⟩
  · exact h
  · exact queueReply_settled _ _ _ _ _ h
  · exact queueReply_settled _ _ _ _ _ (settle_settled u)

theorem readRequest_settled {kind tag : Nat} {f : State → Except (Status × Detail) ReplyData} {s t : State} (h : s.settled)
    (hr : readRequest kind tag f s = .next t) : t.settled := by
  rcases readRequest_next hr with rfl | ⟨st, d, data, rfl⟩
  · exact h
  · exact queueReply_settled _ _ _ _ _ h

/-- Without supply every line is WITHDRAWN (log 6). -/
theorem permitRule_unpowered {s : State} (h : s.pins.powered = false) (n : Nat) : permitRule s n = false := by
  unfold permitRule
  split
  · simp [h]
  · rfl

/-- Without supply a line from outside moves alone, and the permits stand as they are (log 6). -/
theorem onPins_settled {s : State} {f : Pins → Pins} (hp : s.pins.powered = false) (hf : (f s.pins).powered = false)
    (hl : (f s.pins).permits = s.pins.permits) (h : s.settled) : (s.onPins f).settled := by
  have hrule : permitRule (s.onPins f) = permitRule s :=
    funext fun n => (permitRule_unpowered hf n).trans (permitRule_unpowered hp n).symm
  refine ⟨h.1, ?_⟩
  unfold State.permitsFollow
  rw [hrule]
  exact hl.trans h.2

theorem judgePermits_settled {s : State} (h : s.atRest) : (judgePermits s).settled := ⟨h, judgePermits_follow s⟩

/-- A line from outside: without supply it moves alone, and with supply it is an event (log 6). -/
theorem execHallKeyChange_settled {p : Control} {s t : State} (h : s.settled) (hr : execHallKeyChange p s = .next t) :
    t.settled := by
  unfold execHallKeyChange at hr
  (repeat' split at hr)
  next hp => cases hr; exact onPins_settled (by simpa using hp) (by simpa using hp) rfl h
  · cases hr; exact h
  · exact event_settled h hr
  · exact event_settled h hr

theorem execSafetyChainOpen_settled {s t : State} (h : s.settled) (hr : execSafetyChainOpen s = .next t) : t.settled := by
  unfold execSafetyChainOpen at hr
  (repeat' split at hr)
  next hp => cases hr; exact onPins_settled (by simpa using hp) (by simpa using hp) rfl h
  · exact event_settled h hr
  · cases hr; exact h

theorem execSafetyChainClose_settled {s t : State} (h : s.settled) (hr : execSafetyChainClose s = .next t) : t.settled := by
  unfold execSafetyChainClose at hr
  (repeat' split at hr)
  next hp => cases hr; exact onPins_settled (by simpa using hp) (by simpa using hp) rfl h
  · cases hr; exact h
  · exact event_settled h hr

theorem execStore_settled {tag : Nat} {s t : State} (h : s.settled) (hr : execStore tag s = .next t) : t.settled := by
  unfold execStore at hr
  (repeat' split at hr) <;> cases hr
  · exact h
  · exact queueReply_settled _ _ _ _ _ h
  · exact beginStore_settled tag h

theorem execPowerOn_settled {s t : State} (h : s.settled) (hr : execPowerOn s = .next t) : t.settled := by
  unfold execPowerOn at hr
  split at hr <;> cases hr
  · exact h
  · exact judgePermits_settled (powerUp_starts s).1.atRest

theorem exec_settled {c : Instr} {s t : State} (hc : c ≠ .frameTaken) (h : s.settled) (hr : exec c s = .next t) :
    t.settled := by
  cases c <;> simp only [exec] at hr
  case frameTaken => exact absurd rfl hc
  case powerOn => exact execPowerOn_settled h hr
  case powerLoss => cases hr; exact judgePermits_settled h.1
  case hallKeyChange => exact execHallKeyChange_settled h hr
  case safetyChainOpen => exact execSafetyChainOpen_settled h hr
  case safetyChainClose => exact execSafetyChainClose_settled h hr
  case store => exact execStore_settled h hr
  case txRead | antRead | hallRead | lineRead | entryRead | bankStatus | timeRead | orderList | orderRead | matrixRead |
      presetRead | faultRead | identify => exact readRequest_settled h hr
  case controlLinkByte | gapTimeout | outgoingFrameSent | timeMark | internalSecondBoundary | markWatchExpiry |
      preparationBegin | movementStart | moveTimeout | slewStart | slewTimeout | pollReplyTlu | pollReplyMdu | pollReplyAru |
      transactionMiss | commandReply | warmUpTimeout | idleClockCoolDown | searchTuneTimeout | presetTuneTimeout |
      blindHoldExpiry | recoveryDelayExpiry | rampEnd | carrierOffConfirmTimeout | storeWriteComplete =>
    exact event_settled h hr
  all_goals exact request_settled h hr

/-- Settles O5: a command leaves a settled state as it is but for a reply, or it settles what it has done. -/
theorem everyStepSettlesThePermits : Obligations.EveryStepSettlesThePermits := by
  intro s t
  exact step_induction (fun _ _ h => h) (fun _ f h => onPort_settled f h) (fun _ _ _ hc h hr => exec_settled hc h hr)

/-! ### The lines of a settled state (R120) -/

theorem nth_upTo {n k : Nat} (h1 : 1 ≤ n) (h2 : n ≤ k) : nth (upTo k) n = some n := by
  unfold nth upTo
  rw [if_neg (by omega), List.getElem?_map, List.getElem?_range (by omega)]
  simp only [Option.map_some, Option.some.injEq]
  omega

theorem nth_permits {s : State} (h : s.permitsFollow) {n : Nat} (h1 : 1 ≤ n) (h2 : n ≤ 16) :
    nth s.pins.permits n = some (permitRule s n) := by
  rw [show s.pins.permits = _ from h, nth_map, nth_upTo h1 h2, Option.map_some]

/-- R120, condition by condition. -/
theorem permitRule_iff (s : State) (n : Nat) : permitRule s n = true ↔ s.pins.powered = true ∧
    (∃ c, rowWhere s n (fun x => x != .opened) = [c] ∧ (xpAt s n c).state = .closed ∧
      ∀ r, rotator? s c = some r → r.slew ≠ .slewing) ∧
    s.pins.chainClosed = true ∧ (txCtl s n).state ≠ .lockedOut ∧ (txCtl s n).pastBlind = false ∧
    ∃ o ∈ s.chg.orders, o.snap.tx = n ∧ (o.stage.carrier = true ∨ o.stage = .tuning ∧ searching s n = true) := by
  unfold permitRule
  split
  next c hc =>
    have hcol : (∃ d, rowWhere s n (fun x => x != .opened) = [d] ∧ (xpAt s n d).state = .closed ∧
        ∀ r, rotator? s d = some r → r.slew ≠ .slewing) ↔
        (xpAt s n c).state = .closed ∧ ∀ r, rotator? s c = some r → r.slew ≠ .slewing := by
      simp [hc]
    rw [hcol]
    cases rotator? s c
    all_goals
      simp only [Bool.and_eq_true, ordersOf, List.any_eq_true, List.mem_filter, beq_iff_eq, bne_iff_ne, Bool.not_eq_true',
        Bool.or_eq_true, Option.some.injEq, forall_eq', reduceCtorEq, false_implies, implies_true, and_true, and_assoc]
      grind
  next hno =>
    simp only [Bool.false_eq_true, false_iff]
    rintro ⟨-, ⟨c, hc, -⟩, -⟩
    exact hno c hc

/-- No line is ASSERTED while the chain is OPEN or the supply is away. -/
theorem silent_of_permitsFollow {s : State} (h : s.permitsFollow)
    (hoff : s.pins.chainClosed = false ∨ s.pins.powered = false) : s.silent := by
  have hrule : ∀ k, permitRule s k = false := by
    intro k
    rw [Bool.eq_false_iff]
    intro hk
    obtain ⟨hpow, -, hchain, -⟩ := (permitRule_iff s k).mp hk
    rcases hoff with h' | h'
    · rw [h'] at hchain; cases hchain
    · rw [h'] at hpow; cases hpow
  intro n
  rw [show s.pins.permits = _ from h, nth_map]
  cases nth (upTo 16) n <;> simp [hrule]

/-- Settles O10: the state after a step is settled, and R120 gives its lines condition by condition. -/
theorem aPermitIsAssertedExactlyUnderItsConditions : Obligations.APermitIsAssertedExactlyUnderItsConditions := by
  intro s t hs hstep
  have ht := (everyStepSettlesThePermits s t hs hstep).2
  refine ⟨silent_of_permitsFollow ht, fun hpow n h1 h2 => ?_⟩
  rw [nth_permits ht h1 h2, Option.some.injEq, permitRule_iff]
  exact and_iff_right hpow

/-! ### Reset -/

theorem reset_running : State.reset.running := by
  refine ⟨rfl, ⟨rfl, rfl⟩, ?_⟩
  have hrule : ∀ n, permitRule State.reset n = false := by
    intro n
    rw [Bool.eq_false_iff]
    intro h
    obtain ⟨-, -, -, -, -, o, ho, -⟩ := (permitRule_iff _ n).mp h
    cases ho
  unfold State.permitsFollow
  rw [show permitRule State.reset = fun _ => false from funext hrule]
  rfl

theorem reset_whole : State.reset.whole := ⟨rfl, rfl, rfl, rfl, rfl, trivial, trivial, nofun⟩

theorem reset_limits : State.reset.limits :=
  (limits_iff _).mpr (LimitsBut.blank.onPort (f := fun p => { p with out := _, sequence := 1 }) (by decide) (Nat.zero_le _))

theorem reset_factorsInRange : State.reset.factorsInRange := by
  intro p hp
  rw [List.eq_of_mem_replicate hp]
  decide

theorem reset_wearInOrder : State.reset.wearInOrder := by
  refine ⟨by decide, fun row hrow x hx => ?_, trivial, trivial, nofun⟩
  rw [List.eq_of_mem_replicate hrow] at hx
  rw [List.eq_of_mem_replicate hx]
  simp [wearOk, State.reset, State.blank]

/-- Settles O4: every table of reset is filled with one default, which meets each invariant. -/
theorem resetMeetsEveryInvariant : Obligations.ResetMeetsEveryInvariant :=
  ⟨reset_running, reset_whole, reset_limits, reset_factorsInRange, reset_wearInOrder⟩

/-! ### The reads of the running state (R52, R124, R147, R187, R192) -/

section reads
variable {tag : Nat} {s : State} (hp : s.pins.powered = true)
include hp

theorem execTimeRead_ok : execTimeRead tag s = .next (okReply 0x21 tag (.timeRead
    { time := s.clock.time, state := s.clock.state, setting := s.clock.setting.map (·.value)
      through := s.staging.through, enable := s.clock.enable, key := s.pins.key, auto := isAuto s
      deferred := s.staging.deferred.length }) s) :=
  readRequest_ok hp rfl

theorem execIdentify_ok : execIdentify tag s = .next (okReply 0x4A tag (.identify
    { part := 0x7420, revision := 3, maxBody := 1024
      badCheck := s.port.badCheck, badLength := s.port.badLength, gap := s.port.gap, overrun := s.port.overrun
      totalLoss := s.port.totalLoss, reports := s.port.reports, sequence := s.port.sequence
      selected := s.port.selected }) s) :=
  readRequest_ok hp rfl

theorem execMatrixRead_row {n : Nat} (h1 : 1 ≤ n) (h2 : n ≤ 16) : execMatrixRead tag 1 n s =
    .next (okReply 0x33 tag (.matrixRow (rowXps s n) ((nth s.pins.permits n).getD false)
      ((s.mx.movements.find? (fun m => m.row == n)).map Movement.shown) (s.mx.queue.filter (fun q => q.row == n))) s) :=
  readRequest_ok hp (by rw [if_pos (within_eq_true.mpr ⟨h1, h2⟩)]; rfl)

theorem execMatrixRead_column {n : Nat} (h1 : 1 ≤ n) (h2 : n ≤ 34) : execMatrixRead tag 2 n s =
    .next (okReply 0x33 tag (.matrixColumn (dirRec s n) (if n ≤ 32 then (dirRec s n).waiting else s.dir.loadWait)
      ((upTo 16).map (fun r => xpAt s r n)) (rotator? s n)) s) :=
  readRequest_ok hp (by rw [if_pos (within_eq_true.mpr ⟨h1, h2⟩)]; rfl)

theorem execMatrixRead_drive : execMatrixRead tag 3 0 s =
    .next (okReply 0x33 tag (.matrixDrive s.hall.par.credits (creditsFree s) (s.mx.movements.map Movement.place)
      (grantOrder s)) s) :=
  readRequest_ok hp rfl

theorem execMatrixRead_badField {k n : Nat}
    (h : k = 0 ∨ 3 < k ∨ k = 1 ∧ (n = 0 ∨ 16 < n) ∨ k = 2 ∧ (n = 0 ∨ 34 < n) ∨ k = 3 ∧ n ≠ 0) :
    execMatrixRead tag k n s = .next (refusal 0x33 tag .badField s) := by
  refine readRequest_error hp ?_
  match k with
  | 0 => rfl
  | 1 => exact if_neg (by rw [within_eq_true]; omega)
  | 2 => exact if_neg (by rw [within_eq_true]; omega)
  | 3 => exact if_neg (by omega)
  | k + 4 => rfl

theorem execPresetRead_index {n i : Nat} (h1 : 1 ≤ n) (h2 : n ≤ 16) (hi : i ≤ 63) : execPresetRead tag n (some i) none s =
    .next (okReply 0x3B tag (.preset (presetReply s n i none)) s) :=
  readRequest_ok hp (by simp [within, optWithin, h1, h2, hi])

theorem execPresetRead_freq {n f : Nat} {p : Preset} (h1 : 1 ≤ n) (h2 : n ≤ 16) (hf : freqOk f = true)
    (hhit : presetHit s n f = some p) : execPresetRead tag n none (some f) s =
    .next (okReply 0x3B tag (.preset (presetReply s n (presetIndex f) (some (presetIndex f)))) s) :=
  readRequest_ok hp (by simp [within, optWithin, h1, h2, hf, hhit])

theorem execFaultRead_ok {skip : Nat} (h : skip ≤ 31) : execFaultRead tag skip s =
    .next (okReply 0x43 tag (.faults s.log.ring.length (s.log.ring.head?.map (·.number)) s.log.next
      ((s.log.ring.drop skip).take 8)) s) :=
  readRequest_ok hp (by simp [within, h])

end reads

/-- Settles O26: each read passes its checks and answers the state. -/
theorem stateReadsAnswerTheStateAsItStands : Obligations.StateReadsAnswerTheStateAsItStands := by
  intro tag s hp
  exact ⟨execTimeRead_ok hp, fun n => execMatrixRead_row hp, fun n => execMatrixRead_column hp, execMatrixRead_drive hp,
    fun k n => execMatrixRead_badField hp, fun n i => execPresetRead_index hp, fun n f p => execPresetRead_freq hp,
    fun skip => execFaultRead_ok hp, execIdentify_ok hp⟩

end Sys2Proof.Machine
end

section
/-! PROOFS. Every step keeps the sizes of the tables and of the stored images (O6). -/

set_option Elab.async false

namespace Sys2Proof.Machine

/-! ### The sizes, as far as a command can touch them -/

/-- The sizes of the tables of a running controller. -/
structure Shape where
  sizes : Sizes
  tx : Nat
  ant : Nat
  loads : Nat
  units : Nat

/-- The sizes of the manual (00, R98, R107, R121, R127, R132, R151, R170, R193). -/
def Shape.whole : Shape := { sizes := Sizes.whole, tx := 16, ant := 32, loads := 2, units := 63 }

/-- The sizes within what the frame lemmas of Laws speak of. -/
def Outer.shape (o : Outer) : Shape where
  sizes := o.sizes
  tx := o.hall.tx.length
  ant := o.hall.ant.length
  loads := o.hall.loads.length
  units := o.units.length

/-- The tables, but for the image slots, have the sizes of the manual. -/
def State.sized (s : State) : Prop := s.given.outer.shape = Shape.whole

/-- The image of a slot, if it is good, has the property given. -/
def Slot.holds (P : Image → Prop) (x : Slot) : Prop := ∀ g i, x = .good g i → P i

/-- Every image of the slots, and the one in flight to a slot, has the property given. -/
def Store.holds (P : Image → Prop) (t : Store) : Prop :=
  t.slot1.holds P ∧ t.slot2.holds P ∧ ∀ w ∈ t.writing, P w.image

theorem slot_whole_iff (x : Slot) : x.whole ↔ x.holds Image.whole := by
  cases x with
  | bad => exact ⟨fun _ => nofun, fun _ => trivial⟩
  | good g i =>
    refine ⟨fun h g' i' e => ?_, fun h => h g i rfl⟩
    cases e
    exact h

theorem sized_of_shape {s t : State} (h : s.sized) (ht : t.given.outer.shape = s.given.outer.shape) : t.sized := ht.trans h

theorem whole_iff (s : State) : s.whole ↔ s.sized ∧ s.store.holds Image.whole := by
  simp only [State.whole, State.sized, Store.holds, slot_whole_iff, Outer.shape, Shape.whole, Shape.mk.injEq]
  exact ⟨fun ⟨a, b, c, d, e, f⟩ => ⟨⟨a, b, c, d, e⟩, f⟩, fun ⟨⟨a, b, c, d, e⟩, f⟩ => ⟨a, b, c, d, e, f⟩⟩

section blocks
variable (s : State)
@[simp] theorem updUnit_shape (a f) : (updUnit a f s).given.outer.shape = s.given.outer.shape := by
  simp [updUnit, State.given, State.outer, State.sizes, Outer.shape, updNth_length]
@[simp] theorem updTxRec_shape (n f) : (updTxRec n f s).given.outer.shape = s.given.outer.shape := by
  simp [updTxRec, State.given, State.outer, State.sizes, Outer.shape, updNth_length]
@[simp] theorem updAntRec_shape (a f) : (updAntRec a f s).given.outer.shape = s.given.outer.shape := by
  simp [updAntRec, State.given, State.outer, State.sizes, Outer.shape, updNth_length]
@[simp] theorem updDir_shape (c f) : (updDir c f s).given.outer.shape = s.given.outer.shape := by
  simp [updDir, State.given, State.outer, State.sizes, Outer.shape, updNth_length]
@[simp] theorem onProt_map_shape (g : ProtRec → ProtRec) :
    (s.onProt (List.map g)).given.outer.shape = s.given.outer.shape := by
  rw [onProt_given s _ (List.length_map ..)]
@[simp] theorem onPort_shape (f) : (s.onPort f).given.outer.shape = s.given.outer.shape := rfl
@[simp] theorem onPins_shape (f) : (s.onPins f).given.outer.shape = s.given.outer.shape := rfl
@[simp] theorem onStore_shape (f) : (s.onStore f).given.outer.shape = s.given.outer.shape := rfl
@[simp] theorem onLine_shape (f) (h : (f s.line).units.length = s.line.units.length) :
    (s.onLine f).given.outer.shape = s.given.outer.shape := by
  simp [State.given, State.outer, State.sizes, Outer.shape, h]
@[simp] theorem onHall_shape (f) (ht : (f s.hall).tx.length = s.hall.tx.length)
    (ha : (f s.hall).ant.length = s.hall.ant.length) (hl : (f s.hall).loads.length = s.hall.loads.length) :
    (s.onHall f).given.outer.shape = s.given.outer.shape := by
  simp [State.given, State.outer, State.sizes, Outer.shape, ht, ha, hl]
end blocks

@[simp] theorem forEach_shape {α : Type} (l : List α) (f : α → State → State) (s : State)
    (h : (∀ x t, (f x t).given.outer.shape = t.given.outer.shape) = True) :
    (forEach l f s).given.outer.shape = s.given.outer.shape :=
  forEach_keeps (fun t => t.given.outer.shape) l f s (of_eq_true h)

/-! ### The Field Line -/

@[simp] theorem startPoll_shape (s : State) : (startPoll s).given.outer.shape = s.given.outer.shape := by
  unfold startPoll; dsimp only; split <;> simp
@[simp] theorem wakeScan_shape (s : State) : (wakeScan s).given.outer.shape = s.given.outer.shape := by
  unfold wakeScan; split <;> simp
@[simp] theorem bindUnit_shape (a k n) (s : State) : (bindUnit a k n s).given.outer.shape = s.given.outer.shape := by
  unfold bindUnit; simp
@[simp] theorem unbindUnit_shape (a) (s : State) : (unbindUnit a s).given.outer.shape = s.given.outer.shape := by
  unfold unbindUnit; simp
@[simp] theorem endTxn_shape (s : State) : (endTxn s).given.outer.shape = s.given.outer.shape := rfl
@[simp] theorem reofferHeld_shape (s : State) : (reofferHeld s).given.outer.shape = s.given.outer.shape := by
  unfold reofferHeld; simp
@[simp] theorem commandSlot_shape (s : State) : (commandSlot s).given.outer.shape = s.given.outer.shape := by
  unfold commandSlot; dsimp only; split <;> simp
@[simp] theorem goodReply_shape (a) (s : State) : (goodReply a s).given.outer.shape = s.given.outer.shape := by
  unfold goodReply; dsimp only; split <;> simp
@[simp] theorem becomeSilent_shape (a k) (s : State) : (becomeSilent a k s).given.outer.shape = s.given.outer.shape := by
  unfold becomeSilent; simp
@[simp] theorem countMiss_shape (a k) (s : State) : (countMiss a k s).given.outer.shape = s.given.outer.shape := by
  unfold countMiss; dsimp only; (repeat' split) <;> simp
@[simp] theorem afterTxn_shape (t) (s : State) : (afterTxn t s).given.outer.shape = s.given.outer.shape := by
  unfold afterTxn; split <;> simp
@[simp] theorem finishDead_shape (t) (s : State) : (finishDead t s).given.outer.shape = s.given.outer.shape := by
  unfold finishDead; split <;> simp
@[simp] theorem missDead_shape (t) (s : State) : (missDead t s).given.outer.shape = s.given.outer.shape := by
  unfold missDead; simp
@[simp] theorem missTxn_shape (t k) (s : State) : (missTxn t k s).given.outer.shape = s.given.outer.shape := by
  unfold missTxn; dsimp only; (repeat' split) <;> simp
@[simp] theorem answerTxn_shape (heard formed : Txn → Bool) (deliver : Txn → State → State) (s : State)
    (h : (∀ t u, (deliver t u).given.outer.shape = u.given.outer.shape) = True) :
    (answerTxn heard formed deliver s).given.outer.shape = s.given.outer.shape := by
  have h' := of_eq_true h
  unfold answerTxn; (repeat' split) <;> simp [h']

/-! ### The outside inputs -/

@[simp] theorem keyToRemote_shape (s : State) : (keyToRemote s).given.outer.shape = s.given.outer.shape := by
  unfold keyToRemote; dsimp only; split <;> simp
@[simp] theorem keyToLocal_shape (s : State) : (keyToLocal s).given.outer.shape = s.given.outer.shape := by
  unfold keyToLocal; simp
@[simp] theorem chainOpens_shape (s : State) : (chainOpens s).given.outer.shape = s.given.outer.shape := by
  unfold chainOpens; dsimp only; split <;> simp
@[simp] theorem chainCloses_shape (s : State) : (chainCloses s).given.outer.shape = s.given.outer.shape := by
  unfold chainCloses; dsimp only; split <;> simp

/-! ### The Hall Description -/

@[simp] theorem rebindTx_shape (n old new) (s : State) : (rebindTx n old new s).given.outer.shape = s.given.outer.shape := by
  unfold rebindTx; dsimp only; (repeat' split) <;> simp
@[simp] theorem rebindAnt_shape (a old new) (s : State) : (rebindAnt a old new s).given.outer.shape = s.given.outer.shape := by
  unfold rebindAnt; dsimp only; (repeat' split) <;> simp
@[simp] theorem defineTx_shape (n r) (s : State) : (defineTx n r s).given.outer.shape = s.given.outer.shape := by
  unfold defineTx; simp
@[simp] theorem defineAnt_shape (a r) (s : State) : (defineAnt a r s).given.outer.shape = s.given.outer.shape := by
  unfold defineAnt; simp
@[simp] theorem removeAnt_shape (a) (s : State) : (removeAnt a s).given.outer.shape = s.given.outer.shape := by
  unfold removeAnt; dsimp only; split <;> simp
@[simp] theorem cutCounts_given (life) (s : State) : (cutCounts life s).given = s.given :=
  onMx_given s _ (by simp [Function.comp_def]) rfl

theorem State.sized.memories {s : State} (h : s.sized) : s.tx.map (fun x => x.memory.length) = List.replicate 16 64 :=
  congrArg (fun x : Shape => x.sizes.memories) h

/-- A Tuning Memory emptied has its 64 entries. -/
theorem updTx_sized {n : Nat} {f : TxCtl → TxCtl} {s : State} (hf : ∀ x, (f x).memory.length = 64) (h : s.sized) :
    (updTx n f s).sized := by
  have hmem : ((updTx n f s).tx.map fun x => x.memory.length) = s.tx.map fun x => x.memory.length := by
    have hall : ∀ x ∈ s.tx, x.memory.length = 64 := fun x hx =>
      List.eq_of_mem_replicate (h.memories ▸ List.mem_map_of_mem (f := fun x : TxCtl => x.memory.length) hx)
    refine List.ext_getElem? fun i => ?_
    show ((updNth s.tx n f).map _)[i]? = _
    unfold updNth
    split
    · rfl
    · simp only [List.getElem?_map, List.getElem?_modify]
      cases hx : s.tx[i]? with
      | none => rfl
      | some x =>
        have := hall x (List.mem_of_getElem? hx)
        simp only [Option.map_eq_map, Option.map_some, Option.some.injEq]
        split
        · rw [hf, this]
        · rfl
  unfold State.sized
  rw [show (updTx n f s).given = s.given from onTx_given s _ hmem]
  exact h

theorem removeTx_sized {n : Nat} {s : State} (h : s.sized) : (removeTx n s).sized := by
  unfold removeTx
  dsimp only
  split
  · exact h
  · have hpre : (rebindTx n (txRec? s n) none (updTxRec n (fun _ => none) s)).sized := sized_of_shape h (by simp)
    exact sized_of_shape (updTx_sized (fun _ => List.length_replicate) hpre) (by rw [updProt_given, setFactor_given])

/-! ### The requests and the restarts -/

@[simp] theorem flagOne_shape (flag action c) (s : State) :
    (flagOne flag action c s).given.outer.shape = s.given.outer.shape := by
  unfold flagOne; dsimp only; (repeat' split) <;> simp
@[simp] theorem restartOrderly_shape (s : State) : (restartOrderly s).given.outer.shape = s.given.outer.shape := by
  unfold restartOrderly; dsimp only; split <;> simp
@[simp] theorem releaseAll_shape (s : State) : (releaseAll s).given.outer.shape = s.given.outer.shape := by
  rw [releaseAll_given]
theorem restarted_given (s : State) : (s.onTx (List.map TxCtl.restarted)).given = s.given :=
  onTx_given s _ (by rw [List.map_map]; rfl)
@[simp] theorem restartImmediate_shape (s : State) : (restartImmediate s).given.outer.shape = s.given.outer.shape := by
  unfold restartImmediate; simp [restarted_given]

theorem admitOrder_shape {k : Candidate} {a : Admission} {s t : State} (h : admitOrder k s = (a, t)) :
    t.given.outer.shape = s.given.outer.shape := by
  have := congrArg Outer.shape (admitOrder_outer k s)
  rwa [h] at this

/-! ### All the commands -/

theorem event_sized {f : State → State} {s t : State} (h : s.sized) (he : event f s = .next t)
    (hf : (f s).given.outer.shape = s.given.outer.shape) : t.sized := by
  rcases event_next he with ⟨rfl, -⟩ | ⟨rfl, -⟩
  · exact h
  · exact sized_of_shape h (by rw [settle_given, hf])

theorem request_sized {kind tag : Nat} {f : State → Answer} {s t : State} (h : s.sized) (hr : request kind tag f s = .next t)
    (hf : (f s).gives State.sized) : t.sized := by
  rcases request_next hr with ⟨rfl, -⟩ | ⟨st, d, -, rfl⟩ | ⟨u, data, hu, rfl⟩
  · exact h
  · exact h
  · rw [hu] at hf
    exact sized_of_shape (show u.sized from hf) (by rw [queueReply_given, settle_given])

theorem readRequest_sized {kind tag : Nat} {f : State → Except (Status × Detail) ReplyData} {s t : State} (h : s.sized)
    (hr : readRequest kind tag f s = .next t) : t.sized := by
  rcases readRequest_next hr with rfl | ⟨st, d, data, rfl⟩ <;> exact h

/-- An answer whose changed state has the sizes of the state before. -/
theorem gives_sized {s : State} {a : Answer} (h : s.sized)
    (ha : a.gives (fun u => u.given.outer.shape = s.given.outer.shape)) : a.gives State.sized := by
  match a, ha with
  | .error _, _ => trivial
  | .ok _, ha => exact sized_of_shape h ha

theorem request_keeps_sized {kind tag : Nat} {f : State → Answer} {s t : State} (h : s.sized)
    (hr : request kind tag f s = .next t) (hf : (f s).gives (fun u => u.given.outer.shape = s.given.outer.shape)) : t.sized :=
  request_sized h hr (gives_sized h hf)

theorem execTxDefine_sized {tag n d : Nat} {f : TxFields} {s t : State} (h : s.sized)
    (hr : execTxDefine tag n d f s = .next t) : t.sized := by
  refine request_sized h hr (checks_gives ?_)
  dsimp only
  split
  case isTrue =>
    refine gives_sized h ?_
    split
    · exact trivial
    · split
      · exact trivial
      · exact trivial
      · exact checks_gives (defineTx_shape ..)
  case isFalse =>
    refine checks_gives ?_
    split
    · exact trivial
    · exact checks_gives (removeTx_sized h)

theorem execAntDefine_sized {tag a d : Nat} {f : AntFields} {s t : State} (h : s.sized)
    (hr : execAntDefine tag a d f s = .next t) : t.sized := by
  refine request_keeps_sized h hr (checks_gives ?_)
  split
  · refine checks_gives ?_
    rw [accept_gives, onHall_shape _ _ rfl rfl (updNth_length ..)]
  · refine checks_gives ?_
    split
    · split
      · exact trivial
      · exact trivial
      · exact trivial
      · exact checks_gives (defineAnt_shape ..)
    · split
      · exact trivial
      · exact checks_gives (removeAnt_shape ..)

theorem execHallSet_sized {tag : Nat} {f : HallFields} {s t : State} (h : s.sized) (hr : execHallSet tag f s = .next t) :
    t.sized := by
  refine request_keeps_sized h hr (checks_gives ?_)
  split
  · trivial
  · refine checks_gives ?_
    rw [accept_gives]
    split <;> simp

theorem execStore_sized {tag : Nat} {s t : State} (h : s.sized) (hr : execStore tag s = .next t) : t.sized := by
  unfold execStore at hr
  (repeat' split at hr) <;> cases hr <;> exact h

/-- A line from outside: without supply it moves alone, and with supply it is an event (log 6). -/
theorem execHallKeyChange_sized {p : Control} {s t : State} (h : s.sized) (hr : execHallKeyChange p s = .next t) :
    t.sized := by
  unfold execHallKeyChange at hr
  (repeat' split at hr)
  · cases hr; exact h
  · cases hr; exact h
  · exact event_sized h hr (keyToRemote_shape s)
  · exact event_sized h hr (keyToLocal_shape s)

theorem execSafetyChainOpen_sized {s t : State} (h : s.sized) (hr : execSafetyChainOpen s = .next t) : t.sized := by
  unfold execSafetyChainOpen at hr
  (repeat' split at hr)
  · cases hr; exact h
  · exact event_sized h hr (chainOpens_shape s)
  · cases hr; exact h

theorem execSafetyChainClose_sized {s t : State} (h : s.sized) (hr : execSafetyChainClose s = .next t) : t.sized := by
  unfold execSafetyChainClose at hr
  (repeat' split at hr)
  · cases hr; exact h
  · cases hr; exact h
  · exact event_sized h hr (chainCloses_shape s)

/-- Every command but FRAME_TAKEN, which carries others, and POWER_ON, which takes the tables from an image. -/
theorem exec_sized {c : Instr} {s t : State} (hc : c ≠ .frameTaken) (hon : c ≠ .powerOn) (h : s.sized)
    (hr : exec c s = .next t) : t.sized := by
  cases c <;> simp only [exec] at hr
  case frameTaken => exact absurd rfl hc
  case powerOn => exact absurd rfl hon
  case powerLoss => cases hr; exact h
  case txDefine => exact execTxDefine_sized h hr
  case antDefine => exact execAntDefine_sized h hr
  case hallSet => exact execHallSet_sized h hr
  case store => exact execStore_sized h hr
  case hallKeyChange => exact execHallKeyChange_sized h hr
  case safetyChainOpen => exact execSafetyChainOpen_sized h hr
  case safetyChainClose => exact execSafetyChainClose_sized h hr
  case txRead | antRead | hallRead | lineRead | entryRead | bankStatus | timeRead | orderList | orderRead | matrixRead |
      presetRead | faultRead | identify => exact readRequest_sized h hr
  case bankHeader =>
    refine request_keeps_sized h hr (withBank_gives fun k => checks_gives ?_)
    split <;> simp
  case entryPut =>
    refine request_keeps_sized h hr (withBank_gives fun k => ?_)
    split
    · trivial
    · refine checks_gives ?_
      split
      · trivial
      · refine checks_gives ?_
        split <;> simp
  case entryDelete | entrySuspend | bankClear | bankArm | bankDisarm =>
    exact request_keeps_sized h hr (withBank_gives fun k => checks_gives (by simp))
  case timeSet =>
    refine request_keeps_sized h hr ?_
    split <;> simp
  case orderManual =>
    refine request_keeps_sized h hr ?_
    split
    · trivial
    · refine checks_gives ?_
      split
      · trivial
      · refine checks_gives ?_
        split
        next ha => exact admitOrder_shape ha
        all_goals trivial
  case orderCancel | orderAdvance =>
    refine request_keeps_sized h hr (checks_gives ?_)
    split
    · trivial
    · exact checks_gives (by simp)
  case antFlags =>
    refine request_keeps_sized h hr (checks_gives ?_)
    split <;> simp
  case presetPurge =>
    refine request_keeps_sized h hr (checks_gives ?_)
    dsimp only
    (repeat' split) <;> simp
  case counterSet =>
    refine request_keeps_sized h hr ?_
    split
    · trivial
    · exact checks_gives (by simp [updNth_length])
  case counterRead =>
    refine request_keeps_sized h hr (checks_gives ?_)
    split <;> simp [updNth_length]
  case lineSet | automation | xpClear | xpService | txInhibit | txLockClear | reportSelect | restartOrderly |
      restartImmediate =>
    exact request_keeps_sized h hr (checks_gives (by simp))
  case faultClear => exact request_keeps_sized h hr (by simp)
  case controlLinkByte | gapTimeout | outgoingFrameSent | timeMark | internalSecondBoundary | markWatchExpiry |
      movementStart | pollReplyTlu | pollReplyMdu | pollReplyAru | commandReply => exact event_sized h hr (by simp)
  case preparationBegin | moveTimeout | slewStart | slewTimeout | transactionMiss | warmUpTimeout | idleClockCoolDown |
      searchTuneTimeout | presetTuneTimeout | blindHoldExpiry | recoveryDelayExpiry | rampEnd |
      carrierOffConfirmTimeout | storeWriteComplete =>
    refine event_sized h hr ?_
    (repeat' split) <;> simp

/-! ### The image slots (R196, R197) -/

theorem imageOf_whole {s : State} (h : s.sized) : (imageOf s).whole := by
  simp only [State.sized, Outer.shape, Shape.whole, Shape.mk.injEq] at h
  obtain ⟨hsizes, htx, hant, hloads, -⟩ := h
  simp only [State.given, State.outer, State.sizes, Sizes.whole, Sizes.mk.injEq] at hsizes
  obtain ⟨hmem, -, hcols, hrows, -, -⟩ := hsizes
  refine ⟨htx, hant, hloads, ?_, ?_, ?_, ?_⟩
  · rw [← hmem]; exact List.map_map
  · rw [← hrows]; simp [imageOf, Function.comp_def]
  · rw [← hcols]; exact List.length_map ..
  · rw [← hcols]; exact List.length_map ..

theorem setSlot_holds {P : Image → Prop} {first : Bool} {x : Slot} {t : Store} (h : t.holds P) (hx : x.holds P) :
    (t.setSlot first x).slot1.holds P ∧ (t.setSlot first x).slot2.holds P := by
  obtain ⟨h1, h2, -⟩ := h
  cases first
  · exact ⟨h1, hx⟩
  · exact ⟨hx, h2⟩

theorem execStore_holds {P : Image → Prop} {tag : Nat} {s t : State} (hi : P (imageOf s)) (h : s.store.holds P)
    (hr : execStore tag s = .next t) : t.store.holds P := by
  unfold execStore at hr
  (repeat' split at hr) <;> cases hr
  · exact h
  · exact h
  · obtain ⟨h1, h2⟩ := setSlot_holds (first := s.store.nextWrite.1) (x := .bad) h nofun
    refine ⟨h1, h2, ?_⟩
    rintro w ⟨⟩
    exact hi

theorem execStoreWriteComplete_holds {P : Image → Prop} {s t : State} (h : s.store.holds P)
    (hr : execStoreWriteComplete s = .next t) : t.store.holds P := by
  have hset : ∀ u : State, (settle u).store = u.store := fun u => congrArg (·.outer.store) (settle_given u)
  rcases event_next hr with ⟨rfl, -⟩ | ⟨rfl, -⟩
  · exact h
  · rw [hset]
    split
    · exact h
    next w hw =>
      obtain ⟨h1, h2⟩ := setSlot_holds (first := w.first) (x := .good w.generation w.image) h (by
        rintro g i ⟨⟩
        exact h.2.2 w hw)
      exact ⟨h1, h2, nofun⟩

/-- The image that power-on loads is that of a slot. -/
theorem latest_holds {P : Image → Prop} {t : Store} {first : Bool} {g : Nat} {i : Image} (h : t.holds P)
    (hl : t.latest = some (first, g, i)) : P i := by
  obtain ⟨h1, h2, -⟩ := h
  unfold Store.latest at hl
  cases hs1 : t.slot1 <;> cases hs2 : t.slot2 <;> simp only [hs1, hs2] at hl h1 h2
  · cases hl
  · cases hl; exact h2 _ _ rfl
  · cases hl; exact h1 _ _ rfl
  · split at hl <;> cases hl
    · exact h1 _ _ rfl
    · exact h2 _ _ rfl

/-- What the image of the tables has, every image of the slots has after every command: STORE alone makes a new one. -/
theorem exec_holds {P : Image → Prop} {c : Instr} {s t : State} (hc : c ≠ .frameTaken) (hi : P (imageOf s))
    (h : s.store.holds P) (hr : exec c s = .next t) : t.store.holds P := by
  by_cases hw : writesStore c = false
  · obtain ⟨-, -, -, -, -, hsame, -⟩ := exec_changes hc hr
    rw [show t.store = s.store from hsame hw]
    exact h
  · cases c
    case store => exact execStore_holds hi h hr
    case storeWriteComplete => exact execStoreWriteComplete_holds h hr
    case powerOn =>
      change execPowerOn s = .next t at hr
      unfold execPowerOn at hr
      split at hr <;> cases hr
      · exact h
      · show (powerUp s).store.holds P
        rw [(powerUp_starts s).1.store]
        exact ⟨h.1, h.2.1, nofun⟩
    case powerLoss => cases hr; exact ⟨h.1, h.2.1, nofun⟩
    case frameTaken => exact absurd rfl hc
    all_goals exact absurd rfl hw

/-- The tables that an image gives have its sizes (R197). -/
theorem imageTables_sized {i : Image} {s : State} (hi : i.whole) (h : s.sized) : (imageTables i s).sized := by
  obtain ⟨htx, hant, hloads, hmem, hcounts, hinh, hsus⟩ := hi
  have hc : i.counts.length = 16 := by simpa using congrArg List.length hcounts
  simp only [State.sized, Outer.shape, Shape.whole, Shape.mk.injEq] at h ⊢
  obtain ⟨hsizes, -, -, -, hunits⟩ := h
  simp only [State.given, State.outer, State.sizes, Sizes.whole, Sizes.mk.injEq] at hsizes ⊢
  obtain ⟨-, hprot, -, -, -, hstats⟩ := hsizes
  refine ⟨⟨?_, hprot, ?_, ?_, ?_, hstats⟩, htx, hant, hloads, hunits⟩
  · rw [← hmem]; simp [imageTables, Function.comp_def]
  · simp [imageTables, powerOnDir, hinh, hsus, upTo_length]
  · have hrow : (List.length ∘ fun x : Option TxRec × List (Nat × Bool) => powerOnRow x.1.isSome x.2) =
        List.length ∘ Prod.snd := by funext x; simp [powerOnRow]
    show ((i.tx.zip i.counts).map _).map List.length = _
    rw [List.map_map, hrow, ← List.map_map, List.map_snd_zip (by omega), hcounts]
  · simp [imageTables, powerOnMatrix, hant]

theorem loadImage_sized {i : Image} {s : State} (hi : i.whole) (h : s.sized) : (loadImage i s).sized := by
  refine sized_of_shape (imageTables_sized hi h) ?_
  rw [loadImage_eq, startPoll_shape]
  unfold bindAll
  rw [forEach_shape _ _ _ (eq_true ?_), forEach_shape _ _ _ (eq_true ?_)]
  all_goals
    intro n t
    split <;> simp

theorem execPowerOn_sized {s t : State} (h : s.sized) (hstore : s.store.holds Image.whole)
    (hr : execPowerOn s = .next t) : t.sized := by
  unfold execPowerOn at hr
  split at hr <;> cases hr
  · exact h
  · have hfresh : (freshFrom s).sized := rfl
    show (powerUp s).sized
    rcases powerUp_cases s with ⟨_, _, i, hi, e⟩ | ⟨-, e⟩
    · have hload := loadImage_sized (latest_holds hstore hi) hfresh
      rcases e with e | e <;> rw [e]
      · exact hload
      · exact sized_of_shape hload (by rw [offerReport_given])
    · rw [e]
      exact sized_of_shape hfresh (by rw [offerReport_given])

theorem exec_whole {c : Instr} {s t : State} (hc : c ≠ .frameTaken) (h : s.whole) (hr : exec c s = .next t) : t.whole := by
  obtain ⟨hsized, hstore⟩ := (whole_iff s).mp h
  refine (whole_iff t).mpr ⟨?_, exec_holds hc (imageOf_whole hsized) hstore hr⟩
  by_cases hon : c = .powerOn
  · subst hon
    exact execPowerOn_sized hsized hstore hr
  · exact exec_sized hc hon hsized hr

/-- Settles O6: a command keeps the tables' sizes, and an image takes the sizes of the tables it is made from. -/
theorem everyStepKeepsTheTableSizes : Obligations.EveryStepKeepsTheTableSizes := by
  intro s t
  exact step_induction (fun _ _ h => h) (fun _ _ h => h) (fun _ _ _ hc h hr => exec_whole hc h hr)

end Sys2Proof.Machine
end

section
/-! PROOFS. The remaining-operations counts of the matrix, and what leaves them as they are (O9). -/

set_option Elab.async false

namespace Sys2Proof.Machine

/-- The remaining-operations counts and SERVICE-DUE flags of the matrix (R107). -/
def State.counts (s : State) : List (List (Nat × Bool)) :=
  s.mx.rows.map (List.map fun x => (x.remaining, x.serviceDue))

@[simp] theorem forEach_counts {α : Type} {l : List α} {f : α → State → State} (s : State)
    (h : (∀ a t, (f a t).counts = t.counts) = True) : (forEach l f s).counts = s.counts :=
  forEach_keeps State.counts l f s (of_eq_true h)

section frames
variable (s : State)

/-! ### The updates of the state -/

@[simp] theorem onPins_counts (f) : (s.onPins f).counts = s.counts := rfl
@[simp] theorem onHall_counts (f) : (s.onHall f).counts = s.counts := rfl
@[simp] theorem onBanks_counts (f) : (s.onBanks f).counts = s.counts := rfl
@[simp] theorem onClock_counts (f) : (s.onClock f).counts = s.counts := rfl
@[simp] theorem onStaging_counts (f) : (s.onStaging f).counts = s.counts := rfl
@[simp] theorem onChg_counts (f) : (s.onChg f).counts = s.counts := rfl
@[simp] theorem onDir_counts (f) : (s.onDir f).counts = s.counts := rfl
@[simp] theorem onTx_counts (f) : (s.onTx f).counts = s.counts := rfl
@[simp] theorem onProt_counts (f) : (s.onProt f).counts = s.counts := rfl
@[simp] theorem onLine_counts (f) : (s.onLine f).counts = s.counts := rfl
@[simp] theorem onLog_counts (f) : (s.onLog f).counts = s.counts := rfl
@[simp] theorem onStats_counts (f) : (s.onStats f).counts = s.counts := rfl
@[simp] theorem onStore_counts (f) : (s.onStore f).counts = s.counts := rfl
@[simp] theorem onPort_counts (f) : (s.onPort f).counts = s.counts := rfl
@[simp] theorem onAgenda_counts (f) : (s.onAgenda f).counts = s.counts := rfl
@[simp] theorem onNotes_counts (f) : (s.onNotes f).counts = s.counts := rfl
@[simp] theorem onMx_counts (f) (h : (f s.mx).rows = s.mx.rows) : (s.onMx f).counts = s.counts := by
  unfold State.counts; rw [onMx_mx, h]
@[simp] theorem updTx_counts (n f) : (updTx n f s).counts = s.counts := rfl
@[simp] theorem updProt_counts (n f) : (updProt n f s).counts = s.counts := rfl
@[simp] theorem updDir_counts (c f) : (updDir c f s).counts = s.counts := rfl
@[simp] theorem updRotator_counts (a f) : (updRotator a f s).counts = s.counts := rfl
@[simp] theorem updUnit_counts (a f) : (updUnit a f s).counts = s.counts := rfl
@[simp] theorem updOrder_counts (id f) : (updOrder id f s).counts = s.counts := rfl
@[simp] theorem updTxRec_counts (n f) : (updTxRec n f s).counts = s.counts := rfl
@[simp] theorem updAntRec_counts (a f) : (updAntRec a f s).counts = s.counts := rfl
@[simp] theorem updBank_counts (k f) : (updBank k f s).counts = s.counts := rfl
@[simp] theorem emit_counts (g) : (emit g s).counts = s.counts := rfl
@[simp] theorem setPreset_counts (n i p) : (setPreset n i p s).counts = s.counts := rfl
@[simp] theorem restartClock_counts : (restartClock s).counts = s.counts := rfl
@[simp] theorem restartWatch_counts : (restartWatch s).counts = s.counts := rfl
@[simp] theorem setXp_counts (r c st) : (setXp r c st s).counts = s.counts :=
  updNth_map_same _ _ _ _ fun _ => updNth_map_same _ _ _ _ fun _ => rfl

/-! ### Reports -/

@[simp] theorem offerReport_counts (r) : (offerReport r s).counts = s.counts := rfl
@[simp] theorem queueReply_counts (kind tag st d data) : (queueReply kind tag st d data s).counts = s.counts := rfl
@[simp] theorem count_counts (cls q) : (count cls q s).counts = s.counts := rfl
@[simp] theorem countDir_counts (t) : (countDir t s).counts = s.counts := rfl
@[simp] theorem countOutcome_counts (x) : (countOutcome x s).counts = s.counts := by
  unfold countOutcome; split <;> simp
@[simp] theorem logFault_counts (r) : (logFault r s).counts = s.counts := rfl
@[simp] theorem makeFaultWith_counts (k sub o fl tele n) : (makeFaultWith k sub o fl tele n s).counts = s.counts :=
  rfl
@[simp] theorem makeTxFault_counts (kind n order) : (makeTxFault kind n order s).counts = s.counts := rfl
@[simp] theorem makeFault_counts (kind sub order) : (makeFault kind sub order s).counts = s.counts := rfl
@[simp] theorem hallReport_counts (cause) : (hallReport cause s).counts = s.counts := rfl
@[simp] theorem noteOrder_counts (id) : (noteOrder id s).counts = s.counts := by
  unfold noteOrder; (repeat' split) <;> simp
@[simp] theorem noteCreated_counts (id) : (noteCreated id s).counts = s.counts := rfl
@[simp] theorem updNote_counts (id f) : (updNote id f s).counts = s.counts := rfl
@[simp] theorem flushNote_counts (k) : (flushNote k s).counts = s.counts := by
  unfold flushNote; (repeat' split) <;> simp
@[simp] theorem flushOrders_counts : (flushOrders s).counts = s.counts := by unfold flushOrders; simp

/-! ### LineOps -/

@[simp] theorem placeCmd_counts (c) : (placeCmd c s).counts = s.counts := by unfold placeCmd; split <;> simp
@[simp] theorem offerCmd_counts (addr fn urgent subject) : (offerCmd addr fn urgent subject s).counts = s.counts := by
  unfold offerCmd; simp
@[simp] theorem removeCmds_counts (p) : (removeCmds p s).counts = s.counts := rfl
@[simp] theorem failCmds_counts (p) : (failCmds p s).counts = s.counts := by unfold failCmds; simp
@[simp] theorem markSent_counts (c) : (markSent c s).counts = s.counts := rfl
@[simp] theorem unitReport_counts (a new old k) : (unitReport s a new old k).counts = s.counts := rfl
@[simp] theorem unitLost_counts (addr fl cause) : (unitLost addr fl cause s).counts = s.counts := by
  unfold unitLost; dsimp only; split <;> simp
@[simp] theorem unitDown_counts (addr fl cause) : (unitDown addr fl cause s).counts = s.counts := by
  unfold unitDown; simp

/-! ### TxOps -/

@[simp] theorem setWork_counts (id f) : (setWork id f s).counts = s.counts := rfl
@[simp] theorem setTxState_counts (n st) : (setTxState n st s).counts = s.counts := rfl
@[simp] theorem offerTlu_counts (n fn urgent) : (offerTlu n fn urgent s).counts = s.counts := by
  unfold offerTlu; split <;> simp
@[simp] theorem dropTune_counts (n) : (dropTune n s).counts = s.counts := by unfold dropTune; (repeat' split) <;> simp
@[simp] theorem failOrdersOn_counts (n lo hi cause) : (failOrdersOn n lo hi cause s).counts = s.counts := by
  unfold failOrdersOn; simp
@[simp] theorem loseWork_counts (n lo) : (loseWork n lo s).counts = s.counts := by
  unfold loseWork; dsimp only; split <;> simp
@[simp] theorem goOffline_counts (n) : (goOffline n s).counts = s.counts := by
  unfold goOffline; dsimp only; (repeat' split) <;> simp
@[simp] theorem warmFromReply_counts (n) : (warmFromReply n s).counts = s.counts := rfl
@[simp] theorem takeState_counts (n) : (takeState n s).counts = s.counts := by
  unfold takeState; dsimp only; (repeat' split) <;> simp
@[simp] theorem takeStateIfTuning_counts (n) : (takeStateIfTuning n s).counts = s.counts := by
  unfold takeStateIfTuning; split <;> simp
@[simp] theorem leaveTripped_counts (n) : (leaveTripped n s).counts = s.counts := by
  unfold leaveTripped; split <;> simp
@[simp] theorem carrierOffRequest_counts (n who) : (carrierOffRequest n who s).counts = s.counts := by
  unfold carrierOffRequest; dsimp only; (repeat' split) <;> simp
@[simp] theorem carrierOn_counts (n level) : (carrierOn n level s).counts = s.counts := by unfold carrierOn; simp
@[simp] theorem setpointRequest_counts (n power) : (setpointRequest n power s).counts = s.counts := by
  unfold setpointRequest; split <;> simp
@[simp] theorem confirmOff_counts (n) : (confirmOff n s).counts = s.counts := by unfold confirmOff; simp
@[simp] theorem cancelCoolDown_counts (n) : (cancelCoolDown n s).counts = s.counts := by
  unfold cancelCoolDown; split <;> simp
@[simp] theorem informCoolDown_counts (n) : (informCoolDown n s).counts = s.counts := by unfold informCoolDown; simp
@[simp] theorem requestWarmUp_counts (n id) : (requestWarmUp n id s).counts = s.counts := by
  unfold requestWarmUp; dsimp only; (repeat' split) <;> simp
@[simp] theorem dropWarm_counts (n id) : (dropWarm n id s).counts = s.counts := rfl
@[simp] theorem warmUpDone_counts (n) : (warmUpDone n s).counts = s.counts := by unfold warmUpDone; split <;> simp
@[simp] theorem warmUpFailed_counts (n) : (warmUpFailed n s).counts = s.counts := by
  unfold warmUpFailed; split <;> simp
@[simp] theorem filamentOffAcked_counts (n) : (filamentOffAcked n s).counts = s.counts := by
  unfold filamentOffAcked; dsimp only; split <;> simp
@[simp] theorem invalidate_counts (n f) : (invalidate n f s).counts = s.counts := by unfold invalidate; split <;> simp
@[simp] theorem countTuneKind_counts (x) : (countTuneKind x s).counts = s.counts := by
  unfold countTuneKind; split <;> simp
@[simp] theorem openTune_counts (n t) : (openTune n t s).counts = s.counts := rfl
@[simp] theorem startMode_counts (n id f m) : (startMode n id f m s).counts = s.counts := by unfold startMode; simp
@[simp] theorem startPreset_counts (n id f m p) : (startPreset n id f m p s).counts = s.counts := by
  unfold startPreset; simp
@[simp] theorem startSearch_counts (n id f m) : (startSearch n id f m s).counts = s.counts := by
  unfold startSearch; simp
@[simp] theorem tuneResult_counts (n ok) : (tuneResult n ok s).counts = s.counts := by
  unfold tuneResult; (repeat' split) <;> simp
@[simp] theorem searchFail_counts (n ranOut) : (searchFail n ranOut s).counts = s.counts := by
  unfold searchFail; split <;> simp
@[simp] theorem presetFail_counts (n drop) : (presetFail n drop s).counts = s.counts := by
  unfold presetFail; (repeat' split) <;> simp
@[simp] theorem endSearch_counts (n) : (endSearch n s).counts = s.counts := by unfold endSearch; simp
@[simp] theorem holdSearch_counts (n) : (holdSearch n s).counts = s.counts := by
  unfold holdSearch; dsimp only; split <;> simp
@[simp] theorem resumeSearch_counts (n) : (resumeSearch n s).counts = s.counts := by
  unfold resumeSearch; split <;> simp
@[simp] theorem beginBlind_counts (n id) : (beginBlind n id s).counts = s.counts := by unfold beginBlind; simp
@[simp] theorem endBlind_counts (n) : (endBlind n s).counts = s.counts := by unfold endBlind; split <;> simp
@[simp] theorem setStage_counts (id st) : (setStage id st s).counts = s.counts := by
  unfold setStage; (repeat' split) <;> simp

/-! ### MatrixOps -/

@[simp] theorem antReport_counts (c cause) : (antReport c cause s).counts = s.counts := rfl
@[simp] theorem setFault_counts (c k) : (setFault c k s).counts = s.counts := by unfold setFault; split <;> simp
@[simp] theorem xpReport_counts (r c old new p k) : (xpReport r c old new p k s).counts = s.counts := rfl
@[simp] theorem settleTo_counts (c law) : (settleTo c law s).counts = s.counts := by
  unfold settleTo; dsimp only; (repeat' split) <;> simp
@[simp] theorem settleColumn_counts (c) : (settleColumn c s).counts = s.counts := by unfold settleColumn; simp
@[simp] theorem offerWaiters_counts (c) : (offerWaiters c s).counts = s.counts := by
  unfold offerWaiters; split <;> simp
@[simp] theorem requestMove_counts (r c dir e who) : (requestMove r c dir e who s).counts = s.counts := by
  unfold requestMove; dsimp only; (repeat' split) <;> simp
@[simp] theorem tellAll_counts (l r c ok) : (tellAll l r c ok s).counts = s.counts := by unfold tellAll; simp
@[simp] theorem dropRequesters_counts (p) : (dropRequesters p s).counts = s.counts := rfl
@[simp] theorem sweepQueue_counts (r c) : (sweepQueue r c s).counts = s.counts := by unfold sweepQueue; simp
@[simp] theorem returnCredit_counts (r c) : (returnCredit r c s).counts = s.counts := rfl
@[simp] theorem grantClaim_counts (c id) : (grantClaim c id s).counts = s.counts := by unfold grantClaim; simp
@[simp] theorem requestClaim_counts (c o) : (requestClaim c o s).counts = s.counts := by
  unfold requestClaim; dsimp only; (repeat' split) <;> simp
@[simp] theorem offerColumn_counts (c) : (offerColumn c s).counts = s.counts := by
  unfold offerColumn; dsimp only; (repeat' split) <;> simp
@[simp] theorem grantLoad_counts : (grantLoad s).counts = s.counts := by unfold grantLoad; split <;> simp
@[simp] theorem openParkedLoad_counts (c) : (openParkedLoad c s).counts = s.counts := by
  unfold openParkedLoad; dsimp only; split <;> simp
@[simp] theorem offerLoads_counts : (offerLoads s).counts = s.counts := by unfold offerLoads; simp
@[simp] theorem plainRelease_counts (c id) : (plainRelease c id s).counts = s.counts := by
  unfold plainRelease; dsimp only; (repeat' split) <;> simp
@[simp] theorem releaseWithOpening_counts (c o) : (releaseWithOpening c o s).counts = s.counts := by
  unfold releaseWithOpening; dsimp only; split <;> simp
@[simp] theorem cancelHandover_counts (id) : (cancelHandover id s).counts = s.counts := by
  unfold cancelHandover; dsimp only; (repeat' split) <;> simp
@[simp] theorem leaveWaits_counts (id) : (leaveWaits id s).counts = s.counts := by unfold leaveWaits; simp
@[simp] theorem failWaiting_counts (c) : (failWaiting c s).counts = s.counts := by unfold failWaiting; simp
@[simp] theorem countMaybe_counts (t) : (countMaybe t s).counts = s.counts := by unfold countMaybe; split <;> simp
@[simp] theorem columnOpened_counts (c released) : (columnOpened c released s).counts = s.counts := by
  unfold columnOpened; dsimp only; (repeat' split) <;> simp
@[simp] theorem moveNak_counts (m) : (moveNak m s).counts = s.counts := by unfold moveNak; dsimp only; split <;> simp
@[simp] theorem moveNoReply_counts (m) : (moveNoReply m s).counts = s.counts := by unfold moveNoReply; simp
@[simp] theorem settleStuck_counts (c) : (settleStuck c s).counts = s.counts := by unfold settleStuck; simp
@[simp] theorem failHandover_counts (c who) : (failHandover c who s).counts = s.counts := by
  unfold failHandover; (repeat' split) <;> simp
@[simp] theorem moveTimedOut_counts (m) : (moveTimedOut m s).counts = s.counts := by unfold moveTimedOut; simp
@[simp] theorem makeStuck_counts (r c reported cause) : (makeStuck r c reported cause s).counts = s.counts := by
  unfold makeStuck; dsimp only; (repeat' split) <;> simp
@[simp] theorem failStuckClaim_counts (c) : (failStuckClaim c s).counts = s.counts := by
  unfold failStuckClaim; (repeat' split) <;> simp
@[simp] theorem foundClosed_counts (r c others) : (foundClosed r c others s).counts = s.counts := by
  unfold foundClosed; dsimp only; (repeat' split) <;> simp
@[simp] theorem foundAway_counts (c) : (foundAway c s).counts = s.counts := by unfold foundAway; split <;> simp
@[simp] theorem foundOpen_counts (r c) : (foundOpen r c s).counts = s.counts := by
  unfold foundOpen; dsimp only; (repeat' split) <;> simp
@[simp] theorem resolvedOpen_counts (r c) : (resolvedOpen r c s).counts = s.counts := by
  unfold resolvedOpen; dsimp only; split <;> simp
@[simp] theorem startMove_counts (q) : (startMove q s).counts = s.counts := by
  unfold startMove; dsimp only; (repeat' split) <;> simp
@[simp] theorem arbiterStart_counts : (arbiterStart s).counts = s.counts := by
  unfold arbiterStart; (repeat' split) <;> simp
@[simp] theorem slewEnded_counts (id) : (slewEnded id s).counts = s.counts := rfl
@[simp] theorem slewFailedFor_counts (id) : (slewFailedFor id s).counts = s.counts := rfl
@[simp] theorem startSlew_counts (a id target) : (startSlew a id target s).counts = s.counts := by
  unfold startSlew; split <;> simp
@[simp] theorem tellEarlier_counts (id k) : (tellEarlier id k s).counts = s.counts := by
  unfold tellEarlier; (repeat' split) <;> simp
@[simp] theorem requestSlew_counts (a id target) : (requestSlew a id target s).counts = s.counts := by
  unfold requestSlew; (repeat' split) <;> simp
@[simp] theorem dropSlew_counts (id) : (dropSlew id s).counts = s.counts := rfl
@[simp] theorem failSlew_counts (a) : (failSlew a s).counts = s.counts := by
  unfold failSlew; dsimp only; (repeat' split) <;> simp
@[simp] theorem completeSlew_counts (a) : (completeSlew a s).counts = s.counts := by
  unfold completeSlew; (repeat' split) <;> simp
@[simp] theorem pollRotator_counts (a rep) : (pollRotator a rep s).counts = s.counts := by
  unfold pollRotator; dsimp only; (repeat' split) <;> simp
@[simp] theorem setRotatorRecord_counts (a r) : (setRotatorRecord a r s).counts = s.counts := rfl

/-! ### Protection -/

@[simp] theorem offerSetpoint_counts (n want) : (offerSetpoint n want s).counts = s.counts := by
  unfold offerSetpoint; dsimp only; split <;> simp
@[simp] theorem setFactor_counts (n v o rho k) : (setFactor n v o rho k s).counts = s.counts := by
  unfold setFactor; dsimp only; (repeat' split) <;> simp
@[simp] theorem dropRecovery_counts (n id) : (dropRecovery n id s).counts = s.counts := by
  unfold dropRecovery; (repeat' split) <;> simp

/-! ### OrderOps -/

@[simp] theorem setMark_counts (id m) : (setMark id m s).counts = s.counts := by unfold setMark; simp
@[simp] theorem rechooseMark_counts (o) : (rechooseMark o s).counts = s.counts := by unfold rechooseMark; simp
@[simp] theorem finishOrder_counts (id out) : (finishOrder id out s).counts = s.counts := by
  unfold finishOrder; (repeat' split) <;> simp
@[simp] theorem refreshMove_counts (id) : (refreshMove id s).counts = s.counts := rfl
@[simp] theorem enterClosing_counts (id out) : (enterClosing id out s).counts = s.counts := by
  unfold enterClosing; dsimp only; (repeat' split) <;> simp
@[simp] theorem preempt_counts (id) : (preempt id s).counts = s.counts := by unfold preempt; (repeat' split) <;> simp
@[simp] theorem conclude_counts (id out) : (conclude id out s).counts = s.counts := by
  unfold conclude; (repeat' split) <;> simp
@[simp] theorem preemptFor_counts (rescued id) : (preemptFor rescued id s).counts = s.counts := by
  unfold preemptFor; split <;> simp
@[simp] theorem rescue_counts (o c) : (rescue o c s).counts = s.counts := by unfold rescue; simp
@[simp] theorem finishClosing_counts (id) : (finishClosing id s).counts = s.counts := by
  unfold finishClosing; (repeat' split) <;> simp
@[simp] theorem closingStep_counts (o) : (closingStep o s).counts = s.counts := by
  unfold closingStep; dsimp only; (repeat' split) <;> simp
@[simp] theorem failOrder_counts (id cause) : (failOrder id cause s).counts = s.counts := by
  unfold failOrder; (repeat' split) <;> simp
@[simp] theorem failPreparation_counts (id cause) : (failPreparation id cause s).counts = s.counts := by
  unfold failPreparation; simp
@[simp] theorem askClaim_counts (id) : (askClaim id s).counts = s.counts := by
  unfold askClaim; dsimp only; (repeat' split) <;> simp
@[simp] theorem enterClearing_counts (id) : (enterClearing id s).counts = s.counts := by unfold enterClearing; simp
@[simp] theorem enterWarming_counts (id n) : (enterWarming id n s).counts = s.counts := by unfold enterWarming; simp
@[simp] theorem beginPreparation_counts (id) : (beginPreparation id s).counts = s.counts := by
  unfold beginPreparation; dsimp only; (repeat' split) <;> simp
@[simp] theorem askSlew_counts (o) : (askSlew o s).counts = s.counts := by unfold askSlew; (repeat' split) <;> simp
@[simp] theorem joinLoadWait_counts (o) : (joinLoadWait o s).counts = s.counts := rfl
@[simp] theorem beginSearch_counts (o) : (beginSearch o s).counts = s.counts := by
  unfold beginSearch; dsimp only; (repeat' split) <;> simp
@[simp] theorem enterTuning_counts (id) : (enterTuning id s).counts = s.counts := by
  unfold enterTuning; dsimp only; (repeat' split) <;> simp
@[simp] theorem enterRouting_counts (id) : (enterRouting id s).counts = s.counts := by unfold enterRouting; simp
@[simp] theorem enterPoised_counts (id) : (enterPoised id s).counts = s.counts := by unfold enterPoised; simp
@[simp] theorem enterProving_counts (id) : (enterProving id s).counts = s.counts := by
  unfold enterProving; split <;> simp
@[simp] theorem enterRamping_counts (id) : (enterRamping id s).counts = s.counts := by
  unfold enterRamping; split <;> simp
@[simp] theorem firstArrival_counts (o) : (firstArrival o s).counts = s.counts := by
  unfold firstArrival; dsimp only; (repeat' split) <;> simp
@[simp] theorem enterOnAir_counts (id) : (enterOnAir id s).counts = s.counts := by
  unfold enterOnAir; dsimp only; (repeat' split) <;> simp
@[simp] theorem enterRecovering_counts (id cause) : (enterRecovering id cause s).counts = s.counts := by
  unfold enterRecovering; simp
@[simp] theorem clearColumn_counts (o c) : (clearColumn o c s).counts = s.counts := by
  unfold clearColumn; split <;> simp
@[simp] theorem clearingStep_counts (o) : (clearingStep o s).counts = s.counts := by
  unfold clearingStep; dsimp only; (repeat' split) <;> simp
@[simp] theorem tuneComplete_counts (o) : (tuneComplete o s).counts = s.counts := by
  unfold tuneComplete; (repeat' split) <;> simp
@[simp] theorem tuningStep_counts (o) : (tuningStep o s).counts = s.counts := by
  unfold tuningStep; dsimp only; (repeat' split) <;> simp
@[simp] theorem routingStep_counts (o) : (routingStep o s).counts = s.counts := by
  unfold routingStep; dsimp only; (repeat' split) <;> simp
@[simp] theorem poisedStep_counts (o) : (poisedStep o s).counts = s.counts := by unfold poisedStep; split <;> simp
@[simp] theorem blockedStep_counts (o) : (blockedStep o s).counts = s.counts := by unfold blockedStep; split <;> simp
@[simp] theorem advance_counts (id) : (advance id s).counts = s.counts := by
  unfold advance; dsimp only; (repeat' split) <;> simp
@[simp] theorem claimGranted_counts (id) : (claimGranted id s).counts = s.counts := by unfold claimGranted; simp
@[simp] theorem claimFailed_counts (id) : (claimFailed id s).counts = s.counts := by unfold claimFailed; simp
@[simp] theorem tuneEnded_counts (id ok) : (tuneEnded id ok s).counts = s.counts := by
  unfold tuneEnded; split <;> simp
@[simp] theorem moveEnded_counts (who col ok) : (moveEnded who col ok s).counts = s.counts := by
  unfold moveEnded; (repeat' split) <;> simp

/-! ### Samples -/

@[simp] theorem tripReport_counts (n o st k d r) : (tripReport n o st k d r s).counts = s.counts := rfl
@[simp] theorem tripFault_counts (kind n order trip) : (tripFault kind n order trip s).counts = s.counts := rfl
@[simp] theorem tripNotTaken_counts (n o st k d) : (tripNotTaken n o st k d s).counts = s.counts := by
  unfold tripNotTaken; (repeat' split) <;> simp
@[simp] theorem noteTrip_counts (n kind) : (noteTrip n kind s).counts = s.counts := rfl
@[simp] theorem tripOrder_counts (o kind d) : (tripOrder o kind d s).counts = s.counts := by
  unfold tripOrder; (repeat' split) <;> simp
@[simp] theorem tripSearch_counts (n order kind d) : (tripSearch n order kind d s).counts = s.counts := by
  unfold tripSearch; (repeat' split) <;> simp
@[simp] theorem provePass_counts (o) : (provePass o s).counts = s.counts := by
  unfold provePass; dsimp only; split <;> simp
@[simp] theorem proveFail_counts (o) : (proveFail o s).counts = s.counts := by unfold proveFail; simp
@[simp] theorem stepSetpoint_counts (o permit) : (stepSetpoint o permit s).counts = s.counts := by
  unfold stepSetpoint; dsimp only; (repeat' split) <;> simp
@[simp] theorem cleanSample_counts (o r) : (cleanSample o r s).counts = s.counts := by
  unfold cleanSample; dsimp only; (repeat' split) <;> simp
@[simp] theorem judgeSample_counts (n r drop) : (judgeSample n r drop s).counts = s.counts := by
  unfold judgeSample; dsimp only; (repeat' split) <;> simp

/-! ### Agenda -/

@[simp] theorem filamentResult_counts (n on serial r) : (filamentResult n on serial r s).counts = s.counts := by
  unfold filamentResult; dsimp only; (repeat' split) <;> simp
@[simp] theorem tuneAcked_counts (n limit) : (tuneAcked n limit s).counts = s.counts := rfl
@[simp] theorem setMode_counts (n m r) : (setMode n m r s).counts = s.counts := by unfold setMode; split <;> simp
@[simp] theorem modeResult_counts (n m serial r) : (modeResult n m serial r s).counts = s.counts := by
  unfold modeResult; dsimp only; (repeat' split) <;> simp
@[simp] theorem presetResult_counts (n m serial r) : (presetResult n m serial r s).counts = s.counts := by
  unfold presetResult; dsimp only; (repeat' split) <;> simp
@[simp] theorem searchResult_counts (n m serial r) : (searchResult n m serial r s).counts = s.counts := by
  unfold searchResult; dsimp only; (repeat' split) <;> simp
@[simp] theorem positionsResult_counts (n serial r) : (positionsResult n serial r s).counts = s.counts := by
  unfold positionsResult; (repeat' split) <;> simp
@[simp] theorem carrierOnResult_counts (n level serial r) : (carrierOnResult n level serial r s).counts = s.counts := by
  unfold carrierOnResult; dsimp only; (repeat' split) <;> simp
@[simp] theorem carrierOffResult_counts (n serial) : (carrierOffResult n serial s).counts = s.counts := rfl
@[simp] theorem setpointResult_counts (n power r) : (setpointResult n power r s).counts = s.counts := by
  unfold setpointResult; (repeat' split) <;> simp
@[simp] theorem moveResult_counts (serial r) : (moveResult serial r s).counts = s.counts := by
  unfold moveResult; (repeat' split) <;> simp
@[simp] theorem slewResult_counts (a serial r) : (slewResult a serial r s).counts = s.counts := by
  unfold slewResult; (repeat' split) <;> simp
@[simp] theorem commandResult_counts (c r) : (commandResult c r s).counts = s.counts := by
  unfold commandResult; split <;> simp
@[simp] theorem unitSilent_counts (kind owner) : (unitSilent kind owner s).counts = s.counts := by
  unfold unitSilent; (repeat' split) <;> simp

/-! ### The messages between blocks -/

@[simp] theorem handle_counts (g) : (handle g s).counts = s.counts := by unfold handle; (repeat' split) <;> simp
@[simp] theorem drain_counts (fuel) : (drain fuel s).counts = s.counts := by
  induction fuel generalizing s with
  | zero => rfl
  | succ k ih =>
    unfold drain
    split
    · rfl
    · rw [ih, handle_counts]; rfl
@[simp] theorem rest_counts : (rest s).counts = s.counts := by unfold rest; simp
@[simp] theorem judgePermits_counts : (judgePermits s).counts = s.counts := rfl
@[simp] theorem settle_counts : (settle s).counts = s.counts := by unfold settle; simp
@[simp] theorem decideRecovery_counts (n d) : (decideRecovery n d s).counts = s.counts := by
  unfold decideRecovery; dsimp only; (repeat' split) <;> simp

/-! ### StagingOps -/

@[simp] theorem recomputePrepare_counts : (recomputePrepare s).counts = s.counts := rfl
@[simp] theorem markFor_counts (c id o) : (markFor c id o s).counts = s.counts := by
  unfold markFor; (repeat' split) <;> simp
@[simp] theorem createOrder_counts (c) : (createOrder c s).counts = s.counts := by unfold createOrder; simp
@[simp] theorem stagingReport_counts (k entry start ev) : (stagingReport k entry start ev s).counts = s.counts := rfl
@[simp] theorem deferOccurrence_counts (d) : (deferOccurrence d s).counts = s.counts := by
  unfold deferOccurrence; (repeat' split) <;> simp
theorem admitOrder_counts (c) : (admitOrder c s).2.counts = s.counts := by unfold admitOrder; split <;> simp
@[simp] theorem stageOccurrence_counts (d) : (stageOccurrence d s).counts = s.counts := by
  have h := admitOrder_counts s d.candidate
  unfold stageOccurrence; split <;> simp_all
@[simp] theorem stageUnlessLive_counts (d) : (stageUnlessLive d s).counts = s.counts := by
  unfold stageUnlessLive; split <;> simp
@[simp] theorem stageUnknown_counts (d) : (stageUnknown d s).counts = s.counts := by
  unfold stageUnknown; split <;> simp
@[simp] theorem stagingScan_counts : (stagingScan s).counts = s.counts := by unfold stagingScan; simp
@[simp] theorem catchOne_counts (t x) : (catchOne t x s).counts = s.counts := by unfold catchOne; split <;> simp
@[simp] theorem catchUp_counts : (catchUp s).counts = s.counts := by unfold catchUp; simp
@[simp] theorem dropTest_counts : (dropTest s).counts = s.counts := by unfold dropTest; simp
@[simp] theorem retryDeferred_counts (d) : (retryDeferred d s).counts = s.counts := by
  have h := admitOrder_counts s d.candidate
  unfold retryDeferred; dsimp only; split <;> simp_all
@[simp] theorem retries_counts : (retries s).counts = s.counts := by unfold retries; simp
@[simp] theorem setHeld_counts (v id) : (setHeld v id s).counts = s.counts := by unfold setHeld; split <;> simp
@[simp] theorem endAuto_counts : (endAuto s).counts = s.counts := by unfold endAuto; simp
@[simp] theorem beginAuto_counts : (beginAuto s).counts = s.counts := by unfold beginAuto; simp
@[simp] theorem autoFollows_counts (was) : (autoFollows was s).counts = s.counts := by
  unfold autoFollows; (repeat' split) <;> simp

/-! ### ClockOps -/

@[simp] theorem tickTimers_counts : (tickTimers s).counts = s.counts := rfl
@[simp] theorem countOccupancy_counts : (countOccupancy s).counts = s.counts := by
  unfold countOccupancy; dsimp only; simp
@[simp] theorem activateBank_counts (bk) : (activateBank bk s).counts = s.counts := by
  unfold activateBank; dsimp only; (repeat' split) <;> simp
@[simp] theorem activateBanks_counts : (activateBanks s).counts = s.counts := by unfold activateBanks; simp
@[simp] theorem continuePower_counts (n o) : (continuePower n o s).counts = s.counts := by
  unfold continuePower; dsimp only; (repeat' split) <;> simp
@[simp] theorem continueInto_counts (o n) : (continueInto o n s).counts = s.counts := by
  unfold continueInto; dsimp only; split <;> simp
@[simp] theorem endProgramme_counts (id) : (endProgramme id s).counts = s.counts := by
  unfold endProgramme; (repeat' split) <;> simp
@[simp] theorem endIfDue_counts (id) : (endIfDue id s).counts = s.counts := by unfold endIfDue; split <;> simp
@[simp] theorem orderInstants_counts : (orderInstants s).counts = s.counts := by
  unfold orderInstants; dsimp only; split <;> simp
@[simp] theorem clockReport_counts (st k step) : (clockReport st k step s).counts = s.counts := by
  unfold clockReport; simp
@[simp] theorem applySetting_counts (value st natural) : (applySetting value st natural s).counts = s.counts := by
  unfold applySetting; dsimp only; simp
@[simp] theorem timeFollows_counts (wasAuto natural) : (timeFollows wasAuto natural s).counts = s.counts := by
  have hfollow : (followAuto wasAuto natural (activateBanks s)).counts = s.counts := by
    unfold followAuto; (repeat' split) <;> simp
  rw [timeFollows_eq_minuteWork]
  split
  · unfold minuteWork
    rw [recomputePrepare_counts]
    split <;> simp [hfollow]
  · exact hfollow
@[simp] theorem advanceTime_counts (natural) : (advanceTime natural s).counts = s.counts := rfl
@[simp] theorem clockAtMark_counts (closed value) : (clockAtMark closed value s).counts = s.counts := by
  unfold clockAtMark; dsimp only; (repeat' split) <;> simp
@[simp] theorem clockAtInternal_counts (value) : (clockAtInternal value s).counts = s.counts := by
  unfold clockAtInternal; (repeat' split) <;> simp
@[simp] theorem secondBoundary_counts (clock : Option Nat → State → State)
    (h : (∀ n t, (clock n t).counts = t.counts) = True) : (secondBoundary clock s).counts = s.counts := by
  have h' := of_eq_true h
  unfold secondBoundary; simp [h']

/-! ### The Field Line -/

@[simp] theorem startPoll_counts : (startPoll s).counts = s.counts := by unfold startPoll; dsimp only; split <;> simp
@[simp] theorem wakeScan_counts : (wakeScan s).counts = s.counts := by unfold wakeScan; split <;> simp
@[simp] theorem bindUnit_counts (a k n) : (bindUnit a k n s).counts = s.counts := by unfold bindUnit; simp
@[simp] theorem unbindUnit_counts (a) : (unbindUnit a s).counts = s.counts := by unfold unbindUnit; simp
@[simp] theorem endTxn_counts : (endTxn s).counts = s.counts := rfl
@[simp] theorem reofferHeld_counts : (reofferHeld s).counts = s.counts := by unfold reofferHeld; simp
@[simp] theorem commandSlot_counts : (commandSlot s).counts = s.counts := by
  unfold commandSlot; dsimp only; split <;> simp
@[simp] theorem goodReply_counts (a) : (goodReply a s).counts = s.counts := by
  unfold goodReply; dsimp only; split <;> simp
@[simp] theorem becomeSilent_counts (a k) : (becomeSilent a k s).counts = s.counts := by unfold becomeSilent; simp
@[simp] theorem countMiss_counts (a k) : (countMiss a k s).counts = s.counts := by
  unfold countMiss; dsimp only; (repeat' split) <;> simp
@[simp] theorem afterTxn_counts (t) : (afterTxn t s).counts = s.counts := by unfold afterTxn; split <;> simp
@[simp] theorem finishDead_counts (t) : (finishDead t s).counts = s.counts := by unfold finishDead; split <;> simp
@[simp] theorem missDead_counts (t) : (missDead t s).counts = s.counts := by unfold missDead; simp
@[simp] theorem missTxn_counts (t k) : (missTxn t k s).counts = s.counts := by
  unfold missTxn; dsimp only; (repeat' split) <;> simp
theorem answerTxn_counts {heard formed : Txn → Bool} {deliver : Txn → State → State}
    (h : ∀ t u, (deliver t u).counts = u.counts) : (answerTxn heard formed deliver s).counts = s.counts := by
  unfold answerTxn; (repeat' split) <;> simp [h]

/-! ### The delivery of a good reply -/

@[simp] theorem writeReply_counts (n r) : (writeReply n r s).counts = s.counts := by
  unfold writeReply; dsimp only; split <;> simp
@[simp] theorem filamentLost_counts (n f) : (filamentLost n f s).counts = s.counts := by
  unfold filamentLost; split <;> simp
@[simp] theorem replyState_counts (n r) : (replyState n r s).counts = s.counts := by
  unfold replyState; dsimp only; (repeat' split) <;> simp
@[simp] theorem askPositions_counts (n) : (askPositions n s).counts = s.counts := by
  unfold askPositions; dsimp only; split <;> simp
@[simp] theorem judgeTune_counts (n r) : (judgeTune n r s).counts = s.counts := by
  unfold judgeTune; (repeat' split) <;> simp
@[simp] theorem clearingSees_counts (n r) : (clearingSees n r s).counts = s.counts := by
  unfold clearingSees; split <;> simp
@[simp] theorem judgeOff_counts (n r) : (judgeOff n r s).counts = s.counts := by
  unfold judgeOff; dsimp only; (repeat' split) <;> simp
@[simp] theorem bringDown_counts (n) : (bringDown n s).counts = s.counts := by unfold bringDown; split <;> simp
@[simp] theorem advanceWorking_counts (n) : (advanceWorking n s).counts = s.counts := by
  unfold advanceWorking; split <;> simp
@[simp] theorem pollTransmitter_counts (n r) : (pollTransmitter n r s).counts = s.counts := by
  unfold pollTransmitter; split <;> simp
@[simp] theorem deliverResult_counts (a t) : (deliverResult a t s).counts = s.counts := by
  unfold deliverResult; split <;> simp

/-! ### The key and the Safety Chain -/

@[simp] theorem readoptClosing_counts (o) : (readoptClosing o s).counts = s.counts := by
  unfold readoptClosing; split <;> simp
@[simp] theorem restartRecovery_counts (o) : (restartRecovery o s).counts = s.counts := rfl
@[simp] theorem restartWarming_counts (o) : (restartWarming o s).counts = s.counts := by
  unfold restartWarming; dsimp only; split <;> simp
@[simp] theorem recoverSafety_counts (o) : (recoverSafety o s).counts = s.counts := by unfold recoverSafety; simp
@[simp] theorem resumeOwn_counts (o) : (resumeOwn o s).counts = s.counts := by unfold resumeOwn; split <;> simp
@[simp] theorem restartClearing_counts (o) : (restartClearing o s).counts = s.counts := rfl
@[simp] theorem restartHeld_counts (o) : (restartHeld o s).counts = s.counts := by
  unfold restartHeld; (repeat' split) <;> simp
@[simp] theorem restartStage_counts (o) : (restartStage o s).counts = s.counts := by
  unfold restartStage; dsimp only; (repeat' split) <;> simp
@[simp] theorem readopt_counts (id) : (readopt id s).counts = s.counts := by
  unfold readopt; dsimp only; (repeat' split) <;> simp
@[simp] theorem resumeHeld_counts (n) : (resumeHeld n s).counts = s.counts := by
  unfold resumeHeld; (repeat' split) <;> simp
@[simp] theorem releaseHeld_counts : (releaseHeld s).counts = s.counts := by unfold releaseHeld; simp
@[simp] theorem keyToRemote_counts : (keyToRemote s).counts = s.counts := by
  unfold keyToRemote; dsimp only; split <;> simp
@[simp] theorem keyToLocal_counts : (keyToLocal s).counts = s.counts := by unfold keyToLocal; simp
@[simp] theorem chainOpens_counts : (chainOpens s).counts = s.counts := by
  unfold chainOpens; dsimp only; split <;> simp
@[simp] theorem chainCloses_counts : (chainCloses s).counts = s.counts := by
  unfold chainCloses; dsimp only; split <;> simp

/-! ### The effects of the requests -/

@[simp] theorem suspendEntry_counts (k n) : (suspendEntry k n s).counts = s.counts := by unfold suspendEntry; simp
@[simp] theorem resumeEntry_counts (k e) : (resumeEntry k e s).counts = s.counts := by
  unfold resumeEntry; dsimp only; (repeat' split) <;> simp
@[simp] theorem suspendOne_counts (k action n) : (suspendOne k action n s).counts = s.counts := by
  unfold suspendOne; dsimp only; (repeat' split) <;> simp
@[simp] theorem setEnable_counts (v) : (setEnable v s).counts = s.counts := by
  unfold setEnable; dsimp only; split <;> simp
@[simp] theorem flagOne_counts (flag action c) : (flagOne flag action c s).counts = s.counts := by
  unfold flagOne; dsimp only; (repeat' split) <;> simp
@[simp] theorem settleDeclared_counts (r c) : (settleDeclared r c s).counts = s.counts := by
  unfold settleDeclared; simp
@[simp] theorem clearXp_counts (r c closed) : (clearXp r c closed s).counts = s.counts := by
  unfold clearXp; dsimp only; (repeat' split) <;> simp
@[simp] theorem clearLock_counts (n) : (clearLock n s).counts = s.counts := by unfold clearLock; simp
@[simp] theorem cancelAll_counts : (cancelAll s).counts = s.counts := by unfold cancelAll; simp
@[simp] theorem restartOrderly_counts : (restartOrderly s).counts = s.counts := by
  unfold restartOrderly; dsimp only; split <;> simp
@[simp] theorem releaseAll_counts : (releaseAll s).counts = s.counts := by
  rw [releaseAll_eq, forEach_counts _ (by simp)]
  have hrow : ∀ row : List Xp, (row.map fun x => if x.state.inFlight then { x with state := .unknown } else x).map
      (fun x => (x.remaining, x.serviceDue)) = row.map fun x => (x.remaining, x.serviceDue) := by
    intro row
    rw [List.map_map]
    refine List.map_congr_left fun x _ => ?_
    dsimp only [Function.comp_apply]
    split <;> rfl
  show (s.mx.rows.map (List.map _)).map (List.map _) = _
  rw [List.map_map]
  exact List.map_congr_left fun row _ => hrow row
@[simp] theorem restartTx_counts (b n) : (restartTx b n s).counts = s.counts := by
  unfold restartTx; dsimp only; (repeat' split) <;> simp
@[simp] theorem discard_counts : (discard s).counts = s.counts := by
  unfold discard; rw [onTx_counts, onProt_counts, releaseAll_counts]; rfl
@[simp] theorem restartImmediate_counts : (restartImmediate s).counts = s.counts := by rw [restartImmediate_eq]; simp
@[simp] theorem freeOld_counts (old new : Option TxRec) : (freeOld old new s).counts = s.counts := by
  unfold freeOld; dsimp only; (repeat' split) <;> simp
@[simp] theorem quietTx_counts (n old new) : (quietTx n old new s).counts = s.counts := by
  unfold quietTx; split <;> simp
@[simp] theorem bindNew_counts (n old new) : (bindNew n old new s).counts = s.counts := by
  unfold bindNew; dsimp only; (repeat' split) <;> simp
@[simp] theorem rebindTx_counts (n old new) : (rebindTx n old new s).counts = s.counts := by
  rw [rebindTx_eq]; simp
@[simp] theorem rebindAnt_counts (a old new) : (rebindAnt a old new s).counts = s.counts := by
  unfold rebindAnt; dsimp only; (repeat' split) <;> simp
@[simp] theorem defineTx_counts (n r) : (defineTx n r s).counts = s.counts := by unfold defineTx; simp
@[simp] theorem removeTx_counts (n) : (removeTx n s).counts = s.counts := by
  unfold removeTx; dsimp only; split <;> simp
@[simp] theorem defineAnt_counts (a r) : (defineAnt a r s).counts = s.counts := by unfold defineAnt; simp
@[simp] theorem removeAnt_counts (a) : (removeAnt a s).counts = s.counts := by
  unfold removeAnt; dsimp only; split <;> simp

/-! ### The effects of the events -/

@[simp] theorem rephase_counts (closed) : (rephase closed s).counts = s.counts := by
  unfold rephase; dsimp only; split <;> simp
@[simp] theorem timeMark_counts (early closed) : (timeMark early closed s).counts = s.counts := by
  unfold timeMark; split <;> simp
@[simp] theorem internalBoundary_counts : (internalBoundary s).counts = s.counts := by unfold internalBoundary; simp
@[simp] theorem watchRunsOut_counts : (watchRunsOut s).counts = s.counts := by unfold watchRunsOut; split <;> simp
@[simp] theorem warmUpRanOut_counts (n) : (warmUpRanOut n s).counts = s.counts := by
  unfold warmUpRanOut; dsimp only; split <;> simp
@[simp] theorem sendCoolDown_counts (n) : (sendCoolDown n s).counts = s.counts := by unfold sendCoolDown; simp
@[simp] theorem blindRanOut_counts (n) : (blindRanOut n s).counts = s.counts := by unfold blindRanOut; simp
@[simp] theorem proceedUnconfirmed_counts (o) : (proceedUnconfirmed o s).counts = s.counts := by
  unfold proceedUnconfirmed; simp

end frames

end Sys2Proof.Machine

end

section
/-! PROOFS. The wear counts (O9): only a movement completed, a service and a lowered operation life touch them. -/

set_option Elab.async false

namespace Sys2Proof.Machine

/-- Every count of the matrix is in order for the operation life given (R112). -/
def State.worn (life : Nat) (s : State) : Prop :=
  ∀ row ∈ s.mx.rows, ∀ x ∈ row, wearOk life x.remaining x.serviceDue

theorem worn_iff_counts {life : Nat} {s : State} :
    s.worn life ↔ ∀ row ∈ s.counts, ∀ k ∈ row, wearOk life k.1 k.2 := by
  unfold State.worn State.counts
  rw [List.forall_mem_map]
  refine forall₂_congr fun row _ => ?_
  rw [List.forall_mem_map]

theorem worn_of_counts {life : Nat} {s t : State} (h : s.worn life) (ht : t.counts = s.counts) : t.worn life := by
  rw [worn_iff_counts, ht]
  exact worn_iff_counts.mp h

theorem mem_of_nth {α : Type} {l : List α} {n : Nat} {x : α} (h : nth l n = some x) : x ∈ l := by
  unfold nth at h
  split at h
  · cases h
  · exact List.mem_of_getElem? h

/-- What every round of a loop keeps, the loop keeps. -/
theorem forEach_induct {α : Type} {P : State → Prop} {l : List α} {f : α → State → State} {s : State}
    (hf : ∀ x ∈ l, ∀ t, P t → P (f x t)) (h : P s) : P (forEach l f s) := by
  unfold forEach
  induction l generalizing s with
  | nil => exact h
  | cons x l ih =>
    exact ih (fun y hy => hf y (List.mem_cons_of_mem _ hy)) (hf x List.mem_cons_self s h)

theorem mem_updNth_at {α : Type} {l : List α} {n : Nat} {f : α → α} {y : α} (h : y ∈ updNth l n f) :
    y ∈ l ∨ ∃ z, nth l n = some z ∧ y = f z := by
  unfold updNth at h
  split at h
  · exact .inl h
  next hn =>
    obtain ⟨i, hi⟩ := List.mem_iff_getElem?.mp h
    rw [List.getElem?_modify] at hi
    obtain ⟨z, hz, rfl⟩ := Option.map_eq_some_iff.mp hi
    by_cases hni : n - 1 = i
    · exact .inr ⟨z, by rw [nth, if_neg hn, hni, hz], by simp [hni]⟩
    · rw [if_neg hni]
      exact .inl (List.mem_of_getElem? hz)

/-- A crosspoint changed: its new count has to be in order, where the one before was. -/
theorem updXp_worn {life r c : Nat} {f : Xp → Xp} {s : State} (h : s.worn life)
    (hf : wearOk life (xpAt s r c).remaining (xpAt s r c).serviceDue →
      wearOk life (f (xpAt s r c)).remaining (f (xpAt s r c)).serviceDue) : (updXp r c f s).worn life := by
  intro row hrow x hx
  rcases mem_updNth_at hrow with hrow | ⟨old, hold, rfl⟩
  · exact h row hrow x hx
  · have hmem : old ∈ s.mx.rows := mem_of_nth hold
    rcases mem_updNth_at hx with hx | ⟨z, hz, rfl⟩
    · exact h old hmem x hx
    · have hat : xpAt s r c = z := by simp [xpAt, rowXps, hold, hz]
      rw [hat] at hf
      exact hf (h old hmem z (mem_of_nth hz))

/-! ### A completed movement wears its crosspoint (R112) -/

/-- One operation less, and SERVICE-DUE with the last. -/
theorem wear_worn {life r c : Nat} {s : State} (h : s.worn life) : (wear r c s).worn life := by
  unfold wear
  dsimp only
  split
  · exact h
  next hne =>
    have hw : (updXp r c (fun y => { y with remaining := y.remaining - 1, serviceDue := y.remaining == 1 }) s).worn life := by
      refine updXp_worn h fun ⟨hle, _⟩ => ⟨(Nat.sub_le ..).trans hle, ?_⟩
      show (((xpAt s r c).remaining == 1) = true ↔ (xpAt s r c).remaining - 1 = 0)
      rw [beq_iff_eq]
      omega
    split
    · exact worn_of_counts hw (xpReport_counts ..)
    · exact hw

theorem completeMove_worn {life : Nat} {m : Movement} {s : State} (h : s.worn life) : (completeMove m s).worn life := by
  have hw := wear_worn (r := m.row) (c := m.col)
    (worn_of_counts (t := returnCredit m.row m.col (setXp m.row m.col m.dir.target s)) h (by simp))
  refine worn_of_counts hw ?_
  unfold completeMove
  dsimp only
  split <;> simp

theorem resolveCredit_worn {life r c : Nat} {m : Option Movement} {pos : XpState} {become : State → State} {s : State}
    (h : s.worn life) (hb : ∀ t, (become t).counts = t.counts) : (resolveCredit m r c pos become s).worn life := by
  unfold resolveCredit
  split
  · have hc : (become (returnCredit r c s)).worn life := worn_of_counts h (by rw [hb, returnCredit_counts])
    split
    · exact wear_worn hc
    · exact hc
  · exact worn_of_counts h (hb s)

/-- A movement that a poll reply finds at its end is completed, if it is still there. -/
def finishMove (r c : Nat) (s : State) : State :=
  match movementAt? s r c with
  | some m => completeMove m s
  | none => s

theorem finishMove_worn {life r c : Nat} {s : State} (h : s.worn life) : (finishMove r c s).worn life := by
  unfold finishMove
  split
  · exact completeMove_worn h
  · exact h

theorem compareSwitch_worn {life r c : Nat} {was s : State} {pos : SwitchPos} {others : List Nat} (h : s.worn life) :
    (compareSwitch was r c pos others s).worn life := by
  unfold compareSwitch
  dsimp only
  split
  · exact worn_of_counts h (by simp)
  · exact finishMove_worn h
  · exact finishMove_worn h
  · exact worn_of_counts h (by simp)
  · exact resolveCredit_worn h fun t => resolvedOpen_counts t r c
  · exact resolveCredit_worn h fun t => foundClosed_counts t r c others
  · exact worn_of_counts h (by simp)
  · refine worn_of_counts h ?_
    split
    · split <;> simp
    · simp
  · exact h

theorem pollRow_worn {life r : Nat} {positions : List SwitchPos} {s : State} (h : s.worn life) :
    (pollRow r positions s).worn life := by
  have hl := forEach_induct (l := positions.zip (upTo 34)) (f := fun x => compareSwitch s r x.2 x.1
    (((positions.zip (upTo 34)).filterMap fun x => if x.1 = .closed then some x.2 else none).filter (· != x.2)))
    (fun x _ t ht => compareSwitch_worn ht) h
  exact worn_of_counts hl (emit_counts ..)

/-- A poll reply is taken, and the messages it leaves run to their end (R69). -/
theorem answerTxn_worn {life : Nat} {heard formed : Txn → Bool} {deliver : Txn → State → State} {s : State}
    (h : s.worn life) (hd : ∀ t u, u.worn life → (deliver t u).worn life) :
    (answerTxn heard formed deliver s).worn life := by
  unfold answerTxn
  split
  · exact h
  next t _ =>
    split
    · split
      · exact worn_of_counts h (by simp)
      · exact worn_of_counts h (by simp)
    · split
      · exact worn_of_counts (hd t (goodReply t.addr (endTxn s)) (worn_of_counts h (by simp))) (by simp)
      · exact worn_of_counts h (by simp)

/-! ### The operation life is a parameter of the hall (R14) -/

/-- The operation life of the crosspoints. -/
def State.life (s : State) : Nat := s.hall.par.opLife

theorem life_of_named {s t : State} (h : t.given.outer.named = s.given.outer.named) : t.life = s.life :=
  congrArg (fun x : Named => x.hall.par.opLife) h

/-- A hall defined anew with the parameters it had. -/
theorem life_of_hall {s t : State} {k : Hall} (h : t.given.outer.named = { s.given.outer.named with hall := k })
    (hk : k.par = s.hall.par) : t.life = s.life :=
  (congrArg (fun x : Named => x.hall.par.opLife) h).trans (congrArg (·.opLife) hk)

/-- A request keeps what its effects keep, where it is a matter of the operation life and the counts alone. -/
theorem request_keeps_wear {P : State → Prop} (hP : ∀ u v : State, v.life = u.life → v.counts = u.counts → P u → P v)
    {kind tag : Nat} {f : State → Answer} {s t : State} (h : P s) (hr : request kind tag f s = .next t)
    (hf : (f s).gives P) : P t := by
  rcases request_next hr with ⟨rfl, -⟩ | ⟨st, d, -, rfl⟩ | ⟨u, data, hu, rfl⟩
  · exact h
  · exact hP s _ rfl (queueReply_counts ..) h
  · rw [hu] at hf
    refine hP u _ (life_of_named ?_) ?_ hf
    · rw [queueReply_given, settle_given]
    · rw [queueReply_counts, settle_counts]

theorem request_life {kind tag : Nat} {f : State → Answer} {s t : State} (hr : request kind tag f s = .next t)
    (hf : (f s).gives (fun u => u.life = s.life)) : t.life = s.life :=
  request_keeps_wear (P := fun u => u.life = s.life) (fun _ _ hl _ hu => hl.trans hu) rfl hr hf

theorem execTxDefine_life {tag n d : Nat} {f : TxFields} {s t : State} (h : execTxDefine tag n d f s = .next t) :
    t.life = s.life := by
  refine request_life h (checks_gives ?_)
  dsimp only
  split
  case isTrue =>
    split
    · exact trivial
    · split
      · exact trivial
      · exact trivial
      · refine checks_gives ?_
        rw [accept_gives]
        exact life_of_hall (defineTx_named ..) rfl
  case isFalse =>
    refine checks_gives ?_
    split
    · exact trivial
    · refine checks_gives ?_
      rw [accept_gives]
      unfold removeTx
      dsimp only
      split
      · rfl
      · refine life_of_hall (k := { s.hall with tx := updNth s.hall.tx n (fun _ => none) }) ?_ rfl
        simp

theorem execAntDefine_life {tag a d : Nat} {f : AntFields} {s t : State} (h : execAntDefine tag a d f s = .next t) :
    t.life = s.life := by
  refine request_life h (checks_gives ?_)
  split
  · exact checks_gives rfl
  · refine checks_gives ?_
    split
    · split
      · exact trivial
      · exact trivial
      · exact trivial
      · refine checks_gives ?_
        rw [accept_gives]
        exact life_of_hall (defineAnt_named ..) rfl
    · split
      · exact trivial
      · refine checks_gives ?_
        rw [accept_gives]
        exact life_of_hall (removeAnt_named ..) rfl

/-- Every command but HALL-SET and power-on leaves the operation life as it is: the others that define the hall change its
transmitters and antennas alone. -/
theorem exec_life {c : Instr} {s t : State} (hc : c ≠ .frameTaken) (hset : ∀ tag f, c ≠ .hallSet tag f) (hon : c ≠ .powerOn)
    (hr : exec c s = .next t) : t.life = s.life := by
  by_cases hdef : definesHall c = false
  · obtain ⟨-, -, -, -, hsame, -⟩ := exec_changes hc hr
    exact congrArg (·.par.opLife) (hsame hdef)
  · cases c
    case txDefine => exact execTxDefine_life hr
    case antDefine => exact execAntDefine_life hr
    case txInhibit tag action mask =>
      change execTxInhibit tag action mask s = .next t at hr
      refine request_life hr (checks_gives ?_)
      rw [accept_gives]
      exact forEach_keeps State.life _ _ _ fun _ _ => rfl
    case frameTaken => exact absurd rfl hc
    case hallSet tag f => exact absurd rfl (hset tag f)
    case powerOn => exact absurd rfl hon
    all_goals exact absurd rfl hdef

/-! ### The counts under every command -/

theorem event_worn {life : Nat} {f : State → State} {s t : State} (h : s.worn life) (he : event f s = .next t)
    (hf : (f s).worn life) : t.worn life := by
  rcases event_next he with ⟨rfl, -⟩ | ⟨rfl, -⟩
  · exact h
  · exact worn_of_counts hf (settle_counts _)

/-- An event without a part in the counts. -/
theorem event_keeps_worn {life : Nat} {f : State → State} {s t : State} (h : s.worn life) (he : event f s = .next t)
    (hf : (f s).counts = s.counts) : t.worn life := event_worn h he (worn_of_counts h hf)

theorem request_worn {life kind tag : Nat} {f : State → Answer} {s t : State} (h : s.worn life)
    (hr : request kind tag f s = .next t) (hf : (f s).gives (State.worn life)) : t.worn life :=
  request_keeps_wear (P := State.worn life) (fun _ _ _ hc hu => worn_of_counts hu hc) h hr hf

/-- A request without a part in the counts. -/
theorem request_keeps_worn {life kind tag : Nat} {f : State → Answer} {s t : State} (h : s.worn life)
    (hr : request kind tag f s = .next t) (hf : (f s).gives (fun u => u.counts = s.counts)) : t.worn life := by
  have ht : t.counts = s.counts :=
    request_keeps_wear (P := fun u => u.counts = s.counts) (fun _ _ _ hc hu => hc.trans hu) rfl hr hf
  exact worn_of_counts h ht

theorem readRequest_worn {life kind tag : Nat} {f : State → Except (Status × Detail) ReplyData} {s t : State}
    (h : s.worn life) (hr : readRequest kind tag f s = .next t) : t.worn life := by
  rcases readRequest_next hr with rfl | ⟨st, d, data, rfl⟩ <;> exact h

theorem execTxDefine_worn {life tag n d : Nat} {f : TxFields} {s t : State} (h : s.worn life)
    (hr : execTxDefine tag n d f s = .next t) : t.worn life := by
  refine request_keeps_worn h hr (checks_gives ?_)
  dsimp only
  split
  case isTrue =>
    split
    · exact trivial
    · split
      · exact trivial
      · exact trivial
      · exact checks_gives (defineTx_counts ..)
  case isFalse =>
    refine checks_gives ?_
    split
    · exact trivial
    · exact checks_gives (removeTx_counts ..)

theorem execAntDefine_worn {life tag a d : Nat} {f : AntFields} {s t : State} (h : s.worn life)
    (hr : execAntDefine tag a d f s = .next t) : t.worn life := by
  refine request_keeps_worn h hr (checks_gives ?_)
  split
  · exact checks_gives rfl
  · refine checks_gives ?_
    split
    · split
      · exact trivial
      · exact trivial
      · exact trivial
      · exact checks_gives (defineAnt_counts ..)
    · split
      · exact trivial
      · exact checks_gives (removeAnt_counts ..)

/-- A crosspoint serviced has its full life (R119). -/
theorem serviceXp_worn {r c : Nat} {s : State} (hlife : 0 < s.life) (h : s.worn s.life) : (serviceXp r c s).worn s.life := by
  have hw : (updXp r c (fun y => { y with remaining := s.life, serviceDue := false }) s).worn s.life :=
    updXp_worn h fun _ => ⟨le_rfl, by simp [hlife.ne']⟩
  unfold serviceXp
  dsimp only
  split
  · exact worn_of_counts hw (xpReport_counts ..)
  · exact hw

theorem execXpService_worn {life tag row col : Nat} {s t : State} (hlife : 0 < life) (hs : s.life = life) (h : s.worn life)
    (hr : execXpService tag row col s = .next t) : t.worn life := by
  refine request_worn h hr (checks_gives ?_)
  rw [accept_gives]
  have hl := forEach_induct (P := fun u => u.life = life ∧ u.worn life) (l := if col = 0 then upTo 34 else [col])
    (f := serviceXp row) (s := s) ?_ ⟨hs, h⟩
  · exact hl.2
  · rintro c - u ⟨rfl, hu⟩
    refine ⟨?_, serviceXp_worn hlife hu⟩
    unfold serviceXp
    dsimp only
    split <;> rfl

theorem admitOrder_kept {k : Candidate} {a : Admission} {s t : State} (h : admitOrder k s = (a, t)) :
    t.counts = s.counts := by
  have := admitOrder_counts s k
  rwa [h] at this

/-- Every command but FRAME_TAKEN, which carries others, and HALL-SET and POWER_ON, which set the operation life. -/
theorem exec_worn {life : Nat} {c : Instr} {s t : State} (hc : c ≠ .frameTaken) (hset : ∀ tag f, c ≠ .hallSet tag f)
    (hon : c ≠ .powerOn) (hlife : 0 < life) (hs : s.life = life) (h : s.worn life) (hr : exec c s = .next t) :
    t.worn life := by
  cases c <;> simp only [exec] at hr
  case frameTaken => exact absurd rfl hc
  case hallSet tag f => exact absurd rfl (hset tag f)
  case powerOn => exact absurd rfl hon
  case powerLoss => cases hr; exact h
  case txDefine => exact execTxDefine_worn h hr
  case antDefine => exact execAntDefine_worn h hr
  case xpService => exact execXpService_worn hlife hs h hr
  case txRead | antRead | hallRead | lineRead | entryRead | bankStatus | timeRead | orderList | orderRead | matrixRead |
      presetRead | faultRead | identify => exact readRequest_worn h hr
  case store =>
    unfold execStore at hr
    (repeat' split at hr) <;> cases hr <;> exact h
  case hallKeyChange =>
    unfold execHallKeyChange at hr
    (repeat' split at hr)
    · cases hr; exact h
    · cases hr; exact h
    · exact event_keeps_worn h hr (keyToRemote_counts s)
    · exact event_keeps_worn h hr (keyToLocal_counts s)
  case safetyChainOpen =>
    unfold execSafetyChainOpen at hr
    (repeat' split at hr)
    · cases hr; exact h
    · exact event_keeps_worn h hr (chainOpens_counts s)
    · cases hr; exact h
  case safetyChainClose =>
    unfold execSafetyChainClose at hr
    (repeat' split at hr)
    · cases hr; exact h
    · cases hr; exact h
    · exact event_keeps_worn h hr (chainCloses_counts s)
  case bankHeader =>
    refine request_keeps_worn h hr (withBank_gives fun k => checks_gives ?_)
    split <;> simp
  case entryPut =>
    refine request_keeps_worn h hr (withBank_gives fun k => ?_)
    split
    · trivial
    · refine checks_gives ?_
      split
      · trivial
      · refine checks_gives ?_
        split <;> simp
  case entryDelete | entrySuspend | bankClear | bankArm | bankDisarm =>
    exact request_keeps_worn h hr (withBank_gives fun k => checks_gives (by simp))
  case timeSet =>
    refine request_keeps_worn h hr ?_
    split <;> simp
  case orderManual =>
    refine request_keeps_worn h hr ?_
    split
    · trivial
    · refine checks_gives ?_
      split
      · trivial
      · refine checks_gives ?_
        split
        next ha => exact admitOrder_kept ha
        all_goals trivial
  case orderCancel | orderAdvance =>
    refine request_keeps_worn h hr (checks_gives ?_)
    split
    · trivial
    · exact checks_gives (by simp)
  case antFlags =>
    refine request_keeps_worn h hr (checks_gives ?_)
    split <;> simp
  case presetPurge =>
    refine request_keeps_worn h hr (checks_gives ?_)
    dsimp only
    (repeat' split) <;> simp
  case counterSet =>
    refine request_keeps_worn h hr ?_
    split
    · trivial
    · exact checks_gives (by simp)
  case counterRead =>
    refine request_keeps_worn h hr (checks_gives ?_)
    split <;> simp
  case lineSet | automation | xpClear | txInhibit | txLockClear | reportSelect | restartOrderly | restartImmediate =>
    exact request_keeps_worn h hr (checks_gives (by simp))
  case faultClear => exact request_keeps_worn h hr (by simp)
  case pollReplyMdu => exact event_worn h hr (answerTxn_worn h fun _ _ hu => pollRow_worn hu)
  case pollReplyTlu => exact event_keeps_worn h hr (answerTxn_counts _ fun _ _ => pollTransmitter_counts ..)
  case pollReplyAru => exact event_keeps_worn h hr (answerTxn_counts _ fun _ _ => pollRotator_counts ..)
  case commandReply => exact event_keeps_worn h hr (answerTxn_counts _ fun _ _ => deliverResult_counts ..)
  case controlLinkByte | gapTimeout | outgoingFrameSent | timeMark | internalSecondBoundary | markWatchExpiry |
      movementStart => exact event_keeps_worn h hr (by simp)
  case preparationBegin | moveTimeout | slewStart | slewTimeout | transactionMiss | warmUpTimeout | idleClockCoolDown |
      searchTuneTimeout | presetTuneTimeout | blindHoldExpiry | recoveryDelayExpiry | rampEnd |
      carrierOffConfirmTimeout | storeWriteComplete =>
    refine event_keeps_worn h hr ?_
    (repeat' split) <;> simp

/-! ### HALL-SET: a lowered life cuts the counts (R15) -/

theorem cutCounts_worn {was life : Nat} {s : State} (hlife : 0 < life) (h : s.worn was) : (cutCounts life s).worn life := by
  intro row hrow x hx
  obtain ⟨old, hold, rfl⟩ := List.mem_map.mp hrow
  obtain ⟨y, hy, rfl⟩ := List.mem_map.mp hx
  obtain ⟨-, hdue⟩ := h old hold y hy
  refine ⟨Nat.min_le_right .., hdue.trans ?_⟩
  show y.remaining = 0 ↔ min y.remaining life = 0
  omega

/-- An operation life given is within its range (R14). -/
theorem set_life_pos {p : HallParams} {f : HallFields} (hp : 0 < p.opLife) (h : firstBad (hallRanges f) = none) :
    0 < (HallParams.set p f).opLife := by
  have hrange : optWithin 1000 1000000 f.opLife = true :=
    firstBad_eq_none.mp h (13, optWithin 1000 1000000 f.opLife)
      (by unfold hallRanges; simp only [List.mem_cons, or_true, true_or])
  show 0 < f.opLife.getD p.opLife
  cases hl : f.opLife with
  | none => exact hp
  | some life =>
    rw [hl] at hrange
    simp only [optWithin, within, Bool.and_eq_true, decide_eq_true_eq] at hrange
    show 0 < life
    omega

/-- The operation life is not 0, and the counts are in order for it. -/
def State.wearing (s : State) : Prop := 0 < s.life ∧ s.worn s.life

theorem execHallSet_wearing {tag : Nat} {f : HallFields} {s t : State} (h : s.wearing)
    (hr : execHallSet tag f s = .next t) : t.wearing := by
  obtain ⟨hlife, hworn⟩ := h
  refine request_keeps_wear (P := State.wearing) ?_ ⟨hlife, hworn⟩ hr (checks_gives ?_)
  · rintro u v hl hc ⟨hu, hw⟩
    exact ⟨hl ▸ hu, by rw [hl]; exact worn_of_counts hw hc⟩
  split
  · trivial
  next hbad =>
    refine checks_gives ?_
    rw [accept_gives]
    have hpos : 0 < (HallParams.set s.hall.par f).opLife := set_life_pos hlife hbad
    split
    · exact ⟨hpos, cutCounts_worn (was := s.life) hpos hworn⟩
    next hle =>
      refine ⟨hpos, fun row hrow x hx => ?_⟩
      obtain ⟨hrem, hdue⟩ := hworn row hrow x hx
      exact ⟨hrem.trans (not_lt.mp hle), hdue⟩

/-! ### The image slots (R196, R197) -/

theorem slot_wearOk_iff (x : Slot) : x.wearOk ↔ x.holds Image.wearOk := by
  cases x with
  | bad => exact ⟨fun _ => nofun, fun _ => trivial⟩
  | good g i =>
    refine ⟨fun h g' i' e => ?_, fun h => h g i rfl⟩
    cases e
    exact h

theorem wearInOrder_iff (s : State) : s.wearInOrder ↔ s.wearing ∧ s.store.holds Image.wearOk := by
  unfold State.wearInOrder State.wearing Store.holds
  rw [and_assoc, slot_wearOk_iff, slot_wearOk_iff]
  rfl

theorem imageOf_wearOk {s : State} (h : s.wearing) : (imageOf s).wearOk := ⟨h.1, worn_iff_counts.mp h.2⟩

/-- The matrix that an image gives holds counts of the image (R125). -/
theorem imageTables_wearing {i : Image} (h : i.wearOk) (s : State) : (imageTables i s).wearing := by
  refine ⟨h.1, worn_iff_counts.mpr fun row hrow => ?_⟩
  obtain ⟨xs, hxs, rfl⟩ := List.mem_map.mp hrow
  obtain ⟨⟨r, l⟩, hz, rfl⟩ := List.mem_map.mp hxs
  dsimp only
  rw [powerOnRow_counts]
  exact h.2 l (List.of_mem_zip hz).2

theorem loadImage_wearing {i : Image} (h : i.wearOk) (s : State) : (loadImage i s).wearing := by
  have hoff : ∀ u : State, u.wearing ↔ u.offLine.wearing := fun _ => Iff.rfl
  rw [hoff, loadImage_offLine, ← hoff]
  exact imageTables_wearing h s

theorem blank_wearing : State.blank.wearing := by
  refine ⟨by decide, fun row hrow x hx => ?_⟩
  obtain rfl := List.eq_of_mem_replicate hrow
  obtain rfl := List.eq_of_mem_replicate hx
  exact ⟨le_rfl, by decide⟩

/-- The offer of a report has no part in the operation life and the counts. -/
theorem offerReport_wearing {b : ReportBody} {s : State} (h : s.wearing) : (offerReport b s).wearing :=
  ⟨h.1, worn_of_counts h.2 (offerReport_counts ..)⟩

theorem execPowerOn_wearing {s t : State} (h : s.wearing) (hstore : s.store.holds Image.wearOk)
    (hr : execPowerOn s = .next t) : t.wearing := by
  unfold execPowerOn at hr
  split at hr <;> cases hr
  · exact h
  · show (powerUp s).wearing
    rcases powerUp_cases s with ⟨_, _, i, hi, e⟩ | ⟨-, e⟩
    · have hload := loadImage_wearing (latest_holds hstore hi) (freshFrom s)
      rcases e with e | e <;> rw [e]
      · exact hload
      · exact offerReport_wearing hload
    · rw [e]
      exact offerReport_wearing (s := freshFrom s) blank_wearing

theorem exec_wearing {c : Instr} {s t : State} (hc : c ≠ .frameTaken) (h : s.wearing) (hstore : s.store.holds Image.wearOk)
    (hr : exec c s = .next t) : t.wearing := by
  by_cases hon : c = .powerOn
  · subst hon
    exact execPowerOn_wearing h hstore hr
  by_cases hset : ∃ tag f, c = .hallSet tag f
  · obtain ⟨tag, f, rfl⟩ := hset
    exact execHallSet_wearing h hr
  · have hno : ∀ tag f, c ≠ .hallSet tag f := fun tag f e => hset ⟨tag, f, e⟩
    have hlife := exec_life hc hno hon hr
    exact ⟨hlife ▸ h.1, hlife ▸ exec_worn hc hno hon h.1 rfl h.2 hr⟩

/-- Settles O9: the counts follow the operation life, and an image keeps the two together. -/
theorem everyStepKeepsTheWearCounts : Obligations.EveryStepKeepsTheWearCounts := by
  intro s t
  refine step_induction (fun _ _ h => h) (fun _ _ h => h) fun c u v hc h hr => ?_
  obtain ⟨hw, hstore⟩ := (wearInOrder_iff u).mp h
  exact (wearInOrder_iff v).mpr ⟨exec_wearing hc hw hstore hr, exec_holds hc (imageOf_wearOk hw) hstore hr⟩

end Sys2Proof.Machine
end

section
/-! PROOFS. What the operations of the directory and the matrix leave unchanged, and what they change: the layer for O43 to
O47 and O53. -/

set_option Elab.async false

namespace Sys2Proof.Machine

/-! ### The part that the directory, the requests for movements and the reports leave unchanged -/

/-- The state but for the directory, the requests and movements, the commands, the reports, the counters and the messages. -/
def State.still (s : State) : State :=
  { s with dir := { cols := [] }, mx := { rows := s.mx.rows, rotators := s.mx.rotators }, line := { units := [] }
           stats := [], port := {}, agenda := [] }

/-- The same without the fault log. -/
def State.quiet (s : State) : State := { s.still with log := {} }

section
variable {s t : State} (h : t.still = s.still)
include h
theorem rows_of_still : t.mx.rows = s.mx.rows := congrArg (·.mx.rows) h
theorem rotators_of_still : t.mx.rotators = s.mx.rotators := congrArg (·.mx.rotators) h
theorem chg_of_still : t.chg = s.chg := by injection h
theorem tx_of_still : t.tx = s.tx := by injection h
theorem prot_of_still : t.prot = s.prot := by injection h
theorem log_of_still : t.log = s.log := by injection h
theorem quiet_of_still : t.quiet = s.quiet := by unfold State.quiet; rw [h]
theorem xpAt_of_still (r c : Nat) : xpAt t r c = xpAt s r c := by unfold xpAt rowXps; rw [rows_of_still h]
theorem colWhere_of_still (c : Nat) (p : XpState → Bool) : colWhere t c p = colWhere s c p := by
  unfold colWhere; simp only [xpAt_of_still h]
theorem order?_of_still (id : Nat) : order? t id = order? s id := by unfold order?; rw [chg_of_still h]
end

section
variable {s t : State} (h : t.quiet = s.quiet)
include h
theorem rows_of_quiet : t.mx.rows = s.mx.rows := congrArg (·.mx.rows) h
theorem rotators_of_quiet : t.mx.rotators = s.mx.rotators := congrArg (·.mx.rotators) h
theorem chg_of_quiet : t.chg = s.chg := by injection h
theorem tx_of_quiet : t.tx = s.tx := by injection h
theorem prot_of_quiet : t.prot = s.prot := by injection h
theorem xpAt_of_quiet (r c : Nat) : xpAt t r c = xpAt s r c := by unfold xpAt rowXps; rw [rows_of_quiet h]
end

@[simp] theorem forEach_still {α : Type} {l : List α} {f : α → State → State} (s : State)
    (h : (∀ a t, (f a t).still = t.still) = True) : (forEach l f s).still = s.still :=
  forEach_keeps State.still l f s (of_eq_true h)

@[simp] theorem forEach_quiet {α : Type} {l : List α} {f : α → State → State} (s : State)
    (h : (∀ a t, (f a t).quiet = t.quiet) = True) : (forEach l f s).quiet = s.quiet :=
  forEach_keeps State.quiet l f s (of_eq_true h)

section frames
variable (s : State)
@[simp] theorem emit_still (g) : (emit g s).still = s.still := rfl
@[simp] theorem count_still (k q) : (count k q s).still = s.still := rfl
@[simp] theorem countDir_still (k) : (countDir k s).still = s.still := rfl
@[simp] theorem updDir_still (c f) : (updDir c f s).still = s.still := rfl
@[simp] theorem onDir_still (f) : (s.onDir f).still = s.still := rfl
@[simp] theorem offerReport_still (b) : (offerReport b s).still = s.still := rfl
@[simp] theorem antReport_still (c k) : (antReport c k s).still = s.still := rfl
@[simp] theorem xpReport_still (r c old new p k) : (xpReport r c old new p k s).still = s.still := rfl
theorem onMx_still {f : Matrix → Matrix} (hr : (f s.mx).rows = s.mx.rows) (ht : (f s.mx).rotators = s.mx.rotators) :
    (s.onMx f).still = s.still := by
  simp [State.still, State.onMx, hr, ht]
@[simp] theorem setFault_still (c k) : (setFault c k s).still = s.still := by unfold setFault; split <;> rfl
@[simp] theorem settleTo_still (c law) : (settleTo c law s).still = s.still := by
  unfold settleTo; dsimp only; (repeat' split) <;> rfl
@[simp] theorem settleColumn_still (c) : (settleColumn c s).still = s.still := settleTo_still ..
@[simp] theorem settleStuck_still (c) : (settleStuck c s).still = s.still := settleTo_still ..
@[simp] theorem offerWaiters_still (c) : (offerWaiters c s).still = s.still := by unfold offerWaiters; split <;> rfl
@[simp] theorem tellAll_still (l r c ok) : (tellAll l r c ok s).still = s.still := by unfold tellAll; simp
@[simp] theorem sweepQueue_still (r c) : (sweepQueue r c s).still = s.still := by
  unfold sweepQueue
  rw [forEach_still _ (by simp)]
  rfl
@[simp] theorem returnCredit_still (r c) : (returnCredit r c s).still = s.still := rfl
@[simp] theorem requestMove_still (r c dir e who) : (requestMove r c dir e who s).still = s.still := by
  unfold requestMove; dsimp only; (repeat' split) <;> rfl
@[simp] theorem dropRequesters_still (p) : (dropRequesters p s).still = s.still := rfl
@[simp] theorem countMaybe_still (k) : (countMaybe k s).still = s.still := by unfold countMaybe; split <;> rfl
@[simp] theorem grantClaim_still (c id) : (grantClaim c id s).still = s.still := by unfold grantClaim; simp
@[simp] theorem cancelHandover_still (id) : (cancelHandover id s).still = s.still := by
  unfold cancelHandover
  dsimp only
  (repeat' split) <;> simp [onMx_still]
@[simp] theorem failWaiting_still (c) : (failWaiting c s).still = s.still := by unfold failWaiting; simp
@[simp] theorem failHandover_still (c l) : (failHandover c l s).still = s.still := by
  unfold failHandover; (repeat' split) <;> simp
@[simp] theorem columnOpened_still (c b) : (columnOpened c b s).still = s.still := by
  unfold columnOpened; dsimp only; (repeat' split) <;> simp
@[simp] theorem failStuckClaim_still (c) : (failStuckClaim c s).still = s.still := by
  unfold failStuckClaim; (repeat' split) <;> rfl
@[simp] theorem foundAway_still (c) : (foundAway c s).still = s.still := by unfold foundAway; split <;> simp
@[simp] theorem placeCmd_still (k) : (placeCmd k s).still = s.still := by unfold placeCmd; split <;> rfl
@[simp] theorem offerCmd_still (a k u n) : (offerCmd a k u n s).still = s.still := placeCmd_still ..
@[simp] theorem makeFault_quiet (k sub o) : (makeFault k sub o s).quiet = s.quiet := rfl
end frames

/-! ### One rule for a crosspoint and for a directory record -/

theorem whole_of_given {s t : State} (h : s.whole) (ht : t.given = s.given) : t.whole := by
  have ho : t.outer = s.outer := congrArg Given.outer ht
  have hstore : t.store = s.store := congrArg Outer.store ho
  have hhall : t.hall = s.hall := congrArg Outer.hall ho
  have hunits : t.line.units = s.line.units := congrArg Outer.units ho
  have hsizes : t.sizes = s.sizes := congrArg Outer.sizes ho
  unfold State.whole
  rw [hstore, hhall, hunits, hsizes]
  exact h

theorem xpAt_updXp_ne {i j r c : Nat} (h : (i, j) ≠ (r, c)) (f : Xp → Xp) (s : State) :
    xpAt (updXp r c f s) i j = xpAt s i j := by
  show (nth ((nth (updNth s.mx.rows r _) i).getD []) j).getD {} = _
  rw [nth_updNth]
  split
  next hi =>
    subst hi
    have hj : j ≠ c := fun e => h (by rw [e])
    unfold xpAt rowXps
    cases nth s.mx.rows i with
    | none => rfl
    | some row => exact congrArg (·.getD {}) (nth_updNth_ne row hj f)
  · rfl

/-- A row of a whole state has its 34 crosspoints. -/
theorem State.whole.row {s : State} (h : s.whole) {r : Nat} (h1 : 1 ≤ r) (h2 : r ≤ 16) :
    ∃ row, nth s.mx.rows r = some row ∧ row.length = 34 := by
  obtain ⟨row, hrow⟩ := exists_nth h1 (h.rows_length ▸ h2)
  have hl : s.mx.rows.map List.length = List.replicate 16 34 := congrArg Sizes.rows h.1
  exact ⟨row, hrow, List.eq_of_mem_replicate (hl ▸ List.mem_map_of_mem (mem_of_nth hrow))⟩

theorem xpAt_updXp_same {s : State} (h : s.whole) {r c : Nat} (hr1 : 1 ≤ r) (hr2 : r ≤ 16) (hc1 : 1 ≤ c) (hc2 : c ≤ 34)
    (f : Xp → Xp) : xpAt (updXp r c f s) r c = f (xpAt s r c) := by
  obtain ⟨row, hrow, hlen⟩ := h.row hr1 hr2
  obtain ⟨x, hx⟩ := exists_nth (l := row) hc1 (hlen ▸ hc2)
  have hat : xpAt s r c = x := by simp [xpAt, rowXps, hrow, hx]
  show (nth ((nth (updNth s.mx.rows r (fun row => updNth row c f)) r).getD []) c).getD {} = _
  rw [nth_updNth_same, hrow, hat]
  show (nth (updNth row c f) c).getD {} = _
  rw [nth_updNth_same, hx]
  rfl

theorem dirRec_updDir_at {s : State} {c : Nat} (h1 : 1 ≤ c) (h2 : c ≤ s.dir.cols.length) (b : Nat) (f : DirRec → DirRec) :
    dirRec (updDir c f s) b = if b = c then f (dirRec s c) else dirRec s b := by
  show (nth (updNth s.dir.cols c f) b).getD {} = _
  rw [nth_updNth]
  split
  · obtain ⟨d, hd⟩ := exists_nth h1 h2
    simp [dirRec, hd]
  · rfl

theorem dirRec_updDir_of {s : State} (h : s.whole) {c : Nat} (h1 : 1 ≤ c) (h2 : c ≤ 34) (b : Nat) (f : DirRec → DirRec) :
    dirRec (updDir c f s) b = if b = c then f (dirRec s c) else dirRec s b :=
  dirRec_updDir_at h1 (h.cols_length ▸ h2) b f

theorem dirRec_of_dir {s t : State} (h : t.dir = s.dir) (c : Nat) : dirRec t c = dirRec s c := by unfold dirRec; rw [h]

/-! ### What leaves the directory alone, and the equations of what does not -/

@[simp] theorem forEach_dir {α : Type} {l : List α} {f : α → State → State} (s : State)
    (h : (∀ a t, (f a t).dir = t.dir) = True) : (forEach l f s).dir = s.dir :=
  forEach_keeps State.dir l f s (of_eq_true h)

section frames
variable (s : State)
@[simp] theorem count_dir (k q) : (count k q s).dir = s.dir := rfl
@[simp] theorem countDir_dir (k) : (countDir k s).dir = s.dir := rfl
@[simp] theorem offerReport_dir (b) : (offerReport b s).dir = s.dir := rfl
@[simp] theorem antReport_dir (c k) : (antReport c k s).dir = s.dir := rfl
@[simp] theorem xpReport_dir (r c old new p k) : (xpReport r c old new p k s).dir = s.dir := rfl
@[simp] theorem setXp_dir (r c x) : (setXp r c x s).dir = s.dir := rfl
@[simp] theorem makeFault_dir (k sub o) : (makeFault k sub o s).dir = s.dir := rfl
@[simp] theorem wear_dir (r c) : (wear r c s).dir = s.dir := by unfold wear; dsimp only; (repeat' split) <;> rfl
@[simp] theorem offerWaiters_dir (c) : (offerWaiters c s).dir = s.dir := by unfold offerWaiters; split <;> rfl
@[simp] theorem tellAll_dir (l r c ok) : (tellAll l r c ok s).dir = s.dir := by unfold tellAll; simp
@[simp] theorem sweepQueue_dir (r c) : (sweepQueue r c s).dir = s.dir := by unfold sweepQueue; simp
@[simp] theorem returnCredit_dir (r c) : (returnCredit r c s).dir = s.dir := rfl
@[simp] theorem requestMove_dir (r c dir e who) : (requestMove r c dir e who s).dir = s.dir := by
  unfold requestMove; dsimp only; (repeat' split) <;> rfl
@[simp] theorem dropRequesters_dir (p) : (dropRequesters p s).dir = s.dir := rfl
@[simp] theorem failStuckClaim_dir (c) : (failStuckClaim c s).dir = s.dir := by
  unfold failStuckClaim; (repeat' split) <;> rfl
@[simp] theorem placeCmd_dir (k) : (placeCmd k s).dir = s.dir := by unfold placeCmd; split <;> rfl
@[simp] theorem offerCmd_dir (a k u n) : (offerCmd a k u n s).dir = s.dir := placeCmd_dir ..
@[simp] theorem makeStuck_dir (r c p k) : (makeStuck r c p k s).dir = s.dir := by
  unfold makeStuck; dsimp only; (repeat' split) <;> simp

theorem settleTo_dir (c : Nat) (law : DirState × Option Nat) : (settleTo c law s).dir =
    (updDir c (fun d => { d with state := law.1, owner := law.2 }) s).dir := by
  unfold settleTo; dsimp only; (repeat' split) <;> rfl

theorem settleColumn_dir (c : Nat) : (settleColumn c s).dir =
    (updDir c (fun d => { d with state := (lawOf s c).1, owner := (lawOf s c).2 }) s).dir := settleTo_dir ..

theorem setFault_dir (c : Nat) (k : FaultFlag) : (setFault c k s).dir = (updDir c (DirRec.withFault k) s).dir := by
  unfold setFault
  split
  next h =>
    have hsame : updNth s.dir.cols c (DirRec.withFault k) = s.dir.cols := by
      unfold updNth
      split
      · rfl
      next hc =>
        refine List.ext_getElem? fun i => ?_
        rw [List.getElem?_modify]
        split
        next hi =>
          subst hi
          cases hd : s.dir.cols[c - 1]? with
          | none => rfl
          | some d =>
            have : dirRec s c = d := by simp [dirRec, nth, hc, hd]
            rw [this] at h
            exact congrArg some h
        · simp
    show s.dir = { s.dir with cols := updNth s.dir.cols c (DirRec.withFault k) }
    rw [hsame]
  · rfl

theorem failWaiting_dir (c : Nat) : (failWaiting c s).dir = (updDir c (fun d => { d with waiting := [] }) s).dir := by
  unfold failWaiting; simp

theorem grantClaim_dir (c id : Nat) : (grantClaim c id s).dir =
    (settleColumn c (updDir c (fun d => { d with claiming := some id, handover := none }) s)).dir := rfl
end frames

section
variable {s : State} (h : s.whole) {c : Nat} (h1 : 1 ≤ c) (h2 : c ≤ 34) (b : Nat)
include h h1 h2

theorem dirRec_settleTo (law : DirState × Option Nat) : dirRec (settleTo c law s) b =
    if b = c then { dirRec s c with state := law.1, owner := law.2 } else dirRec s b := by
  rw [dirRec_of_dir (settleTo_dir s c law), dirRec_updDir_of h h1 h2]

theorem dirRec_settleColumn : dirRec (settleColumn c s) b =
    if b = c then { dirRec s c with state := (lawOf s c).1, owner := (lawOf s c).2 } else dirRec s b :=
  dirRec_settleTo h h1 h2 b _

theorem dirRec_setFault (k : FaultFlag) : dirRec (setFault c k s) b =
    if b = c then (dirRec s c).withFault k else dirRec s b := by
  rw [dirRec_of_dir (setFault_dir s c k), dirRec_updDir_of h h1 h2]

theorem dirRec_failWaiting : dirRec (failWaiting c s) b =
    if b = c then { dirRec s c with waiting := [] } else dirRec s b := by
  rw [dirRec_of_dir (failWaiting_dir s c), dirRec_updDir_of h h1 h2]
end

/-! ### The movements in flight, by their crosspoints -/

/-- The crosspoints that hold a credit (R109). -/
def State.places (s : State) : List (Nat × Nat) := s.mx.movements.map (fun m => (m.row, m.col))

theorem movementAt?_eq_none {s : State} {r c : Nat} : movementAt? s r c = none ↔ (r, c) ∉ s.places := by
  simp [movementAt?, State.places, Prod.ext_iff]

/-- A movement found is on the crosspoint looked at. -/
theorem movementAt?_place {s : State} {r c : Nat} {m : Movement} (h : movementAt? s r c = some m) : m.row = r ∧ m.col = c := by
  simpa [movementAt?] using List.find?_some h

theorem returnCredit_places (r c : Nat) (s : State) : (returnCredit r c s).places = s.places.filter (· ≠ (r, c)) := by
  show (s.mx.movements.filter _).map _ = (s.mx.movements.map _).filter _
  rw [List.filter_map]
  refine congrArg _ (List.filter_congr fun m _ => ?_)
  rw [Bool.eq_iff_iff]
  simp [Prod.ext_iff]

theorem movementAt?_returnCredit (r c : Nat) (s : State) : movementAt? (returnCredit r c s) r c = none := by
  rw [movementAt?_eq_none, returnCredit_places]
  simp

@[simp] theorem forEach_places {α : Type} {l : List α} {f : α → State → State} (s : State)
    (h : (∀ a t, (f a t).places = t.places) = True) : (forEach l f s).places = s.places :=
  forEach_keeps State.places l f s (of_eq_true h)

section frames
variable (s : State)
@[simp] theorem emit_places (g) : (emit g s).places = s.places := rfl
@[simp] theorem count_places (k q) : (count k q s).places = s.places := rfl
@[simp] theorem countDir_places (k) : (countDir k s).places = s.places := rfl
@[simp] theorem updDir_places (c f) : (updDir c f s).places = s.places := rfl
@[simp] theorem updXp_places (r c f) : (updXp r c f s).places = s.places := rfl
@[simp] theorem setXp_places (r c x) : (setXp r c x s).places = s.places := rfl
@[simp] theorem offerReport_places (b) : (offerReport b s).places = s.places := rfl
@[simp] theorem antReport_places (c k) : (antReport c k s).places = s.places := rfl
@[simp] theorem xpReport_places (r c old new p k) : (xpReport r c old new p k s).places = s.places := rfl
@[simp] theorem makeFault_places (k sub o) : (makeFault k sub o s).places = s.places := rfl
@[simp] theorem wear_places (r c) : (wear r c s).places = s.places := by
  unfold wear; dsimp only; (repeat' split) <;> rfl
@[simp] theorem setFault_places (c k) : (setFault c k s).places = s.places := by unfold setFault; split <;> rfl
@[simp] theorem settleTo_places (c law) : (settleTo c law s).places = s.places := by
  unfold settleTo; dsimp only; (repeat' split) <;> rfl
@[simp] theorem settleColumn_places (c) : (settleColumn c s).places = s.places := settleTo_places ..
@[simp] theorem settleStuck_places (c) : (settleStuck c s).places = s.places := settleTo_places ..
@[simp] theorem offerWaiters_places (c) : (offerWaiters c s).places = s.places := by unfold offerWaiters; split <;> rfl
@[simp] theorem tellAll_places (l r c ok) : (tellAll l r c ok s).places = s.places := by unfold tellAll; simp
@[simp] theorem sweepQueue_places (r c) : (sweepQueue r c s).places = s.places := by
  unfold sweepQueue
  rw [forEach_places _ (by simp)]
  rfl
@[simp] theorem countMaybe_places (k) : (countMaybe k s).places = s.places := by unfold countMaybe; split <;> rfl
@[simp] theorem grantClaim_places (c id) : (grantClaim c id s).places = s.places := by unfold grantClaim; simp
theorem mapWho_places (f : Movement → Movement) (hf : ∀ m, (f m).row = m.row ∧ (f m).col = m.col) :
    (s.onMx (fun m => { m with movements := m.movements.map f })).places = s.places := by
  show (s.mx.movements.map f).map _ = _
  rw [List.map_map]
  exact List.map_congr_left fun m _ => Prod.ext (hf m).1 (hf m).2
@[simp] theorem cancelHandover_places (id) : (cancelHandover id s).places = s.places := by
  unfold cancelHandover
  dsimp only
  split
  · rfl
  next c _ =>
    have hsettled : (settleColumn c (updDir c (fun d => { d with handover := none })
        (State.onMx (fun m => { m with movements := m.movements.map (fun v =>
          { v with who := v.who.filter (· != .handover id) }) }) (dropRequesters (· == .handover id) s)))).places =
        s.places := by
      rw [settleColumn_places, updDir_places]
      exact mapWho_places _ _ fun _ => ⟨rfl, rfl⟩
    split
    · rw [offerWaiters_places, countDir_places, hsettled]
    · rw [offerWaiters_places, hsettled]
@[simp] theorem failWaiting_places (c) : (failWaiting c s).places = s.places := by unfold failWaiting; simp
@[simp] theorem failHandover_places (c l) : (failHandover c l s).places = s.places := by
  unfold failHandover; (repeat' split) <;> simp
@[simp] theorem columnOpened_places (c b) : (columnOpened c b s).places = s.places := by
  unfold columnOpened; dsimp only; (repeat' split) <;> simp
@[simp] theorem failStuckClaim_places (c) : (failStuckClaim c s).places = s.places := by
  unfold failStuckClaim; (repeat' split) <;> rfl
@[simp] theorem foundAway_places (c) : (foundAway c s).places = s.places := by unfold foundAway; split <;> simp
end frames

/-! ### Messages are only added -/

/-- The messages of the state stand, with others after them, in the other. -/
def State.tells (s t : State) : Prop := s.agenda <+: t.agenda

theorem State.tells.trans {s t u : State} (h : s.tells t) (h' : t.tells u) : s.tells u := List.IsPrefix.trans h h'

theorem tells_of_agenda {s t : State} (h : t.agenda = s.agenda) : s.tells t := by
  unfold State.tells; rw [h]

theorem emit_tells (g : Signal) (s : State) : s.tells (emit g s) := List.prefix_append ..

theorem mem_emit (g : Signal) (s : State) : g ∈ (emit g s).agenda := List.mem_append_right _ List.mem_cons_self

theorem State.tells.mem {s t : State} (h : s.tells t) {g : Signal} (hg : g ∈ s.agenda) : g ∈ t.agenda :=
  List.IsPrefix.mem hg h

theorem forEach_tells {α : Type} {l : List α} {f : α → State → State} (hf : ∀ (a : α) (t : State), t.tells (f a t))
    (s : State) : s.tells (forEach l f s) :=
  forEach_induct (P := fun t => s.tells t) (fun a _ t ht => ht.trans (hf a t)) (tells_of_agenda rfl)

theorem settleTo_agenda (c : Nat) (law : DirState × Option Nat) (s : State) : (settleTo c law s).agenda = s.agenda := by
  unfold settleTo; dsimp only; (repeat' split) <;> rfl

theorem setFault_agenda (c : Nat) (k : FaultFlag) (s : State) : (setFault c k s).agenda = s.agenda := by
  unfold setFault; split <;> rfl

theorem offerWaiters_tells (c : Nat) (s : State) : s.tells (offerWaiters c s) := by
  unfold offerWaiters
  split <;> exact emit_tells ..

theorem tellAll_tells (l : List Requester) (r c : Nat) (ok : Bool) (s : State) : s.tells (tellAll l r c ok s) :=
  forEach_tells (fun _ _ => emit_tells ..) s

/-- Each of those told has its message. -/
theorem mem_tellAll {l : List Requester} {w : Requester} (hw : w ∈ l) (r c : Nat) (ok : Bool) (s : State) :
    .moved w r c ok ∈ (tellAll l r c ok s).agenda := by
  unfold tellAll forEach
  induction l generalizing s with
  | nil => cases hw
  | cons v l ih =>
    rcases List.mem_cons.mp hw with rfl | hw
    · exact (tellAll_tells l r c ok (emit (.moved w r c ok) s)).mem (mem_emit ..)
    · exact ih hw _

theorem sweepQueue_tells (r c : Nat) (s : State) : s.tells (sweepQueue r c s) := by
  have hdrop : ∀ f : Matrix → Matrix, s.tells (s.onMx f) := fun _ => tells_of_agenda rfl
  exact (hdrop _).trans (forEach_tells (fun _ _ => tellAll_tells ..) _)

theorem failWaiting_tells (c : Nat) (s : State) : s.tells (failWaiting c s) := by
  have hdrop : ∀ f : DirRec → DirRec, s.tells (updDir c f s) := fun _ => tells_of_agenda rfl
  exact (hdrop _).trans (forEach_tells (fun _ _ => emit_tells ..) _)

theorem cancelHandover_tells (id : Nat) (s : State) : s.tells (cancelHandover id s) := by
  unfold cancelHandover
  dsimp only
  split
  · exact tells_of_agenda rfl
  next c _ =>
    refine State.tells.trans (tells_of_agenda ?_) (offerWaiters_tells c _)
    split
    · exact settleTo_agenda ..
    · exact settleTo_agenda ..

theorem failHandover_tells (c : Nat) (l : List Requester) (s : State) : s.tells (failHandover c l s) := by
  unfold failHandover
  split
  · split
    · exact tells_of_agenda rfl
    · exact (cancelHandover_tells ..).trans (emit_tells ..)
  · exact tells_of_agenda rfl

/-! ### Fault records -/

/-- A fault record made is the latest of the ring (R191). -/
theorem makeFault_ring (k : FaultKind) (sub : Subject) (o : Option (Nat × Stage)) (s : State) :
    ∃ f, (makeFault k sub o s).log.ring.getLast? = some f ∧ f.kind = k ∧ f.subject = sub :=
  ⟨_, List.getLast?_concat, rfl, rfl⟩

end Sys2Proof.Machine
end

section
/-! PROOFS. A movement that times out (O46). -/

set_option Elab.async false

namespace Sys2Proof.Machine

/-- The wait list and the faults of a directory record, which no change of its state or handover order touches. -/
def DirRec.marks (d : DirRec) : List Nat × Bool × Bool × Bool := (d.waiting, d.faultStuck, d.faultDouble, d.faultRotator)

/-- What a table of the columns keeps of every record, each record keeps. -/
theorem dirRec_field {β : Type} {g : DirRec → β} {s t : State} (h : t.dir.cols.map g = s.dir.cols.map g) (c : Nat) :
    g (dirRec t c) = g (dirRec s c) := by
  have hnth : ∀ u : State, g (dirRec u c) = (nth (u.dir.cols.map g) c).getD (g {}) := by
    intro u
    rw [nth_map]
    unfold dirRec
    cases nth u.dir.cols c <;> rfl
  rw [hnth, hnth, h]

theorem updDir_field {β : Type} {g : DirRec → β} {c : Nat} {f : DirRec → DirRec} (hf : ∀ d, g (f d) = g d) (s : State) :
    (updDir c f s).dir.cols.map g = s.dir.cols.map g := updNth_map_same _ _ _ _ hf

theorem cancelHandover_marks (id : Nat) (s : State) :
    (cancelHandover id s).dir.cols.map DirRec.marks = s.dir.cols.map DirRec.marks := by
  have hsettle : ∀ (c : Nat) (u : State), (settleColumn c (updDir c (fun d => { d with handover := none }) u)).dir.cols.map
      DirRec.marks = u.dir.cols.map DirRec.marks := by
    intro c u
    rw [settleColumn_dir, updDir_field (by intro d; rfl), updDir_field (by intro d; rfl)]
  unfold cancelHandover
  dsimp only
  split
  · rfl
  · rw [offerWaiters_dir]
    split
    · exact hsettle ..
    · exact hsettle ..

theorem failHandover_marks (c : Nat) (l : List Requester) (s : State) :
    (failHandover c l s).dir.cols.map DirRec.marks = s.dir.cols.map DirRec.marks := by
  unfold failHandover
  (repeat' split)
  · rfl
  · exact cancelHandover_marks ..
  · rfl

theorem failHandover_of_none {c : Nat} {l : List Requester} {s : State} (h : (dirRec s c).handover = none) :
    failHandover c l s = s := by
  unfold failHandover; rw [h]

/-- The crosspoint is STUCK, its credit returned, and the column brought to the law of R113. -/
def lostMove (m : Movement) (s : State) : State :=
  settleStuck m.col (returnCredit m.row m.col (setXp m.row m.col .stuck s))

/-- The fault is recorded. -/
def recordedMove (m : Movement) (s : State) : State :=
  let t := xpReport m.row m.col (xpAt s m.row m.col).state .stuck none .timeout (setFault m.col .stuck (lostMove m s))
  makeFault .xpStuck (.crosspoint m.row m.col) (rowOrder t m.row) t

/-- The requesters and the waiters are told. -/
def toldMove (m : Movement) (s : State) : State :=
  failWaiting m.col (sweepQueue m.row m.col (tellAll m.who m.row m.col false (recordedMove m s)))

theorem moveTimedOut_eq (m : Movement) (s : State) :
    moveTimedOut m s = emit (.rowChanged m.row) (failHandover m.col m.who (toldMove m s)) := rfl

theorem recordedMove_quiet (m : Movement) (s : State) : (recordedMove m s).quiet = (setXp m.row m.col .stuck s).quiet := by
  unfold recordedMove lostMove
  rw [makeFault_quiet]
  exact quiet_of_still (by simp)

theorem moveTimedOut_quiet (m : Movement) (s : State) : (moveTimedOut m s).quiet = (setXp m.row m.col .stuck s).quiet := by
  rw [moveTimedOut_eq, ← recordedMove_quiet]
  unfold toldMove
  exact quiet_of_still (by simp)

theorem moveTimedOut_log (m : Movement) (s : State) : (moveTimedOut m s).log = (recordedMove m s).log := by
  rw [moveTimedOut_eq]
  unfold toldMove
  exact log_of_still (by simp)

theorem moveTimedOut_place (m : Movement) (s : State) : movementAt? (moveTimedOut m s) m.row m.col = none := by
  have hplaces : (moveTimedOut m s).places = (returnCredit m.row m.col (setXp m.row m.col .stuck s)).places := by
    rw [moveTimedOut_eq]
    unfold toldMove recordedMove lostMove
    simp
  rw [movementAt?_eq_none, hplaces, ← movementAt?_eq_none]
  exact movementAt?_returnCredit ..

/-- An active crosspoint makes its column ASSIGNED or PARKED (R98). -/
theorem lawOf_active {s : State} {c : Nat} (h : colWhere s c XpState.active ≠ []) :
    (lawOf s c).1 = .assigned ∨ (lawOf s c).1 = .parked := by
  have hor : ∀ (b : Prop) [Decidable b], (if b then DirState.assigned else .parked) = .assigned ∨
      (if b then DirState.assigned else .parked) = .parked := by
    intro b _
    split
    · exact .inl rfl
    · exact .inr rfl
  unfold lawOf
  dsimp only
  split
  · exact hor _
  next he => exact absurd he h

theorem mem_colWhere {s : State} {c r : Nat} {p : XpState → Bool} :
    r ∈ colWhere s c p ↔ (1 ≤ r ∧ r ≤ 16) ∧ p (xpAt s r c).state = true := by
  unfold colWhere
  rw [List.mem_filter, mem_upTo]

section
variable {s : State} (h : s.whole) {m : Movement} (hr1 : 1 ≤ m.row) (hr2 : m.row ≤ 16) (hc1 : 1 ≤ m.col) (hc2 : m.col ≤ 34)
include h hc1 hc2

theorem dirRec_lostMove : ∃ st owner, dirRec (lostMove m s) m.col = { dirRec s m.col with state := st, owner := owner } :=
  ⟨_, _, (dirRec_settleTo (whole_of_given (s := s) h (by simp [setXp])) hc1 hc2 _ _).trans (if_pos rfl)⟩

/-- The column is FAULTED, and none waits for it. -/
theorem dirRec_toldMove : dirRec (toldMove m s) m.col =
    { (dirRec (lostMove m s) m.col).withFault .stuck with waiting := [] } := by
  have hlost : (lostMove m s).whole := whole_of_given h (by simp [lostMove, settleStuck, setXp])
  have hrec : dirRec (recordedMove m s) m.col = (dirRec (lostMove m s) m.col).withFault .stuck := by
    unfold recordedMove
    dsimp only
    rw [dirRec_of_dir (makeFault_dir ..), dirRec_of_dir (xpReport_dir ..), dirRec_setFault hlost hc1 hc2, if_pos rfl]
  have hwhole : (sweepQueue m.row m.col (tellAll m.who m.row m.col false (recordedMove m s))).whole :=
    whole_of_given hlost (by simp [recordedMove])
  unfold toldMove
  rw [dirRec_failWaiting hwhole hc1 hc2, if_pos rfl, dirRec_of_dir (sweepQueue_dir ..), dirRec_of_dir (tellAll_dir ..), hrec]

theorem moveTimedOut_faulted : (dirRec (moveTimedOut m s) m.col).faultStuck = true ∧
    (dirRec (moveTimedOut m s) m.col).waiting = [] := by
  have hmarks := dirRec_field (failHandover_marks m.col m.who (toldMove m s)) m.col
  rw [dirRec_toldMove h hc1 hc2] at hmarks
  simp only [DirRec.marks, DirRec.withFault, Prod.mk.injEq] at hmarks
  exact ⟨hmarks.2.1, hmarks.1⟩

/-- The handover order hears of the movement as one of its requesters, or has its claim failed. -/
theorem moveTimedOut_handover {id : Nat} (hid : (dirRec s m.col).handover = some id) :
    .claimFailed id ∈ (moveTimedOut m s).agenda ∨ .moved (.handover id) m.row m.col false ∈ (moveTimedOut m s).agenda := by
  have hlast : (failHandover m.col m.who (toldMove m s)).tells (moveTimedOut m s) := emit_tells ..
  have hmid : (tellAll m.who m.row m.col false (recordedMove m s)).tells (toldMove m s) :=
    (sweepQueue_tells ..).trans (failWaiting_tells ..)
  by_cases hw : m.who.contains (.handover id) = true
  · right
    exact ((hmid.trans (failHandover_tells ..)).trans hlast).mem (mem_tellAll (List.contains_iff_mem.mp hw) ..)
  · left
    refine hlast.mem ?_
    obtain ⟨st, owner, hlost⟩ := dirRec_lostMove h hc1 hc2
    have hhand : (dirRec (toldMove m s) m.col).handover = some id := by
      rw [dirRec_toldMove h hc1 hc2, hlost]
      exact hid
    unfold failHandover
    rw [hhand]
    dsimp only
    rw [if_neg hw]
    exact mem_emit ..

include hr1 hr2

/-- An UNRESOLVED antenna becomes PARKED, whatever the law of R98 makes of its claim (R113; log 95). -/
theorem moveTimedOut_parked (hst : (dirRec s m.col).state = .unresolved) (hh : (dirRec s m.col).handover = none) :
    (dirRec (moveTimedOut m s) m.col).state = .parked := by
  have hlost : (dirRec (lostMove m s) m.col).state = .parked ∧ (dirRec (lostMove m s) m.col).handover = none := by
    have hw : (returnCredit m.row m.col (setXp m.row m.col .stuck s)).whole := whole_of_given h (by simp [setXp])
    have hd : dirRec (returnCredit m.row m.col (setXp m.row m.col .stuck s)) m.col = dirRec s m.col := rfl
    have hxp : xpAt (returnCredit m.row m.col (setXp m.row m.col .stuck s)) m.row m.col =
        { xpAt s m.row m.col with state := .stuck } := xpAt_updXp_same h hr1 hr2 hc1 hc2 _
    have hact : m.row ∈ colWhere (returnCredit m.row m.col (setXp m.row m.col .stuck s)) m.col XpState.active :=
      mem_colWhere.mpr ⟨⟨hr1, hr2⟩, by rw [hxp]; rfl⟩
    have hlaw := lawOf_active (List.ne_nil_of_mem hact)
    unfold lostMove settleStuck
    rw [dirRec_settleTo hw hc1 hc2, if_pos rfl, hd, hst]
    refine ⟨?_, hh⟩
    rcases hlaw with e | e <;> simp [e]
  have htold : dirRec (toldMove m s) m.col = _ := dirRec_toldMove h hc1 hc2
  show (dirRec (failHandover m.col m.who (toldMove m s)) m.col).state = .parked
  rw [failHandover_of_none (by rw [htold]; exact hlost.2), htold]
  exact hlost.1

end

theorem exec_moveTimeout_none {r c : Nat} {s : State} (hp : s.pins.powered = true) (hm : movementAt? s r c = none) :
    exec (.moveTimeout r c) s = .next (settle s) := by
  show execMoveTimeout r c s = _
  unfold execMoveTimeout
  rw [event_powered hp, hm]

theorem exec_moveTimeout {r c : Nat} {m : Movement} {s : State} (hp : s.pins.powered = true)
    (hm : movementAt? s r c = some m) :
    exec (.moveTimeout r c) s = .next (settle (if m.timer = 0 then moveTimedOut m s else s)) := by
  show execMoveTimeout r c s = _
  unfold execMoveTimeout
  rw [event_powered hp, hm]

/-- Settles O46. -/
theorem aMovementTimesOutIntoStuck : Obligations.AMovementTimesOutIntoStuck := by
  intro r c s ⟨hp, hset⟩ h hr1 hr2 hc1 hc2
  refine ⟨fun hm => ?_, fun m hm => ⟨fun ht => ?_, fun ht => ?_⟩⟩
  · rw [exec_moveTimeout_none hp hm, settle_of_settled hset]
  · rw [exec_moveTimeout hp hm, if_neg (by omega), settle_of_settled hset]
  · rw [exec_moveTimeout hp hm, if_pos ht]
    obtain ⟨rfl, rfl⟩ := movementAt?_place hm
    obtain ⟨f, hf, hkind, hsub⟩ : ∃ f, (moveTimedOut m s).log.ring.getLast? = some f ∧ f.kind = .xpStuck ∧
        f.subject = .crosspoint m.row m.col := by
      rw [moveTimedOut_log]
      exact makeFault_ring ..
    have hq := moveTimedOut_quiet m s
    obtain ⟨hfault, hwait⟩ := moveTimedOut_faulted h hc1 hc2
    refine ⟨moveTimedOut m s, f, rfl, moveTimedOut_given m s, ?_, fun i j hij => ?_, moveTimedOut_place m s, hfault, hwait,
      fun id hid => moveTimedOut_handover h hc1 hc2 hid, moveTimedOut_parked h hr1 hr2 hc1 hc2, hf, hkind, hsub,
      (chg_of_quiet hq :), (tx_of_quiet hq :), (prot_of_quiet hq :)⟩
    · rw [xpAt_of_quiet hq]
      exact xpAt_updXp_same h hr1 hr2 hc1 hc2 _
    · rw [xpAt_of_quiet hq]
      exact xpAt_updXp_ne hij _ _

end Sys2Proof.Machine
end

section
/-! PROOFS. A movement that starts (O45). -/

set_option Elab.async false

namespace Sys2Proof.Machine

/-- A command placed waits in the queue or held back (R175). -/
theorem mem_insertHeld (c : Cmd) (l : List Cmd) : c ∈ insertHeld c l := by
  induction l with
  | nil => exact List.mem_cons_self
  | cons d l ih =>
    unfold insertHeld
    split
    · exact List.mem_cons_self
    · exact List.mem_cons_of_mem _ ih

theorem mem_place (c : Cmd) (l : Line) : c ∈ (l.place c).queue ++ (l.place c).heldBack := by
  have hlast : ∀ q : List Cmd, c ∈ q ++ [c] := fun q => List.mem_append_right _ List.mem_cons_self
  unfold Line.place
  (repeat' split)
  · exact List.mem_append_left _ (hlast _)
  · exact List.mem_append_left _ (hlast _)
  · exact List.mem_append_right _ (mem_insertHeld ..)
  · exact List.mem_append_right _ (mem_insertHeld ..)

/-- The command that an offer makes waits, where its unit is ALIVE. -/
theorem mem_offerCmd {addr : Nat} {s : State} (h : (unitAt s addr).state = .alive) (fn : CmdFn) (urgent : Bool) (sub : Nat) :
    { addr := addr, fn := fn, urgent := urgent, subject := sub, serial := nextSerial s } ∈
      (offerCmd addr fn urgent sub s).line.queue ++ (offerCmd addr fn urgent sub s).line.heldBack := by
  have ha : (unitAt (s.onLine (fun l => { l with serial := l.serial + 1 })) addr).state = .alive := h
  unfold offerCmd placeCmd
  dsimp only
  rw [if_pos ha]
  exact mem_place ..

section frames
variable (s : State)
theorem settleTo_mx (c law) : (settleTo c law s).mx = s.mx := by unfold settleTo; dsimp only; (repeat' split) <;> rfl
theorem settleColumn_mx (c) : (settleColumn c s).mx = s.mx := settleTo_mx ..
theorem offerCmd_mx (a k u n) : (offerCmd a k u n s).mx = s.mx := by unfold offerCmd placeCmd; dsimp only; split <;> rfl
theorem settleTo_line (c law) : (settleTo c law s).line = s.line := by unfold settleTo; dsimp only; (repeat' split) <;> rfl
end frames

/-- The request has left the queue, and its movement holds a credit. -/
def granted (q : DriveReq) (s : State) : State :=
  s.onMx (fun x => { x with
    queue := x.queue.filter (fun p => !(p.row == q.row && p.col == q.col && p.dir == q.dir))
    movements := x.movements ++ [{ row := q.row, col := q.col, dir := q.dir, timer := 2 * s.hall.par.moveEst, who := q.who
                                   cmd := nextSerial s }] })

/-- The crosspoint moves, and its column has followed. -/
def begunMove (q : DriveReq) (s : State) : State :=
  let t := settleColumn q.col (setXp q.row q.col q.dir.moving (granted q s))
  if (dirRec s q.col).state = .reserved && (dirRec t q.col).state = .assigned then countDir .r2a t else t

/-- The MOVE command is offered to the row's MDU. -/
def sendMove (q : DriveReq) (s : State) : State :=
  match txRec? s q.row with
  | some r => offerCmd r.mdu (.move q.col q.dir) false q.row s
  | none => s

theorem startMove_eq (q : DriveReq) (s : State) : startMove q s = count .drive 0 (sendMove q (begunMove q s)) := by
  unfold startMove sendMove begunMove
  rfl

section
variable (q : DriveReq) (s : State)

theorem begunMove_mx : (begunMove q s).mx = (setXp q.row q.col q.dir.moving (granted q s)).mx := by
  unfold begunMove
  dsimp only
  split <;> exact settleColumn_mx ..

theorem begunMove_still : (begunMove q s).still = (setXp q.row q.col q.dir.moving s).still := by
  unfold begunMove
  dsimp only
  split <;> exact settleColumn_still ..

theorem begunMove_given : (begunMove q s).given = s.given := by
  unfold begunMove granted
  dsimp only
  split <;> simp [setXp]

theorem sendMove_mx : (sendMove q s).mx = s.mx := by
  unfold sendMove
  split
  · exact offerCmd_mx ..
  · rfl

theorem sendMove_still : (sendMove q s).still = s.still := by
  unfold sendMove
  split <;> simp

theorem startMove_mx : (startMove q s).mx = (setXp q.row q.col q.dir.moving (granted q s)).mx := by
  rw [startMove_eq, ← begunMove_mx]
  exact sendMove_mx ..

theorem startMove_still : (startMove q s).still = (setXp q.row q.col q.dir.moving s).still := by
  rw [startMove_eq, count_still, sendMove_still, begunMove_still]

variable {q s}

/-- The MOVE command waits for the line, where the row's MDU answers. -/
theorem mem_startMove {r : TxRec} (hr : txRec? s q.row = some r) (ha : (unitAt s r.mdu).state = .alive) :
    ∃ k ∈ (startMove q s).line.queue ++ (startMove q s).line.heldBack,
      k.fn = .move q.col q.dir ∧ k.addr = r.mdu ∧ k.urgent = false := by
  have hg := begunMove_given q s
  have hr' : txRec? (begunMove q s) q.row = some r := by
    rw [← hr]
    exact congrArg (fun g : Given => (nth g.outer.hall.tx q.row).join) hg
  have ha' : (unitAt (begunMove q s) r.mdu).state = .alive := by rw [unitAt_of_given hg]; exact ha
  rw [startMove_eq]
  unfold sendMove
  rw [hr']
  exact ⟨_, mem_offerCmd ha' (.move q.col q.dir) false q.row, rfl, rfl, rfl⟩

end

theorem bounds_of_nth {α : Type} {l : List α} {n : Nat} {x : α} (h : nth l n = some x) : 1 ≤ n ∧ n ≤ l.length := by
  unfold nth at h
  split at h
  · cases h
  next hn =>
    obtain ⟨hlt, -⟩ := List.getElem?_eq_some_iff.mp h
    omega

/-- A transmitter with a TLU is one of the 16 (R1). -/
theorem tluAlive_bounds {s : State} (h : s.whole) {n : Nat} (ht : tluAlive s n = true) : 1 ≤ n ∧ n ≤ 16 := by
  unfold tluAlive at ht
  split at ht
  next r hr =>
    have hlen : s.hall.tx.length = 16 := h.2.1
    rw [← hlen]
    exact bounds_of_nth (Option.join_eq_some_iff.mp hr)
  · cases ht

theorem remote_of_not_local {k : Control} (h : k ≠ .local) : k = .remote := by
  revert h
  cases k <;> decide

/-- What makes a request eligible (R109), as far as the row goes. -/
theorem row_of_eligible {s : State} {q : DriveReq} (h : eligible s q = true) : s.pins.key ≠ .local ∧
    (∀ m ∈ s.mx.movements, m.row ≠ q.row) ∧ permitRule s q.row = false ∧ tluAlive s q.row = true ∧
    reportsOff s q.row = true := by
  unfold eligible at h
  simp only [Bool.and_eq_true, Bool.not_eq_true', isLocal, beq_eq_false_iff_ne, List.any_eq_false, beq_iff_eq] at h
  obtain ⟨⟨⟨⟨⟨⟨hkey, -⟩, hrow⟩, hpermit⟩, htlu⟩, hoff⟩, -⟩ := h
  exact ⟨hkey, hrow, hpermit, htlu, hoff⟩

theorem arbiterStart_idle {s : State} (h : creditsFree s = 0 ∨ ∀ q ∈ s.mx.queue, eligible s q = false) :
    arbiterStart s = s := by
  unfold arbiterStart
  rcases h with h | h
  · rw [if_pos h]
  · have hnone : (grantOrder s).find? (eligible s) = none := by
      refine List.find?_eq_none.mpr fun q hq => ?_
      have hmem : q ∈ s.mx.queue := (List.mem_append.mp hq).elim List.mem_of_mem_filter List.mem_of_mem_filter
      rw [h q hmem]
      exact Bool.false_ne_true
    rw [hnone]
    split <;> rfl

theorem arbiterStart_first {s : State} {q : DriveReq} (hfree : 0 < creditsFree s)
    (hq : (grantOrder s).find? (eligible s) = some q) : arbiterStart s = startMove q s := by
  unfold arbiterStart
  rw [if_neg (by omega), hq]

/-- Settles O45. -/
theorem aMovementStartsOnlyForAnEligibleRequest : Obligations.AMovementStartsOnlyForAnEligibleRequest := by
  intro s ⟨hp, hset⟩ h
  have hexec : exec .movementStart s = .next (settle (arbiterStart s)) := event_powered hp
  refine ⟨fun hidle => ?_, fun q hfree hq hc1 hc2 => ?_⟩
  · rw [hexec, arbiterStart_idle hidle, settle_of_settled hset]
  · obtain ⟨hkey, hrow, hpermit, htlu, hoff⟩ := row_of_eligible (List.find?_some hq)
    obtain ⟨hr1, hr2⟩ := tluAlive_bounds h htlu
    refine ⟨⟨?_, ?_, htlu, hoff, hrow⟩, ?_⟩
    · exact remote_of_not_local hkey
    · rw [nth_permits hset.2 hr1 hr2, hpermit]
      exact nofun
    · have hmx := startMove_mx q s
      have hstill := startMove_still q s
      have hmoves : (startMove q s).mx.movements = (granted q s).mx.movements := congrArg (·.movements) hmx
      have hqueue : (startMove q s).mx.queue = (granted q s).mx.queue := congrArg (·.queue) hmx
      refine ⟨startMove q s, _, ?_, startMove_given q s, hmoves, rfl, rfl, rfl, rfl, rfl, ?_, ?_, ?_, fun i j hij => ?_,
        (chg_of_still hstill :), (tx_of_still hstill :), (prot_of_still hstill :), fun r hr ha => mem_startMove hr ha⟩
      · rw [hexec, arbiterStart_first hfree hq]
      · rw [hmoves]
        unfold creditsFree at hfree
        show (s.mx.movements ++ [_]).length ≤ _
        rw [List.length_append, List.length_singleton]
        omega
      · rw [hqueue]
        simp [granted, State.onMx]
      · rw [xpAt_of_still hstill]
        exact xpAt_updXp_same h hr1 hr2 hc1 hc2 _
      · rw [xpAt_of_still hstill]
        exact xpAt_updXp_ne hij _ _

end Sys2Proof.Machine
end

section
/-! PROOFS. Slews that start and time out (O47). -/

set_option Elab.async false

namespace Sys2Proof.Machine

/-- The record of a rotator whose slew has failed. -/
def Rotator.failed (x : Rotator) : Rotator := { x with slew := .failed, target := none, timer := none, order := none }

/-- The record of a rotator whose slew is over. -/
def Rotator.done (x : Rotator) : Rotator := { x with slew := .idle, target := none, timer := none, order := none }

/-- STOP is offered to the rotator's ARU, under REMOTE (log 24). -/
def sendStop (a : Nat) (s : State) : State :=
  match rotatorPart? s a with
  | some p => if (unitAt s p.aru).state = .silent || isLocal s then s else offerCmd p.aru .stop false a s
  | none => s

/-- The order of a slew is told that it has failed. -/
def tellFailed (who : Option Nat) (s : State) : State :=
  match who with
  | some id => slewFailedFor id s
  | none => s

/-- The slew is stopped and its fault recorded. -/
def recordedSlew (a : Nat) (r : Rotator) (s : State) : State :=
  makeFault .slewFail (.antenna a) ((r.order.bind (order? s)).map fun o => (o.id, o.stage))
    (setFault a .rotator (sendStop a (updRotator a Rotator.failed s)))

theorem failSlew_eq {a : Nat} {r : Rotator} {s : State} (h : rotator? s a = some r) :
    failSlew a s = tellFailed r.order (recordedSlew a r s) := by
  unfold failSlew
  rw [h]
  rfl

theorem setFault_mx (c : Nat) (k : FaultFlag) (s : State) : (setFault c k s).mx = s.mx := by
  unfold setFault; split <;> rfl
theorem setFault_line (c : Nat) (k : FaultFlag) (s : State) : (setFault c k s).line = s.line := by
  unfold setFault; split <;> rfl

theorem sendStop_mx (a : Nat) (s : State) : (sendStop a s).mx = s.mx := by
  unfold sendStop
  (repeat' split)
  · rfl
  · exact offerCmd_mx ..
  · rfl
theorem sendStop_still (a : Nat) (s : State) : (sendStop a s).still = s.still := by
  unfold sendStop; (repeat' split) <;> simp
theorem sendStop_given (a : Nat) (s : State) : (sendStop a s).given = s.given := by
  unfold sendStop; (repeat' split) <;> simp

section
variable (w : Option Nat) (s : State)
theorem tellFailed_mx : (tellFailed w s).mx = s.mx := by unfold tellFailed; split <;> rfl
theorem tellFailed_dir : (tellFailed w s).dir = s.dir := by unfold tellFailed; split <;> rfl
theorem tellFailed_line : (tellFailed w s).line = s.line := by unfold tellFailed; split <;> rfl
theorem tellFailed_log : (tellFailed w s).log = s.log := by unfold tellFailed; split <;> rfl
theorem tellFailed_tx : (tellFailed w s).tx = s.tx := by unfold tellFailed; split <;> rfl
theorem tellFailed_prot : (tellFailed w s).prot = s.prot := by unfold tellFailed; split <;> rfl
end

section
variable {a : Nat} {r : Rotator} {s : State} (h : rotator? s a = some r)

theorem recordedSlew_mx : (recordedSlew a r s).mx = (updRotator a Rotator.failed s).mx :=
  (setFault_mx ..).trans (sendStop_mx ..)

theorem recordedSlew_quiet : (recordedSlew a r s).quiet = (updRotator a Rotator.failed s).quiet := by
  unfold recordedSlew
  rw [makeFault_quiet]
  exact quiet_of_still ((setFault_still ..).trans (sendStop_still ..))

include h

theorem failSlew_mx : (failSlew a s).mx = (updRotator a Rotator.failed s).mx := by
  rw [failSlew_eq h, tellFailed_mx, recordedSlew_mx]

theorem failSlew_tx : (failSlew a s).tx = s.tx := by
  rw [failSlew_eq h, tellFailed_tx]
  exact (tx_of_quiet recordedSlew_quiet :)

theorem failSlew_prot : (failSlew a s).prot = s.prot := by
  rw [failSlew_eq h, tellFailed_prot]
  exact (prot_of_quiet recordedSlew_quiet :)

theorem failSlew_faulted (hw : s.whole) (h1 : 1 ≤ a) (h2 : a ≤ 34) : (dirRec (failSlew a s) a).faultRotator = true := by
  have hstop : (sendStop a (updRotator a Rotator.failed s)).whole := whole_of_given hw (by simp [sendStop_given])
  rw [failSlew_eq h, dirRec_of_dir (tellFailed_dir ..)]
  unfold recordedSlew
  rw [dirRec_of_dir (makeFault_dir ..), dirRec_setFault hstop h1 h2, if_pos rfl]
  rfl

theorem failSlew_ring : ∃ f, (failSlew a s).log.ring.getLast? = some f ∧ f.kind = .slewFail ∧ f.subject = .antenna a := by
  rw [failSlew_eq h, tellFailed_log]
  exact makeFault_ring ..

/-- STOP waits for the line, where the ARU answers and the Hall Key stands at REMOTE (log 24). -/
theorem mem_failSlew {p : RotatorPart} (hp : rotatorPart? s a = some p) (hkey : s.pins.key = .remote)
    (ha : (unitAt s p.aru).state = .alive) :
    ∃ c ∈ (failSlew a s).line.queue ++ (failSlew a s).line.heldBack, c.fn = .stop ∧ c.addr = p.aru := by
  have hline : (failSlew a s).line = (sendStop a (updRotator a Rotator.failed s)).line := by
    rw [failSlew_eq h, tellFailed_line]
    exact setFault_line ..
  have hgo : ((unitAt (updRotator a Rotator.failed s) p.aru).state = .silent || isLocal (updRotator a Rotator.failed s)) =
      false := by
    have ha' : (unitAt (updRotator a Rotator.failed s) p.aru).state = .alive := ha
    have hk' : isLocal (updRotator a Rotator.failed s) = false := by
      show (s.pins.key == .local) = false
      rw [hkey]
      rfl
    rw [ha', hk']
    rfl
  rw [hline]
  unfold sendStop
  rw [show rotatorPart? (updRotator a Rotator.failed s) a = some p from hp]
  dsimp only
  rw [hgo, if_neg Bool.false_ne_true]
  have hmem := mem_offerCmd (s := updRotator a Rotator.failed s) ha .stop false a
  exact ⟨_, hmem, rfl, rfl⟩

end

/-- A rotator record changed, and no other (R121). -/
theorem rotator_of_mx {a b : Nat} {f : Rotator → Rotator} {k : Rotator} {s t : State}
    (h : t.mx = (updRotator a f s).mx) (hk : rotator? s a = some k) :
    rotator? t b = if b = a then some (f k) else rotator? s b := by
  have ht : rotator? t b = rotator? (updRotator a f s) b := by unfold rotator?; rw [h]
  rw [ht, rotator_updRotator, hk]
  rfl

/-- The rotator records apart, nothing of the matrix has changed. -/
theorem mx_but_rotators {a : Nat} {f : Rotator → Rotator} {s t : State} (h : t.mx = (updRotator a f s).mx) :
    { t.mx with rotators := s.mx.rotators } = s.mx := by rw [h]; rfl

/-- The record of a rotator whose slew for an order starts. -/
def Rotator.slewing (target id timer cmd : Nat) (x : Rotator) : Rotator :=
  { x with slew := .slewing, target := some target, order := some id, waiting := none, timer := some timer, cmd := cmd }

section
variable {a : Nat} {p : RotatorPart} {k : Rotator} {s : State} (hp : rotatorPart? s a = some p) (hk : rotator? s a = some k)
  (target id : Nat)
include hp hk

theorem startSlew_eq : startSlew a id target s = offerCmd p.aru (.slew target) false a
    (updRotator a (Rotator.slewing target id (slewEstimate p k.azimuth target + 30) (nextSerial s)) s) := by
  unfold startSlew
  rw [hp, hk]
  rfl

theorem startSlew_mx : (startSlew a id target s).mx =
    (updRotator a (Rotator.slewing target id (slewEstimate p k.azimuth target + 30) (nextSerial s)) s).mx := by
  rw [startSlew_eq hp hk]
  exact offerCmd_mx ..

theorem startSlew_still : (startSlew a id target s).still =
    (updRotator a (Rotator.slewing target id (slewEstimate p k.azimuth target + 30) (nextSerial s)) s).still := by
  rw [startSlew_eq hp hk]
  exact offerCmd_still ..

theorem startSlew_dir : (startSlew a id target s).dir = s.dir := by
  rw [startSlew_eq hp hk]
  exact offerCmd_dir ..

/-- SLEW waits for the line, where the ARU answers. -/
theorem mem_startSlew (ha : (unitAt s p.aru).state = .alive) :
    ∃ c ∈ (startSlew a id target s).line.queue ++ (startSlew a id target s).line.heldBack,
      c.fn = .slew target ∧ c.addr = p.aru ∧ c.urgent = false ∧ c.serial = s.line.serial + 1 := by
  rw [startSlew_eq hp hk]
  have hmem := mem_offerCmd (s := updRotator a
    (Rotator.slewing target id (slewEstimate p k.azimuth target + 30) (nextSerial s)) s) ha (.slew target) false a
  exact ⟨_, hmem, rfl, rfl, rfl, rfl⟩

end

theorem exec_slewStart_idle {a : Nat} {k : Rotator} {s : State} (hp : s.pins.powered = true) (hk : rotator? s a = some k)
    (h : ∀ target id, k.waiting = some (target, id) → slewMayStart s a id = false) :
    exec (.slewStart a) s = .next (settle s) := by
  show execSlewStart a s = _
  unfold execSlewStart
  rw [event_powered hp, hk, Option.bind_some]
  cases hw : k.waiting with
  | none => rfl
  | some x =>
    dsimp only
    rw [if_neg (by rw [h x.1 x.2 hw]; exact Bool.false_ne_true)]

theorem exec_slewStart {a target id : Nat} {k : Rotator} {s : State} (hp : s.pins.powered = true) (hk : rotator? s a = some k)
    (hw : k.waiting = some (target, id)) (hmay : slewMayStart s a id = true) :
    exec (.slewStart a) s = .next (settle (startSlew a id target s)) := by
  show execSlewStart a s = _
  unfold execSlewStart
  rw [event_powered hp, hk, Option.bind_some, hw]
  dsimp only
  rw [if_pos hmay]

theorem exec_slewTimeout {a : Nat} {k : Rotator} {s : State} (hp : s.pins.powered = true) (hk : rotator? s a = some k) :
    exec (.slewTimeout a) s = .next (settle (if k.slew = .slewing && k.timer = some 0 then failSlew a s else s)) := by
  show execSlewTimeout a s = _
  unfold execSlewTimeout
  rw [event_powered hp, hk]

/-- Settles O47. -/
theorem aSlewStartsAndTimesOut : Obligations.ASlewStartsAndTimesOut := by
  intro a k s ⟨hp, hset⟩ h h1 h2 hk
  refine ⟨fun hno => ?_, fun target id p hw hmay hpart => ?_, fun hno => ?_, fun hslew htimer => ?_⟩
  · rw [exec_slewStart_idle hp hk hno, settle_of_settled hset]
  · have hmx := startSlew_mx hpart hk target id
    have hstill := startSlew_still hpart hk target id
    refine ⟨startSlew a id target s, exec_slewStart hp hk hw hmay, startSlew_given .., ?_, fun b hb => ?_,
      mx_but_rotators hmx, (chg_of_still hstill :), startSlew_dir hpart hk target id, (tx_of_still hstill :),
      mem_startSlew hpart hk target id⟩
    · rw [rotator_of_mx hmx hk, if_pos rfl]
      rfl
    · rw [rotator_of_mx hmx hk, if_neg hb]
  · have hcond : (k.slew = .slewing && k.timer = some 0) = false := by
      rw [Bool.and_eq_false_iff, decide_eq_false_iff_not, decide_eq_false_iff_not]
      exact hno
    rw [exec_slewTimeout hp hk, hcond, if_neg Bool.false_ne_true, settle_of_settled hset]
  · obtain ⟨f, hf, hkind, hsub⟩ := failSlew_ring hk
    have hrot : ∀ b, rotator? (failSlew a s) b = if b = a then some k.failed else rotator? s b :=
      fun b => rotator_of_mx (failSlew_mx hk) hk
    refine ⟨failSlew a s, f, ?_, failSlew_given a s, ?_, fun b hb => ?_, mx_but_rotators (failSlew_mx hk),
      failSlew_faulted hk h h1 (by omega), hf, hkind, hsub, failSlew_tx hk, failSlew_prot hk,
      fun p hpart hkey ha => mem_failSlew hk hpart hkey ha⟩
    · rw [exec_slewTimeout hp hk, hslew, htimer]
      rfl
    · rw [hrot, if_pos rfl]
      rfl
    · rw [hrot, if_neg hb]

end Sys2Proof.Machine
end

section
/-! PROOFS. The requests that act on the crosspoints named: XP-SERVICE and XP-CLEAR (O44). -/

set_option Elab.async false

namespace Sys2Proof.Machine

/-! ### XP-SERVICE changes no crosspoint's state, and so no RF Permit line (R119, R120) -/

/-- The states of the crosspoints. -/
def State.states (s : State) : List (List XpState) := s.mx.rows.map (List.map (·.state))

theorem rowXps_states (s : State) (r : Nat) : (rowXps s r).map (·.state) = (nth s.states r).getD [] := by
  unfold rowXps State.states
  rw [nth_map]
  cases nth s.mx.rows r <;> rfl

theorem xpAt_states (s : State) (r c : Nat) : (xpAt s r c).state = (nth ((nth s.states r).getD []) c).getD .opened := by
  rw [← rowXps_states, nth_map]
  unfold xpAt
  cases nth (rowXps s r) c <;> rfl

theorem rowWhere_states (s : State) (r : Nat) (p : XpState → Bool) : rowWhere s r p =
    (((nth s.states r).getD []).zip (upTo 34)).filterMap (fun x => if p x.1 then some x.2 else none) := by
  rw [← rowXps_states, List.zip_map_left, List.filterMap_map]
  rfl

/-- Changes that leave the crosspoints' states, the rotators and the rest that R120 names leave a settled state settled. -/
theorem settled_of_states {s t : State} (h : s.settled) (ht : { t with mx := s.mx, port := s.port } = s)
    (hx : t.states = s.states) (hr : t.mx.rotators = s.mx.rotators) : t.settled := by
  have hfield : ∀ {β : Type} (g : State → β), g { t with mx := s.mx, port := s.port } = g s := fun g => congrArg g ht
  have hpins : t.pins = s.pins := hfield State.pins
  have htx : t.tx = s.tx := hfield State.tx
  have hchg : t.chg = s.chg := hfield State.chg
  have hag : t.agenda = s.agenda := hfield State.agenda
  have hnotes : t.notes = s.notes := hfield State.notes
  have hrule : permitRule t = permitRule s := by
    funext n
    simp only [permitRule, rowWhere_states, xpAt_states, hx, hpins, searching, ordersOf, txCtl, rotator?, hr, htx, hchg]
  obtain ⟨⟨h1, h2⟩, hp⟩ := h
  refine ⟨⟨hag.trans h1, hnotes.trans h2⟩, ?_⟩
  unfold State.permitsFollow at *
  rw [hpins, hrule]
  exact hp

theorem updXp_states {f : Xp → Xp} (hf : ∀ x, (f x).state = x.state) (r c : Nat) (s : State) :
    (updXp r c f s).states = s.states :=
  updNth_map_same _ _ _ _ fun row => updNth_map_same row c f _ hf

/-- The record of a crosspoint serviced. -/
def Xp.serviced (life : Nat) (x : Xp) : Xp := { x with remaining := life, serviceDue := false }

/-- A service changes its crosspoint, and offers a report where SERVICE-DUE was set. -/
theorem serviceXp_mx (r c : Nat) (s : State) : (serviceXp r c s).mx = (updXp r c (Xp.serviced s.life) s).mx := by
  unfold serviceXp; dsimp only; split <;> rfl

theorem serviceXp_besides (r c : Nat) (s : State) : { serviceXp r c s with mx := s.mx, port := s.port } = s := by
  unfold serviceXp; dsimp only; split <;> rfl

theorem xpAt_serviceXp {s : State} (h : s.whole) {row : Nat} (hr1 : 1 ≤ row) (hr2 : row ≤ 16) {k : Nat} (hk1 : 1 ≤ k)
    (hk2 : k ≤ 34) (r c : Nat) :
    xpAt (serviceXp row k s) r c = if r = row ∧ c = k then (xpAt s r c).serviced s.life else xpAt s r c := by
  have hx : xpAt (serviceXp row k s) r c = xpAt (updXp row k (Xp.serviced s.life) s) r c := by
    unfold xpAt rowXps
    rw [serviceXp_mx]
  rw [hx]
  split
  next hrc =>
    obtain ⟨rfl, rfl⟩ := hrc
    exact xpAt_updXp_same h hr1 hr2 hk1 hk2 _
  next hrc => exact xpAt_updXp_ne (fun e => hrc (Prod.mk.inj e)) _ _

/-- The services of a request, one after another. -/
theorem xpAt_services {l : List Nat} (hl : ∀ k ∈ l, 1 ≤ k ∧ k ≤ 34) {s : State} (h : s.whole) {row : Nat} (hr1 : 1 ≤ row)
    (hr2 : row ≤ 16) (r c : Nat) : xpAt (forEach l (serviceXp row) s) r c =
      if r = row ∧ c ∈ l then (xpAt s r c).serviced s.life else xpAt s r c := by
  unfold forEach
  induction l generalizing s with
  | nil => simp
  | cons k l ih =>
    obtain ⟨hk1, hk2⟩ := hl k List.mem_cons_self
    have hg := serviceXp_given row k s
    have hlife : (serviceXp row k s).life = s.life := congrArg (fun g : Given => g.outer.hall.par.opLife) hg
    rw [List.foldl_cons, ih (fun j hj => hl j (List.mem_cons_of_mem _ hj)) (whole_of_given h hg), hlife,
      xpAt_serviceXp h hr1 hr2 hk1 hk2]
    by_cases h1 : r = row ∧ c = k
    · obtain ⟨rfl, rfl⟩ := h1
      rw [if_pos (show r = r ∧ c = c from ⟨rfl, rfl⟩), if_pos (show r = r ∧ c ∈ c :: l from ⟨rfl, List.mem_cons_self⟩)]
      split <;> rfl
    · rw [if_neg h1]
      exact if_congr (by grind) rfl rfl

/-- What the services of a request leave unchanged. -/
theorem services_besides (l : List Nat) (row : Nat) (s : State) :
    { forEach l (serviceXp row) s with mx := s.mx, port := s.port } = s ∧
      { (forEach l (serviceXp row) s).mx with rows := s.mx.rows } = s.mx ∧
      (forEach l (serviceXp row) s).states = s.states := by
  refine forEach_induct (P := fun t : State => { t with mx := s.mx, port := s.port } = s ∧
    { t.mx with rows := s.mx.rows } = s.mx ∧ t.states = s.states) ?_ ⟨rfl, rfl, rfl⟩
  rintro k - t ⟨h1, h2, h3⟩
  refine ⟨?_, ?_, ?_⟩
  · rw [← h1]
    exact congrArg (fun u : State => { u with mx := s.mx, port := s.port }) (serviceXp_besides row k t)
  · rw [serviceXp_mx, ← h2]
    rfl
  · rw [← h3]
    have hx : (serviceXp row k t).states = (updXp row k (Xp.serviced t.life) t).states := by
      unfold State.states
      rw [serviceXp_mx]
    exact hx.trans (updXp_states (by intro x; rfl) row k t)

theorem exec_xpService {tag row col : Nat} {s : State} (hs : s.running) (hw : s.store.writing = none) (hr1 : 1 ≤ row)
    (hr2 : row ≤ 16) (hc : col ≤ 34) : exec (.xpService tag row col) s =
      .next (okReply 0x32 tag .none (forEach (if col = 0 then upTo 34 else [col]) (serviceXp row) s)) := by
  obtain ⟨h1, h2, h3⟩ := services_besides (if col = 0 then upTo 34 else [col]) row s
  show execXpService tag row col s = _
  unfold execXpService
  refine request_accepted_settled (data := fun _ => .none) hs.1 (settled_of_states hs.2 h1 h3 ?_) ?_
  · exact (congrArg Matrix.rotators h2 :)
  · exact checks_pass (by simp [within, hr1, hr2, hc, storeBusy_eq_false hw])

/-! ### XP-CLEAR (R118) -/

/-- The crosspoint stands as declared, and holds no credit. -/
def declaredXp (r c : Nat) (closed : Bool) (s : State) : State :=
  xpReport r c (xpAt s r c).state (if closed then .closed else .opened) none .declared
    (returnCredit r c (setXp r c (if closed then .closed else .opened) s))

/-- Its column has followed. -/
def declaredCol (r c : Nat) (closed : Bool) (s : State) : State :=
  if closed then settleDeclared r c s
  else if !(colWhere s c (· == .unknown)).isEmpty then settleColumn c s else columnOpened c false s

theorem clearXp_eq (r c : Nat) (closed : Bool) (s : State) : clearXp r c closed s =
    emit .offerLoads (offerWaiters c (emit (.rowChanged r)
      (sweepQueue r c (declaredCol r c closed (declaredXp r c closed s))))) := rfl

theorem declaredCol_still (r c : Nat) (closed : Bool) (s : State) : (declaredCol r c closed s).still = s.still := by
  unfold declaredCol settleDeclared
  (repeat' split) <;> simp

theorem declaredCol_places (r c : Nat) (closed : Bool) (s : State) : (declaredCol r c closed s).places = s.places := by
  unfold declaredCol settleDeclared
  (repeat' split) <;> simp

section
variable (r c : Nat) (closed : Bool) (s : State)

theorem clearXp_still : (clearXp r c closed s).still = (setXp r c (if closed then .closed else .opened) s).still := by
  rw [clearXp_eq, emit_still, offerWaiters_still, emit_still, sweepQueue_still, declaredCol_still]
  rfl

theorem clearXp_place : movementAt? (clearXp r c closed s) r c = none := by
  have hplaces : (clearXp r c closed s).places =
      (returnCredit r c (setXp r c (if closed then .closed else .opened) s)).places := by
    rw [clearXp_eq, emit_places, offerWaiters_places, emit_places, sweepQueue_places, declaredCol_places]
    rfl
  rw [movementAt?_eq_none, hplaces, ← movementAt?_eq_none]
  exact movementAt?_returnCredit ..

/-- A column declared CLOSED is ASSIGNED where its claiming order is on that row, and else PARKED (R118). -/
theorem clearXp_declared {s : State} (h : s.whole) (hc1 : 1 ≤ c) (hc2 : c ≤ 34) :
    (dirRec (clearXp r c true s) c).state =
      if (dirRec s c).claiming.bind (rowOfOrder s) = some r then .assigned else .parked := by
  have hw : (declaredXp r c true s).whole := whole_of_given h (by simp [declaredXp, setXp])
  have hdir : (clearXp r c true s).dir = (settleDeclared r c (declaredXp r c true s)).dir := by
    rw [clearXp_eq, emit_dir, offerWaiters_dir, emit_dir, sweepQueue_dir]
    rfl
  rw [dirRec_of_dir hdir]
  unfold settleDeclared
  rw [dirRec_settleTo hw hc1 hc2, if_pos rfl]
  rfl

end

theorem request_refusal {kind tag : Nat} {f : State → Answer} {s : State} {st : Status} (hp : s.pins.powered = true)
    (hf : f s = refuse st) : request kind tag f s = .next (refusal kind tag st s) := by
  simp [request, hp, hf, refuse, refusal]

section
variable {tag row col p : Nat} {s : State} (hp : s.pins.powered = true) (hr1 : 1 ≤ row) (hr2 : row ≤ 16) (hc1 : 1 ≤ col)
  (hc2 : col ≤ 34) (hp1 : 1 ≤ p) (hp2 : p ≤ 2)
include hp hr1 hr2 hc1 hc2 hp1 hp2

theorem xpClear_stateRefused (h1 : (xpAt s row col).state ≠ .stuck) (h2 : (xpAt s row col).state ≠ .unknown) :
    exec (.xpClear tag row col p) s = .next (refusal 0x31 tag .stateRefused s) := by
  show execXpClear tag row col p s = _
  unfold execXpClear
  refine request_refusal hp ?_
  simp [checks, within, hr1, hr2, hc1, hc2, hp1, hp2, h1, h2, refuse]

variable (hst : (xpAt s row col).state = .stuck ∨ (xpAt s row col).state = .unknown)
include hst

omit hp1 hp2 in
theorem xpClear_inconsistent (hpos : p = 2) (hcon : closedContradicts s row col = true) :
    exec (.xpClear tag row col p) s = .next (refusal 0x31 tag .inconsistent s) := by
  have hok : ((xpAt s row col).state != .stuck && (xpAt s row col).state != .unknown) = false := by
    rcases hst with e | e <;> rw [e] <;> rfl
  show execXpClear tag row col p s = _
  unfold execXpClear
  refine request_refusal hp ?_
  dsimp only
  rw [hok]
  simp [checks, within, hr1, hr2, hc1, hc2, hpos, hcon, refuse]

theorem xpClear_accepted (hcon : p = 1 ∨ closedContradicts s row col = false) : exec (.xpClear tag row col p) s =
    .next (okReply 0x31 tag .none (settle (clearXp row col (decide (p = 2)) s))) := by
  have hok : ((xpAt s row col).state != .stuck && (xpAt s row col).state != .unknown) = false := by
    rcases hst with e | e <;> rw [e] <;> rfl
  have hno : (p == 2 && closedContradicts s row col) = false := by
    rcases hcon with rfl | e
    · rfl
    · rw [e, Bool.and_false]
  show execXpClear tag row col p s = _
  unfold execXpClear
  refine request_accepted (data := fun _ => .none) hp (checks_pass ?_)
  rw [hok, hno]
  simp [within, hr1, hr2, hc1, hc2, hp1, hp2]

end

/-- Settles O44. -/
theorem xpRequestsActOnTheCrosspointsNamed : Obligations.XpRequestsActOnTheCrosspointsNamed := by
  intro tag row col s hs h hr1 hr2
  refine ⟨fun hw hc => ?_, fun hc1 hc2 p hp1 hp2 => ⟨fun h1 h2 => xpClear_stateRefused hs.1 hr1 hr2 hc1 hc2 hp1 hp2 h1 h2,
    fun hst => ⟨fun ⟨hpos, hcon⟩ => xpClear_inconsistent hs.1 hr1 hr2 hc1 hc2 hst hpos hcon, fun hcon => ?_⟩⟩⟩
  · obtain ⟨hbesides, hmx, -⟩ := services_besides (if col = 0 then upTo 34 else [col]) row s
    refine ⟨_, exec_xpService hs hw hr1 hr2 hc, hbesides, hmx, fun r c hc1 hc2 => ?_⟩
    have hbounds : ∀ k ∈ if col = 0 then upTo 34 else [col], 1 ≤ k ∧ k ≤ 34 := by
      intro k hk
      split at hk
      · exact mem_upTo.mp hk
      · obtain rfl := List.mem_singleton.mp hk
        omega
    rw [xpAt_services hbounds h hr1 hr2]
    refine if_congr (and_congr_right fun _ => ?_) rfl rfl
    split
    next h0 => simp [h0, mem_upTo, hc1, hc2]
    next h0 => simp [h0]
  · have hstill := clearXp_still row col (decide (p = 2)) s
    refine ⟨_, xpClear_accepted hs.1 hr1 hr2 hc1 hc2 hp1 hp2 hst hcon, clearXp_given .., ?_, fun r c hrc => ?_,
      clearXp_place .., ?_, (chg_of_still hstill :), (tx_of_still hstill :), (prot_of_still hstill :),
      (log_of_still hstill :)⟩
    · rw [xpAt_of_still hstill]
      refine (xpAt_updXp_same h hr1 hr2 hc1 hc2 _).trans ?_
      simp
    · rw [xpAt_of_still hstill]
      exact xpAt_updXp_ne hrc _ _
    · rintro rfl
      exact clearXp_declared row col h hc1 hc2

end Sys2Proof.Machine
end

section
/-! PROOFS. ANT-FLAGS (O43, first part). -/

set_option Elab.async false

namespace Sys2Proof.Machine

/-- The directory record with the flag named changed (R106). -/
def DirRec.flagged (flag action : Nat) (d : DirRec) : DirRec :=
  match flag with
  | 1 => { d with inhibited := applyAction action d.inhibited }
  | 2 => { d with suspect := applyAction action d.suspect }
  | _ => { d with faultStuck := false, faultDouble := false, faultRotator := false }

/-- Clearing FAULTED takes a FAILED rotator out of FAILED (R106). -/
def Rotator.cleared (r : Rotator) : Rotator := if r.slew = .failed then { r with slew := .idle, target := none } else r

theorem cleared_slew (r : Rotator) : r.cleared.slew ≠ .failed := by
  unfold Rotator.cleared
  split
  · exact nofun
  · assumption

/-- The rotator of a position whose FAULTED is cleared. -/
def clearRotator (flag c : Nat) (s : State) : State := if flag = 3 then updRotator c Rotator.cleared s else s

theorem flagOne_eq (flag action c : Nat) (s : State) : flagOne flag action c s =
    if (dirRec s c).flagged flag action = dirRec s c then clearRotator flag c s
    else antReport c .host (updDir c (fun _ => (dirRec s c).flagged flag action) (clearRotator flag c s)) := by
  unfold flagOne clearRotator
  rfl

theorem flagOne_mx (flag action c : Nat) (s : State) : (flagOne flag action c s).mx = (clearRotator flag c s).mx := by
  rw [flagOne_eq]; split <;> rfl

theorem clearRotator_dir (flag c : Nat) (s : State) : (clearRotator flag c s).dir = s.dir := by
  unfold clearRotator; split <;> rfl

theorem clearRotator_given (flag c : Nat) (s : State) : (clearRotator flag c s).given = s.given := by
  unfold clearRotator; split <;> simp

/-- The part that ANT-FLAGS leaves as it is: all but the flags and the rotator records. -/
def State.unflaggedPart (s : State) : State :=
  { s with dir := { s.dir with cols := [] }, mx := { s.mx with rotators := [] }, port := {}, agenda := [] }

theorem flagOne_unflaggedPart (flag action c : Nat) (s : State) :
    (flagOne flag action c s).unflaggedPart = s.unflaggedPart := by
  rw [flagOne_eq]
  unfold clearRotator
  (repeat' split) <;> rfl

theorem cols_of_sized {s : State} (h : s.sized) : s.dir.cols.length = 34 := congrArg (·.sizes.cols) h

theorem flagOne_sized {s : State} (h : s.sized) (flag action k : Nat) : (flagOne flag action k s).sized :=
  sized_of_shape h (flagOne_shape ..)

theorem dirRec_flagOne {s : State} (h : s.sized) {k : Nat} (h1 : 1 ≤ k) (h2 : k ≤ 34) (flag action c : Nat) :
    dirRec (flagOne flag action k s) c = if c = k then (dirRec s c).flagged flag action else dirRec s c := by
  have hlen : (clearRotator flag k s).dir.cols.length = 34 := by rw [clearRotator_dir]; exact cols_of_sized h
  have hclear := dirRec_of_dir (clearRotator_dir flag k s)
  rw [flagOne_eq]
  by_cases hsame : (dirRec s k).flagged flag action = dirRec s k
  · rw [if_pos hsame, hclear]
    by_cases hc : c = k
    · rw [if_pos hc, hc, hsame]
    · rw [if_neg hc]
  · rw [if_neg hsame, dirRec_of_dir (antReport_dir ..), dirRec_updDir_at h1 (hlen ▸ h2), hclear]
    by_cases hc : c = k
    · rw [if_pos hc, if_pos hc, hc]
    · rw [if_neg hc, if_neg hc]

theorem rotator_flagOne (flag action k c : Nat) (s : State) : rotator? (flagOne flag action k s) c =
    if flag = 3 ∧ c = k then (rotator? s c).map Rotator.cleared else rotator? s c := by
  have hr : rotator? (flagOne flag action k s) c = rotator? (clearRotator flag k s) c := by
    unfold rotator?
    rw [flagOne_mx]
  rw [hr]
  unfold clearRotator
  by_cases h3 : flag = 3
  · rw [if_pos h3, rotator_updRotator]
    by_cases hc : c = k
    · rw [if_pos hc, if_pos ⟨h3, hc⟩, hc]
    · rw [if_neg hc, if_neg fun e => hc e.2]
  · rw [if_neg h3, if_neg fun e => h3 e.1]

/-- ANT-FLAGS at the positions named, one after another: none is named twice. -/
theorem flags_at {l : List Nat} (hl : ∀ k ∈ l, 1 ≤ k ∧ k ≤ 34) (hn : l.Nodup) (flag action c : Nat) {s : State}
    (h : s.sized) :
    dirRec (forEach l (flagOne flag action) s) c =
        (if c ∈ l then (dirRec s c).flagged flag action else dirRec s c) ∧
      rotator? (forEach l (flagOne flag action) s) c =
        if flag = 3 ∧ c ∈ l then (rotator? s c).map Rotator.cleared else rotator? s c := by
  unfold forEach
  induction l generalizing s with
  | nil => simp
  | cons k l ih =>
    obtain ⟨hk, hn⟩ := List.nodup_cons.mp hn
    obtain ⟨h1, h2⟩ := hl k List.mem_cons_self
    obtain ⟨hdir, hrot⟩ := ih (fun j hj => hl j (List.mem_cons_of_mem _ hj)) hn (flagOne_sized h flag action k)
    rw [List.foldl_cons, hdir, hrot, dirRec_flagOne h h1 h2, rotator_flagOne]
    by_cases hc : c = k
    · subst hc
      simp [hk]
    · simp [hc]

theorem flags_unflaggedPart (l : List Nat) (flag action : Nat) (s : State) :
    (forEach l (flagOne flag action) s).unflaggedPart = s.unflaggedPart :=
  forEach_keeps State.unflaggedPart _ _ _ fun k t => flagOne_unflaggedPart flag action k t

/-- The positions that a mask names. -/
def namedBy (mask : Nat) : List Nat := (upTo 34).filter (fun c => maskBit mask (c - 1))

theorem mem_namedBy {mask c : Nat} : c ∈ namedBy mask ↔ (1 ≤ c ∧ c ≤ 34) ∧ maskBit mask (c - 1) = true := by
  unfold namedBy
  rw [List.mem_filter, mem_upTo]

theorem upTo_nodup (n : Nat) : (upTo n).Nodup :=
  List.Nodup.map (fun _ _ h => Nat.succ.inj h) List.nodup_range

/-- What ANT-FLAGS makes of the state (R106). -/
def flagsSet (flag action mask : Nat) (s : State) : State :=
  emit .offerLoads (forEach (namedBy mask) (flagOne flag action) s)

theorem exec_antFlags {tag flag action mask : Nat} {s : State} (hp : s.pins.powered = true) (hw : s.store.writing = none)
    (hf1 : 1 ≤ flag) (hf2 : flag ≤ 3) (ha1 : 1 ≤ action) (ha2 : action ≤ 3) (hm : mask < 17179869184)
    (h2 : flag = 2 → action ≠ 3 ∧ maskBit mask 32 = false ∧ maskBit mask 33 = false)
    (h3 : flag = 3 → action = 2 ∧ ∀ c, 1 ≤ c → c ≤ 34 → maskBit mask (c - 1) = true → faultPersists s c = false) :
    exec (.antFlags tag flag action mask) s = .next (okReply 0x30 tag
      (.antFlags (allFlags (settle (flagsSet flag action mask s)))) (settle (flagsSet flag action mask s))) := by
  have hfind : (if flag = 3 then (namedBy mask).find? (faultPersists s) else none) = none := by
    split
    next hflag =>
      refine List.find?_eq_none.mpr fun c hc => ?_
      obtain ⟨⟨hc1, hc2⟩, hbit⟩ := mem_namedBy.mp hc
      rw [(h3 hflag).2 c hc1 hc2 hbit]
      exact Bool.false_ne_true
    · rfl
  have hbad : (!within 1 3 flag || !within 1 3 action || decide (17179869184 ≤ mask) || (flag == 2 && action == 3) ||
      (flag == 3 && action != 2) || (flag == 2 && (maskBit mask 32 || maskBit mask 33))) = false := by
    by_cases e2 : flag = 2
    · obtain ⟨hne, hb1, hb2⟩ := h2 e2
      simp [within, e2, ha1, ha2, hm, hne, hb1, hb2]
    · by_cases e3 : flag = 3
      · simp [within, e3, (h3 e3).1, hm]
      · simp [within, e2, e3, hf1, hf2, ha1, ha2, hm]
  show execAntFlags tag flag action mask s = _
  unfold execAntFlags
  refine request_accepted (data := fun t => .antFlags (allFlags t)) hp ?_
  show checks _ (match (if flag = 3 then (namedBy mask).find? (faultPersists s) else none) with
    | some c => refuse .stateRefused (.position c)
    | none => accept (flagsSet flag action mask s) (fun t => .antFlags (allFlags t))) = _
  rw [hfind]
  exact checks_pass (by simp [hbad, storeBusy_eq_false hw])

/-- ANT-FLAGS, position by position (R106). -/
theorem flagsSet_at {s : State} (h : s.whole) (flag action mask : Nat) {c : Nat} (h1 : 1 ≤ c) (h2 : c ≤ 34) :
    dirRec (flagsSet flag action mask s) c =
        (if maskBit mask (c - 1) = true then (dirRec s c).flagged flag action else dirRec s c) ∧
      rotator? (flagsSet flag action mask s) c =
        if flag = 3 ∧ maskBit mask (c - 1) = true then (rotator? s c).map Rotator.cleared else rotator? s c := by
  obtain ⟨hdir, hrot⟩ := flags_at (fun k hk => (mem_namedBy.mp hk).1) ((upTo_nodup 34).filter _) flag action c
    ((whole_iff s).mp h).1
  have hmem : c ∈ namedBy mask ↔ maskBit mask (c - 1) = true := by rw [mem_namedBy]; simp [h1, h2]
  refine ⟨hdir.trans (if_congr hmem rfl rfl), hrot.trans (if_congr (and_congr_right fun _ => hmem) rfl rfl)⟩

theorem antFlags_changes_flag {tag flag action mask : Nat} {s : State} (hs : s.running) (h : s.whole)
    (hw : s.store.writing = none) (hf1 : 1 ≤ flag) (hf2 : flag ≤ 3) (ha1 : 1 ≤ action) (ha2 : action ≤ 3)
    (hm : mask < 17179869184) (h2 : flag = 2 → action ≠ 3 ∧ maskBit mask 32 = false ∧ maskBit mask 33 = false)
    (h3 : flag = 3 → action = 2 ∧ ∀ c, 1 ≤ c → c ≤ 34 → maskBit mask (c - 1) = true → faultPersists s c = false) :
    ∃ u, exec (.antFlags tag flag action mask) s = .next (okReply 0x30 tag (.antFlags (allFlags (settle u))) (settle u)) ∧
      { u with dir := s.dir, mx := s.mx, port := s.port, agenda := s.agenda } = s ∧ u.dir.loadWait = s.dir.loadWait ∧
      { u.mx with rotators := s.mx.rotators } = s.mx ∧
      ∀ c, 1 ≤ c → c ≤ 34 →
        (maskBit mask (c - 1) = false → dirRec u c = dirRec s c ∧ rotator? u c = rotator? s c) ∧
        (maskBit mask (c - 1) = true →
          (flag = 1 → dirRec u c = { dirRec s c with inhibited := applyAction action (dirRec s c).inhibited }) ∧
          (flag = 2 → dirRec u c = { dirRec s c with suspect := applyAction action (dirRec s c).suspect }) ∧
          (flag = 3 → dirRec u c = { dirRec s c with faultStuck := false, faultDouble := false, faultRotator := false } ∧
            ∀ r ∈ rotator? u c, r.slew ≠ .failed)) := by
  have hpart : (flagsSet flag action mask s).unflaggedPart = s.unflaggedPart := flags_unflaggedPart ..
  refine ⟨flagsSet flag action mask s, exec_antFlags hs.1 hw hf1 hf2 ha1 ha2 hm h2 h3, ?_, ?_, ?_, fun c hc1 hc2 => ?_⟩
  · exact congrArg (fun t : State => { t with dir := s.dir, mx := s.mx, port := s.port, agenda := s.agenda }) hpart
  · exact (congrArg (fun t : State => t.dir.loadWait) hpart :)
  · exact congrArg (fun t : State => { t.mx with rotators := s.mx.rotators }) hpart
  · obtain ⟨hdir, hrot⟩ := flagsSet_at h flag action mask hc1 hc2
    refine ⟨fun hbit => ?_, fun hbit => ?_⟩
    · rw [hdir, hrot, hbit]
      simp
    · rw [hdir, hrot, if_pos hbit]
      refine ⟨?_, ?_, ?_⟩
      · rintro rfl; rfl
      · rintro rfl; rfl
      · rintro rfl
        refine ⟨rfl, fun r hr => ?_⟩
        rw [if_pos ⟨rfl, hbit⟩] at hr
        obtain ⟨x, -, rfl⟩ := Option.map_eq_some_iff.mp hr
        exact cleared_slew x

end Sys2Proof.Machine
end

section
/-! PROOFS. Claims, wait lists, releases and loads of the Antenna Directory (O43). -/

set_option Elab.async false

namespace Sys2Proof.Machine

/-! ### A claim asked for (R100) -/

/-- The claim is granted to the order, which is told so. -/
def Granted (c id : Nat) (t : State) : Prop := (dirRec t c).claiming = some id ∧ .granted id ∈ t.agenda

theorem updNth_congr {α : Type} {l : List α} {n : Nat} {f g : α → α} (h : ∀ x, nth l n = some x → f x = g x) :
    updNth l n f = updNth l n g := by
  unfold updNth
  split
  · rfl
  next hn =>
    refine List.ext_getElem? fun i => ?_
    rw [List.getElem?_modify, List.getElem?_modify]
    by_cases hi : n - 1 = i
    · subst hi
      cases hx : l[n - 1]? with
      | none => rfl
      | some x => simp [h x (by rw [nth, if_neg hn, hx])]
    · simp [hi]

/-- Two changes of a directory record that agree on it are the same. -/
theorem updDir_congr {c : Nat} {f g : DirRec → DirRec} {s : State} (h : f (dirRec s c) = g (dirRec s c)) :
    updDir c f s = updDir c g s := by
  have hcols : updNth s.dir.cols c f = updNth s.dir.cols c g := by
    refine updNth_congr fun x hx => ?_
    have hd : dirRec s c = x := by simp [dirRec, hx]
    rwa [hd] at h
  show s.onDir _ = s.onDir _
  simp only [State.onDir, hcols]

section
variable {s : State} (h : s.whole) {c : Nat} (h1 : 1 ≤ c) (h2 : c ≤ 34)
include h h1 h2

/-- A claim granted: the order claims the column, and no handover order remains. -/
theorem dirRec_grantClaim (id : Nat) : ∃ st owner, dirRec (grantClaim c id s) c =
    { dirRec s c with claiming := some id, handover := none, state := st, owner := owner } := by
  have hw : (updDir c (fun d => { d with claiming := some id, handover := none }) s).whole := whole_of_given h (by simp)
  have hset := dirRec_settleColumn hw h1 h2 c
  rw [if_pos rfl, dirRec_updDir_of h h1 h2, if_pos rfl] at hset
  exact ⟨_, _, (dirRec_of_dir (grantClaim_dir s c id) c).trans hset⟩

theorem grantClaim_granted (id : Nat) : Granted c id (grantClaim c id s) := by
  obtain ⟨st, owner, e⟩ := dirRec_grantClaim h h1 h2 id
  exact ⟨by rw [e], mem_emit ..⟩

end

section
variable {s : State} {c : Nat} {o : Order} (hclaim : (dirRec s c).claiming ≠ some o.id)
  (hhand : (dirRec s c).handover ≠ some o.id)
  (hwait : o.id ∉ (dirRec s c).waiting)
include hclaim hhand hwait

/-- The claim is neither held nor asked for yet. -/
theorem claim_is_new : ¬ (((dirRec s c).claiming = some o.id || (dirRec s c).handover = some o.id ||
    (dirRec s c).waiting.contains o.id) = true) := by
  simp [hclaim, hhand, hwait]

/-- A STUCK crosspoint in the column: the claim fails. -/
theorem requestClaim_stuck (hstuck : colWhere s c (· == .stuck) ≠ []) :
    requestClaim c o s = emit (.claimFailed o.id) s := by
  have hne : (colWhere s c (· == .stuck)).isEmpty = false := by simpa using hstuck
  unfold requestClaim
  dsimp only
  rw [if_neg (claim_is_new hclaim hhand hwait), hne]
  rfl

variable (hstuck : colWhere s c (· == .stuck) = [])
include hstuck

/-- The claim joins the wait list, where the column is taken by another. -/
theorem requestClaim_joins (hst : (dirRec s c).state = .reserved ∨ (dirRec s c).state = .assigned ∨
    (dirRec s c).state = .unresolved ∨ (dirRec s c).state = .parked ∧ (dirRec s c).handover.isSome) :
    requestClaim c o s = updDir c (fun e => { e with waiting := insertWaiting s o (dirRec s c).waiting }) s := by
  unfold requestClaim
  dsimp only
  rw [if_neg (claim_is_new hclaim hhand hwait), hstuck]
  rcases hst with hst | hst | hst | ⟨hst, hh⟩
  case inr.inr.inr =>
    rw [hst, hh]
    exact updDir_congr rfl
  all_goals
    rw [hst]
    exact updDir_congr rfl

/-- A FREE column is granted. -/
theorem requestClaim_free (hst : (dirRec s c).state = .free) : requestClaim c o s = grantClaim c o.id (countDir .f2r s) := by
  unfold requestClaim
  dsimp only
  rw [if_neg (claim_is_new hclaim hhand hwait), hstuck, hst]
  rfl

variable (hst : (dirRec s c).state = .parked) (hno : (dirRec s c).handover = none) (hfree : (dirRec s c).claiming = none)
include hst hno hfree

/-- A column PARKED without a claim: on the order's own row it is granted; elsewhere it waits for UNKNOWN crosspoints to be
resolved, or the order becomes the handover order. -/
theorem requestClaim_parked : requestClaim c o s =
    if (dirRec s c).owner = some o.snap.tx then grantClaim c o.id (countDir .p2a s)
    else if colWhere s c (· == .unknown) ≠ [] then
      updDir c (fun e => { e with waiting := insertWaiting s o (dirRec s c).waiting }) s
    else requestMove ((dirRec s c).owner.getD 0) c .opens (isEssential o) (.handover o.id)
      (updDir c (fun e => { e with handover := some o.id }) s) := by
  unfold requestClaim
  dsimp only
  rw [if_neg (claim_is_new hclaim hhand hwait), hstuck, hst, hno, hfree]
  by_cases hown : (dirRec s c).owner = some o.snap.tx
  · simp [hown]
  · by_cases hun : colWhere s c (· == .unknown) = []
    · simp [hown, hun]
    · have hne : (colWhere s c (· == .unknown)).isEmpty = false := by simpa using hun
      simp only [hown, hun, hne, ne_eq, not_false_eq_true, if_true, if_false, List.isEmpty_nil, Bool.not_true,
        Bool.false_eq_true, Option.isSome_none, Bool.or_self, Bool.not_false]
      exact updDir_congr rfl

end

/-- R100, as far as the column carries no STUCK crosspoint. -/
theorem requestClaim_granted {s : State} (h : s.whole) {c : Nat} (h1 : 1 ≤ c) (h2 : c ≤ 34) {o : Order}
    (hclaim : (dirRec s c).claiming ≠ some o.id) (hhand : (dirRec s c).handover ≠ some o.id)
    (hwait : o.id ∉ (dirRec s c).waiting) (hstuck : colWhere s c (· == .stuck) = [])
    (hst : (dirRec s c).state = .free ∨ (dirRec s c).state = .parked ∧ (dirRec s c).handover = none ∧
      (dirRec s c).claiming = none ∧ (dirRec s c).owner = some o.snap.tx) : Granted c o.id (requestClaim c o s) := by
  rcases hst with hst | ⟨hst, hno, hfree, hown⟩
  · rw [requestClaim_free hclaim hhand hwait hstuck hst]
    exact grantClaim_granted (whole_of_given h (by simp)) h1 h2 o.id
  · rw [requestClaim_parked hclaim hhand hwait hstuck hst hno hfree, if_pos hown]
    exact grantClaim_granted (whole_of_given h (by simp)) h1 h2 o.id

/-- A FREE column that is offered goes to the head of its list (R103). -/
theorem offerColumn_free {s : State} (h : s.whole) {c : Nat} (h1 : 1 ≤ c) (h2 : c ≤ 34) {o : Order} {rest : List Nat}
    (ho : order? s o.id = some o) (hfree : (dirRec s c).claiming = none) (hno : (dirRec s c).handover = none)
    (hstuck : colWhere s c (· == .stuck) = []) (hst : (dirRec s c).state = .free) (hrest : o.id ∉ rest) :
    Granted c o.id (offerColumn c (updDir c (fun e => { e with waiting := o.id :: rest }) s)) ∧
      (dirRec (offerColumn c (updDir c (fun e => { e with waiting := o.id :: rest }) s)) c).waiting = rest := by
  have hw : (updDir c (fun e => { e with waiting := o.id :: rest }) s).whole := whole_of_given h (by simp)
  have hlisted := dirRec_updDir_of h h1 h2 c (fun e => { e with waiting := o.id :: rest })
  rw [if_pos rfl] at hlisted
  have hoffer : offerColumn c (updDir c (fun e => { e with waiting := o.id :: rest }) s) =
      requestClaim c o (updDir c (fun e => { e with waiting := rest })
        (updDir c (fun e => { e with waiting := o.id :: rest }) s)) := by
    have ho' : order? (updDir c (fun e => { e with waiting := o.id :: rest }) s) o.id = some o := ho
    unfold offerColumn
    dsimp only
    rw [hlisted]
    dsimp only
    rw [ho', hst]
    rfl
  have hw2 : (updDir c (fun e => { e with waiting := rest })
      (updDir c (fun e => { e with waiting := o.id :: rest }) s)).whole := whole_of_given hw (by simp)
  have hd := dirRec_updDir_of hw h1 h2 c (fun e => { e with waiting := rest })
  rw [if_pos rfl, hlisted] at hd
  have hstuck2 : colWhere (updDir c (fun e => { e with waiting := rest })
      (updDir c (fun e => { e with waiting := o.id :: rest }) s)) c (· == .stuck) = [] := hstuck
  rw [hoffer]
  generalize updDir c (fun e => { e with waiting := rest }) (updDir c (fun e => { e with waiting := o.id :: rest }) s) = t
    at hd hw2 hstuck2 ⊢
  have hclaim : (dirRec t c).claiming ≠ some o.id := by rw [hd]; simp [hfree]
  have hhand : (dirRec t c).handover ≠ some o.id := by rw [hd]; simp [hno]
  have hwait : o.id ∉ (dirRec t c).waiting := by rw [hd]; exact hrest
  have hst2 : (dirRec t c).state = .free := by rw [hd]; exact hst
  have hw3 : (countDir .f2r t).whole := whole_of_given hw2 (by simp)
  refine ⟨requestClaim_granted hw2 h1 h2 hclaim hhand hwait hstuck2 (.inl hst2), ?_⟩
  obtain ⟨st, owner, e⟩ := dirRec_grantClaim hw3 h1 h2 o.id
  rw [requestClaim_free hclaim hhand hwait hstuck2 hst2, e]
  show (dirRec t c).waiting = rest
  rw [hd]

/-! ### The order of the wait lists (R101) -/

theorem Order.before_iff (p q : Order) : Order.before p q = true ↔ p.snap.priority.rank < q.snap.priority.rank ∨
    p.snap.priority.rank = q.snap.priority.rank ∧ (p.start < q.start ∨ p.start = q.start ∧ p.id < q.id) := by
  simp [Order.before]

theorem Order.before_trans {p q r : Order} (h : Order.before p q = true) (h' : Order.before q r = true) :
    Order.before p r = true := by
  rw [Order.before_iff] at *
  omega

theorem Order.before_total {p q : Order} (hid : p.id ≠ q.id) (h : ¬ Order.before p q = true) : Order.before q p = true := by
  rw [Order.before_iff] at *
  omega

/-- The one order is before the other in the wait-list order, where both are live. -/
def Ahead (s : State) (x y : Nat) : Prop :=
  ∀ p q, order? s x = some p → order? s y = some q → Order.before p q = true

/-- A list in order stays so when an order joins it at its place. -/
theorem insertWaiting_sorted {s : State} {o : Order} (ho : order? s o.id = some o) {l : List Nat} (hn : o.id ∉ l)
    (hlive : ∀ k ∈ l, (order? s k).isSome) (hl : l.Pairwise (Ahead s)) : (insertWaiting s o l).Pairwise (Ahead s) := by
  induction l with
  | nil => exact List.pairwise_singleton ..
  | cons k l ih =>
    obtain ⟨hk, hn⟩ := not_or.mp (mt List.mem_cons.mpr hn)
    obtain ⟨hhead, htail⟩ := List.pairwise_cons.mp hl
    obtain ⟨p, hp⟩ := Option.isSome_iff_exists.mp (hlive k List.mem_cons_self)
    unfold insertWaiting
    rw [hp]
    dsimp only
    split
    next hbefore =>
      refine List.pairwise_cons.mpr ⟨fun y hy => ?_, hl⟩
      rintro a b ha hb
      obtain rfl : o = a := Option.some.inj (ho.symm.trans ha)
      rcases List.mem_cons.mp hy with rfl | hy
      · obtain rfl : p = b := Option.some.inj (hp.symm.trans hb)
        exact hbefore
      · exact Order.before_trans hbefore (hhead y hy p b hp hb)
    next hafter =>
      refine List.pairwise_cons.mpr ⟨fun y hy => ?_, ih hn (fun j hj => hlive j (List.mem_cons_of_mem _ hj)) htail⟩
      rcases List.mem_cons.mp ((insertWaiting_perm s o l).mem_iff.mp hy) with rfl | hy
      · rintro a b ha hb
        obtain rfl : p = a := Option.some.inj (hp.symm.trans ha)
        obtain rfl : o = b := Option.some.inj (ho.symm.trans hb)
        have hid : p.id = k := (order?_mem hp).2
        exact Order.before_total (fun e => hk (e.trans hid)) hafter
      · exact hhead y hy

/-! ### A plain release (R98, R102) -/

/-- The claim is given up, and the column has followed. -/
def dropped (c : Nat) (s : State) : State := settleColumn c (updDir c DirRec.unclaimed s)

theorem dirRec_dropped {s : State} (h : s.whole) {c : Nat} (h1 : 1 ≤ c) (h2 : c ≤ 34) {law : DirState × Option Nat}
    (hlaw : lawOf (updDir c DirRec.unclaimed s) c = law) :
    dirRec (dropped c s) c = { (dirRec s c).unclaimed with state := law.1, owner := law.2 } := by
  have hw : (updDir c DirRec.unclaimed s).whole := whole_of_given h (updDir_given _ _ _ (by simp [DirRec.unclaimed]))
  unfold dropped
  rw [dirRec_settleColumn hw h1 h2, if_pos rfl, dirRec_updDir_of h h1 h2, if_pos rfl, hlaw]

/-- A column with one active crosspoint and no claim is PARKED on its row, unless it is ASSIGNED still (R98). -/
theorem lawOf_parked {s : State} {c r : Nat} (hact : colWhere s c XpState.active = [r])
    (hclaim : (dirRec s c).claiming = none) (hst : (dirRec s c).state ≠ .assigned) : lawOf s c = (.parked, some r) := by
  unfold lawOf
  simp [hact, hclaim, hst]

/-- A column with neither an active nor an UNKNOWN crosspoint and no claim is FREE (R98). -/
theorem lawOf_free {s : State} {c : Nat} (hact : colWhere s c XpState.active = [])
    (hun : colWhere s c (· == .unknown) = []) (hclaim : (dirRec s c).claiming = none) : lawOf s c = (.free, none) := by
  unfold lawOf
  simp [hact, hun, hclaim]

section
variable {s : State} (h : s.whole) {c id r : Nat} (h1 : 1 ≤ c) (h2 : c ≤ 32) (hrow : rowOfOrder s id = some r)
  (hclaim : (dirRec s c).claiming = some id)
include h h1 h2 hclaim

theorem plainRelease_reserved (hst : (dirRec s c).state = .reserved) (hact : colWhere s c XpState.active = [])
    (hun : colWhere s c (· == .unknown) = []) :
    dirRec (plainRelease c id s) c = { dirRec s c with claiming := none, state := .free, owner := none } := by
  have hrel : plainRelease c id s = offerWaiters c (countDir .r2f (dropped c s)) := by
    unfold plainRelease
    simp only [hclaim, hst, ne_eq, not_true_eq_false, if_false]
    rfl
  have hd := dirRec_updDir_of h h1 (by omega) c DirRec.unclaimed
  rw [if_pos rfl] at hd
  rw [hrel, dirRec_of_dir (offerWaiters_dir ..), dirRec_of_dir (countDir_dir ..),
    dirRec_dropped h h1 (by omega) (lawOf_free hact hun (by rw [hd]; rfl))]
  rfl

omit hclaim in
/-- An ASSIGNED column that is not handed over is PARKED. -/
theorem dropped_assigned (hst : (dirRec s c).state = .assigned) (hact : colWhere s c XpState.active = [r]) :
    dirRec (offerWaiters c (countDir .a2p (dropped c s))) c =
      { dirRec s c with claiming := none, state := .parked, owner := some r } := by
  have hd := dirRec_updDir_of h h1 (by omega) c DirRec.unclaimed
  rw [if_pos rfl] at hd
  have hno : (dirRec (updDir c DirRec.unclaimed s) c).state ≠ .assigned := by
    rw [hd]
    unfold DirRec.unclaimed
    simp [hst]
  rw [dirRec_of_dir (offerWaiters_dir ..), dirRec_of_dir (countDir_dir ..),
    dirRec_dropped h h1 (by omega) (lawOf_parked hact (by rw [hd]; rfl) hno)]
  rfl

include hrow

theorem plainRelease_parks (hst : (dirRec s c).state = .assigned)
    (hkeep : (xpAt s r c).state ≠ .closed ∨ (dirRec s c).waiting = []) (hact : colWhere s c XpState.active = [r]) :
    dirRec (plainRelease c id s) c = { dirRec s c with claiming := none, state := .parked, owner := some r } := by
  have hrel : plainRelease c id s = offerWaiters c (countDir .a2p (dropped c s)) := by
    unfold plainRelease
    simp only [hclaim, hst, hrow, ne_eq, not_true_eq_false, if_false, Option.getD_some]
    split
    next x hx hcl hd =>
      rcases hkeep with hk | hk
      · exact absurd hcl hk
      · rw [hk] at hd
        cases hd
    · rfl
  rw [hrel]
  exact dropped_assigned h h1 h2 hst hact

theorem plainRelease_handsOver (hst : (dirRec s c).state = .assigned) (hclosed : (xpAt s r c).state = .closed) {o : Order}
    {more : List Nat} (hw : (dirRec s c).waiting = o.id :: more) (ho : order? s o.id = some o) (hn : o.id ∉ more)
    (hother : o.snap.tx ≠ r) :
    dirRec (plainRelease c id s) c = { dirRec s c with claiming := none, handover := some o.id, waiting := more } := by
  have hrel : plainRelease c id s = requestMove r c .opens (isEssential o) (.handover o.id)
      (updDir c (fun e => { e with claiming := none, handover := some o.id, waiting := e.waiting.filter (· != o.id) }) s) := by
    unfold plainRelease
    simp only [hclaim, hst, hrow, hclosed, hw, ho, hother, ne_eq, not_true_eq_false, if_false, Option.getD_some, List.head?_cons,
      Option.bind_some]
  have hfilter : (o.id :: more).filter (· != o.id) = more := by
    rw [List.filter_cons_of_neg (by simp)]
    exact List.filter_eq_self.mpr fun k hk => by simpa using fun e : k = o.id => hn (e ▸ hk)
  rw [hrel, dirRec_of_dir (requestMove_dir ..), dirRec_updDir_of h h1 (by omega), if_pos rfl, hw, hfilter]

end

/-! ### The loads (R104) -/

theorem grantLoad_none {s : State} (h33 : grantable s 33 = false) (h34 : grantable s 34 = false) : grantLoad s = s := by
  have hfind : [33, 34].find? (grantable s) = none := by simp [h33, h34]
  unfold grantLoad
  rw [hfind]
  split
  next e => cases e
  · rfl

/-- The order holds a load. -/
def Order.loaded (c : Nat) (o : Order) : Order := { o with load := some c, work := { o.work with load := false } }

/-- The load is claimed by the head of the load wait list, which leaves the list. -/
def claimLoad (c id : Nat) (rest : List Nat) (s : State) : State :=
  updDir c (fun d => { d with claiming := some id }) (s.onDir (fun d => { d with loadWait := rest }))

section
variable {s : State} (h : s.whole) {o : Order} {rest : List Nat} {c : Nat} (hl : s.dir.loadWait = o.id :: rest)
  (ho : order? s o.id = some o) (hc : [33, 34].find? (grantable s) = some c)
include hl hc

theorem grantLoad_eq : grantLoad s = emit (.advance o.id)
    (updOrder o.id (Order.loaded c) (countDir .f2r (settleColumn c (claimLoad c o.id rest s)))) := by
  unfold grantLoad
  rw [hl, hc]
  rfl

include h ho

theorem grantLoad_head : (dirRec (grantLoad s) c).claiming = some o.id ∧ (grantLoad s).dir.loadWait = rest ∧
    order? (grantLoad s) o.id = some (o.loaded c) := by
  have hcol : 1 ≤ c ∧ c ≤ 34 := by
    have hmem := List.mem_of_find?_eq_some hc
    simp only [List.mem_cons, List.not_mem_nil, or_false] at hmem
    omega
  obtain ⟨h1, h2⟩ := hcol
  have hpopped : (s.onDir (fun d => { d with loadWait := rest })).whole := whole_of_given h rfl
  have hclaimed : (claimLoad c o.id rest s).whole := whole_of_given hpopped (by simp [claimLoad])
  have hdir : (grantLoad s).dir = (settleColumn c (claimLoad c o.id rest s)).dir := by rw [grantLoad_eq hl hc]; rfl
  have hchg : (settleColumn c (claimLoad c o.id rest s)).chg = s.chg := chg_of_still (settleColumn_still ..)
  refine ⟨?_, ?_, ?_⟩
  · rw [dirRec_of_dir hdir, dirRec_settleColumn hclaimed h1 h2, if_pos rfl]
    unfold claimLoad
    rw [dirRec_updDir_of hpopped h1 h2, if_pos rfl]
  · rw [hdir, settleColumn_dir]
    rfl
  · have horder : order? (countDir .f2r (settleColumn c (claimLoad c o.id rest s))) o.id = some o := by
      rw [← ho]
      exact congrArg (fun g : Changeover => g.orders.find? (fun p => p.id == o.id)) hchg
    have hupd := order?_updOrder o.id o.id (Order.loaded c) (fun _ => rfl)
      (countDir .f2r (settleColumn c (claimLoad c o.id rest s)))
    rw [horder, Option.map_some, if_pos rfl] at hupd
    rw [grantLoad_eq hl hc]
    exact hupd

end

/-- Settles O43. -/
theorem antFlagsChangesTheFlagNamed : Obligations.AntFlagsChangesTheFlagNamed := by
  refine ⟨?_, ?_, ?_, Order.before_iff, ?_, ?_⟩
  · intro tag flag action mask s hs h hw hf1 hf2 ha1 ha2 hm h2 h3
    exact antFlags_changes_flag hs h hw hf1 hf2 ha1 ha2 hm h2 h3
  · intro c o s h h1 h2 ho d u granted hclaim hhand hwait
    refine ⟨requestClaim_stuck hclaim hhand hwait, fun hstuck => ⟨fun hst => ?_, fun hst hno hfree => ⟨fun hown => ?_,
      fun hown hun => ?_, fun hown hun => ?_⟩, requestClaim_joins hclaim hhand hwait hstuck⟩, ?_⟩
    · exact requestClaim_granted h h1 (by omega) hclaim hhand hwait hstuck (.inl hst)
    · exact requestClaim_granted h h1 (by omega) hclaim hhand hwait hstuck (.inr ⟨hst, hno, hfree, hown⟩)
    · have hu := requestClaim_parked hclaim hhand hwait hstuck hst hno hfree
      rw [if_neg hown, if_neg (not_not_intro hun)] at hu
      show dirRec (requestClaim c o s) c = _
      rw [hu, dirRec_of_dir (requestMove_dir ..), dirRec_updDir_of h h1 (by omega), if_pos rfl]
    · have hu := requestClaim_parked hclaim hhand hwait hstuck hst hno hfree
      rw [if_neg hown, if_pos hun] at hu
      exact hu
    · intro rest hfree hno hstuck t hst hrest
      exact offerColumn_free h h1 (by omega) ho hfree hno hstuck hst hrest
  · intro s o l ho hn hlive ahead
    exact ⟨insertWaiting_perm s o l, insertWaiting_sorted ho hn hlive⟩
  · intro c id r s h h1 h2 hrow hr1 hr2 d u
    refine ⟨fun hne => if_pos hne, fun hclaim hno => ⟨fun hst hact hun => ?_, fun hst hx hact => ?_,
      fun hst hclosed hact => ⟨fun hw => ?_, fun o more hw ho hn hother => ?_⟩⟩⟩
    · exact plainRelease_reserved h h1 h2 hclaim hst hact hun
    · exact plainRelease_parks h h1 h2 hrow hclaim hst (.inl hx) hact
    · exact plainRelease_parks h h1 h2 hrow hclaim hst (.inr hw) hact
    · exact plainRelease_handsOver h h1 h2 hrow hclaim hst hclosed hw ho hn hother
  · intro s h
    exact ⟨grantLoad_none, fun o rest c hl ho hc => grantLoad_head h hl ho hc⟩

end Sys2Proof.Machine
end

section
/-! PROOFS. A switch found closed (R117; O53). -/

set_option Elab.async false

namespace Sys2Proof.Machine

/-- In range as a row and a column of the matrix. -/
def OnMatrix (x : Nat × Nat) : Prop := (1 ≤ x.1 ∧ x.1 ≤ 16) ∧ 1 ≤ x.2 ∧ x.2 ≤ 34

/-- The record of a crosspoint made STUCK. -/
def Xp.stuck (x : Xp) : Xp := { x with state := .stuck }

theorem Xp.stuck_eq {x : Xp} (h : x.state = .stuck) : x.stuck = x := by cases x; cases h; rfl

/-- The state but for the crosspoints and what `State.quiet` leaves out. -/
def State.apart (s : State) : State := { s.quiet with mx := { rows := [], rotators := s.mx.rotators } }

section
variable {s t : State} (h : t.apart = s.apart)
include h
theorem chg_of_apart : t.chg = s.chg := by injection h
theorem tx_of_apart : t.tx = s.tx := by injection h
theorem prot_of_apart : t.prot = s.prot := by injection h
theorem order?_of_apart (id : Nat) : order? t id = order? s id := by unfold order?; rw [chg_of_apart h]
end

theorem apart_of_quiet {s t : State} (h : t.quiet = s.quiet) : t.apart = s.apart :=
  congrArg (fun u : State => { u with mx := { rows := [], rotators := u.mx.rotators } }) h

theorem apart_of_still {s t : State} (h : t.still = s.still) : t.apart = s.apart := apart_of_quiet (quiet_of_still h)

theorem updXp_apart (r c : Nat) (f : Xp → Xp) (s : State) : (updXp r c f s).apart = s.apart := rfl

/-! ### One crosspoint made STUCK -/

/-- The movement of a crosspoint made STUCK fails, and its credit is returned (R117). -/
def dropMovement (r c : Nat) (was s : State) : State :=
  match movementAt? was r c with
  | some m => returnCredit r c s |> tellAll m.who r c false
  | none => s

theorem makeStuck_eq (r c : Nat) (p : Option SwitchPos) (k : XpCause) (s : State) : makeStuck r c p k s =
    if (xpAt s r c).state = .stuck then s
    else emit (.rowChanged r) (sweepQueue r c
      (xpReport r c (xpAt s r c).state .stuck p k (dropMovement r c s (setXp r c .stuck s)))) := rfl

theorem dropMovement_still (r c : Nat) (was s : State) : (dropMovement r c was s).still = s.still := by
  unfold dropMovement; split <;> simp

section
variable (r c : Nat) (p : Option SwitchPos) (k : XpCause) (s : State)

/-- STUCK already, or STUCK now. -/
theorem makeStuck_still : (makeStuck r c p k s).still =
    if (xpAt s r c).state = .stuck then s.still else (setXp r c .stuck s).still := by
  rw [makeStuck_eq]
  split
  · rfl
  · rw [emit_still, sweepQueue_still, xpReport_still, dropMovement_still]

theorem makeStuck_apart : (makeStuck r c p k s).apart = s.apart := by
  rw [makeStuck_eq]
  split
  · rfl
  · refine apart_of_still (s := setXp r c .stuck s) ?_
    rw [emit_still, sweepQueue_still, xpReport_still, dropMovement_still]

/-- No other crosspoint loses a credit, and none gains one. -/
theorem makeStuck_places : (makeStuck r c p k s).places = s.places ∨
    (makeStuck r c p k s).places = s.places.filter (· ≠ (r, c)) := by
  rw [makeStuck_eq]
  split
  · exact .inl rfl
  · rw [emit_places, sweepQueue_places, xpReport_places]
    unfold dropMovement
    split
    · rw [tellAll_places, returnCredit_places]
      exact .inr rfl
    · exact .inl rfl

/-- A crosspoint that becomes STUCK holds no credit. -/
theorem makeStuck_place (h : (xpAt s r c).state ≠ .stuck) : (r, c) ∉ (makeStuck r c p k s).places := by
  rw [makeStuck_eq, if_neg h, emit_places, sweepQueue_places, xpReport_places]
  unfold dropMovement
  split
  · rw [tellAll_places, returnCredit_places]
    simp
  next hm =>
    exact movementAt?_eq_none.mp hm

end

theorem xpAt_makeStuck {s : State} (h : s.whole) {r c : Nat} (hrc : OnMatrix (r, c)) (p : Option SwitchPos) (k : XpCause)
    (i j : Nat) : xpAt (makeStuck r c p k s) i j = if (i, j) = (r, c) then (xpAt s i j).stuck else xpAt s i j := by
  obtain ⟨⟨hr1, hr2⟩, hc1, hc2⟩ := hrc
  have hstill := makeStuck_still r c p k s
  by_cases hst : (xpAt s r c).state = .stuck
  · rw [if_pos hst] at hstill
    rw [xpAt_of_still hstill]
    split
    next e =>
      cases e
      exact (Xp.stuck_eq hst).symm
    · rfl
  · rw [if_neg hst] at hstill
    rw [xpAt_of_still hstill]
    split
    next e =>
      cases e
      exact xpAt_updXp_same h hr1 hr2 hc1 hc2 _
    next e => exact xpAt_updXp_ne e _ _

/-! ### Several crosspoints made STUCK, one after another -/

/-- The crosspoints of a list made STUCK, each reported as found (R117). -/
def stuckAll (r : Nat) (hit : List (Nat × Nat)) : State → State :=
  forEach hit fun x => makeStuck x.1 x.2 (if x.1 = r then some .closed else none) .doubleClosed

theorem stuckAll_given (r : Nat) (hit : List (Nat × Nat)) (s : State) : (stuckAll r hit s).given = s.given := by
  unfold stuckAll; simp

theorem stuckAll_apart (r : Nat) (hit : List (Nat × Nat)) (s : State) : (stuckAll r hit s).apart = s.apart :=
  forEach_keeps State.apart _ _ _ fun _ _ => makeStuck_apart ..

theorem xpAt_stuckAll {hit : List (Nat × Nat)} (hhit : ∀ x ∈ hit, OnMatrix x) (r : Nat) {s : State} (h : s.whole)
    (i j : Nat) : xpAt (stuckAll r hit s) i j = if (i, j) ∈ hit then (xpAt s i j).stuck else xpAt s i j := by
  unfold stuckAll forEach
  induction hit generalizing s with
  | nil => simp
  | cons x l ih =>
    have hw : (makeStuck x.1 x.2 (if x.1 = r then some .closed else none) .doubleClosed s).whole :=
      whole_of_given h (makeStuck_given ..)
    rw [List.foldl_cons, ih (fun y hy => hhit y (List.mem_cons_of_mem _ hy)) hw,
      xpAt_makeStuck h (hhit x List.mem_cons_self)]
    by_cases hx : (i, j) = x
    · subst hx
      rw [if_pos (show (i, j) = (i, j) from rfl), if_pos (show (i, j) ∈ (i, j) :: l from List.mem_cons_self)]
      split <;> rfl
    · rw [if_neg hx]
      exact if_congr (by simp [hx]) rfl rfl

/-- No crosspoint gains a credit. -/
theorem stuckAll_places {r : Nat} {hit : List (Nat × Nat)} {s : State} {x : Nat × Nat} (hx : x ∉ s.places) :
    x ∉ (stuckAll r hit s).places := by
  refine forEach_induct (P := fun t => x ∉ t.places) (fun y _ t ht => ?_) hx
  rcases makeStuck_places y.1 y.2 (if y.1 = r then some .closed else none) .doubleClosed t with e | e <;> rw [e]
  · exact ht
  · exact fun hm => ht (List.mem_of_mem_filter hm)

/-- A crosspoint of the list that was not STUCK before holds no credit after. -/
theorem stuckAll_place {hit : List (Nat × Nat)} (hhit : ∀ x ∈ hit, OnMatrix x) {r i j : Nat} {s : State} (h : s.whole)
    (hij : (i, j) ∈ hit) (hst : (xpAt s i j).state ≠ .stuck) : (i, j) ∉ (stuckAll r hit s).places := by
  unfold stuckAll forEach
  induction hit generalizing s with
  | nil => cases hij
  | cons x l ih =>
    rw [List.foldl_cons]
    by_cases hx : (i, j) = x
    · subst hx
      exact stuckAll_places (makeStuck_place i j _ _ s hst)
    · have hw : (makeStuck x.1 x.2 (if x.1 = r then some .closed else none) .doubleClosed s).whole :=
        whole_of_given h (makeStuck_given ..)
      refine ih (fun y hy => hhit y (List.mem_cons_of_mem _ hy)) hw ((List.mem_cons.mp hij).resolve_left hx) ?_
      rw [xpAt_makeStuck h (hhit x List.mem_cons_self), if_neg hx]
      exact hst

/-! ### A switch found closed with another (R117, first case) -/

/-- The other rows of the column whose crosspoint is active. -/
def activeRows (s : State) (r c : Nat) : List Nat := (colWhere s c XpState.active).filter (· != r)

/-- The crosspoints made STUCK: the one found closed, the others of its row and those of its column. -/
def hitBy (r c : Nat) (others rows : List Nat) : List (Nat × Nat) :=
  (r, c) :: (others.map (fun k => (r, k)) ++ rows.map (fun k => (k, c)))

theorem mem_hitBy {r c i j : Nat} {others rows : List Nat} :
    (i, j) ∈ hitBy r c others rows ↔ (i, j) = (r, c) ∨ (i = r ∧ j ∈ others) ∨ (j = c ∧ i ∈ rows) := by
  unfold hitBy
  simp only [List.mem_cons, List.mem_append, List.mem_map, Prod.mk.injEq]
  grind

/-- What follows for the columns: the law, the FAULTED flags, the fault records, and the orders that fail. -/
def doubleClosed (hit : List (Nat × Nat)) (cols : List Nat) (was s : State) : State :=
  forEach cols settleColumn s |> forEach cols (fun k => setFault k .double)
  |> forEach (hit.filter fun x => (xpAt was x.1 x.2).state != .stuck)
      (fun x t => makeFault .xpStuck (.crosspoint x.1 x.2) (rowOrder t x.1) t)
  |> forEach cols failStuckClaim |> forEach cols failWaiting

theorem foundClosed_double {r c : Nat} {others : List Nat} {s : State} (h : others ≠ [] ∨ activeRows s r c ≠ []) :
    foundClosed r c others s = doubleClosed (hitBy r c others (activeRows s r c)) (c :: others) s
      (stuckAll r (hitBy r c others (activeRows s r c)) s) := by
  have hcond : (!others.isEmpty || !(activeRows s r c).isEmpty) = true := by
    rcases h with h | h <;> simp [h]
  exact if_pos hcond

section
variable (hit : List (Nat × Nat)) (cols : List Nat) (was s : State)

theorem doubleClosed_quiet : (doubleClosed hit cols was s).quiet = s.quiet := by
  unfold doubleClosed
  rw [quiet_of_still (forEach_still _ (by simp)), quiet_of_still (forEach_still _ (by simp)), forEach_quiet _ (by simp),
    quiet_of_still (forEach_still _ (by simp)), quiet_of_still (forEach_still _ (by simp))]

theorem doubleClosed_places : (doubleClosed hit cols was s).places = s.places := by
  unfold doubleClosed; simp

end

/-- A loop that keeps `I` and establishes `Q` at each member, and never loses it, ends with `Q` at all of them. -/
theorem forEach_all {α : Type} {I : State → Prop} {Q : α → State → Prop} {l : List α} {f : α → State → State} {s : State}
    (h : I s) (hI : ∀ a ∈ l, ∀ t, I t → I (f a t)) (hset : ∀ a ∈ l, ∀ t, I t → Q a (f a t))
    (hkeep : ∀ a b, a ∈ l → b ∈ l → ∀ t, I t → Q a t → Q a (f b t)) : ∀ a ∈ l, Q a (forEach l f s) := by
  unfold forEach
  induction l generalizing s with
  | nil => exact nofun
  | cons x l ih =>
    have hrest := ih (hI x List.mem_cons_self s h) (fun a ha => hI a (List.mem_cons_of_mem _ ha))
      (fun a ha => hset a (List.mem_cons_of_mem _ ha))
      (fun a b ha hb => hkeep a b (List.mem_cons_of_mem _ ha) (List.mem_cons_of_mem _ hb))
    intro a ha
    rcases List.mem_cons.mp ha with rfl | ha
    · have hfirst : I (f a s) ∧ Q a (f a s) := ⟨hI a List.mem_cons_self s h, hset a List.mem_cons_self s h⟩
      refine (forEach_induct (P := fun t => I t ∧ Q a t) (fun b hb t ht => ?_) hfirst).2
      exact ⟨hI b (List.mem_cons_of_mem _ hb) t ht.1,
        hkeep a b List.mem_cons_self (List.mem_cons_of_mem _ hb) t ht.1 ht.2⟩
    · exact hrest a ha

/-- Every column of a switch found closed with another is FAULTED, and none waits for it. -/
theorem doubleClosed_faulted {hit : List (Nat × Nat)} {cols : List Nat} {was s : State} (h : s.whole)
    (hcols : ∀ k ∈ cols, 1 ≤ k ∧ k ≤ 34) : ∀ k ∈ cols,
      (dirRec (doubleClosed hit cols was s) k).faultDouble = true ∧ (dirRec (doubleClosed hit cols was s) k).waiting = [] := by
  have hlaw : (forEach cols settleColumn s).whole := whole_of_given h (by simp)
  have hflags := forEach_all (I := State.whole) (f := fun k => setFault k .double)
    (Q := fun k t => (dirRec t k).faultDouble = true) hlaw
    (fun k _ t ht => whole_of_given ht (setFault_given ..))
    (fun k hk t ht => by rw [dirRec_setFault ht (hcols k hk).1 (hcols k hk).2, if_pos rfl]; rfl)
    (fun a b _ hb t ht hq => by
      rw [dirRec_setFault ht (hcols b hb).1 (hcols b hb).2]
      split
      · rfl
      · exact hq)
  have hflagged : (forEach cols (fun k => setFault k .double) (forEach cols settleColumn s)).whole :=
    whole_of_given hlaw (by simp)
  have hdir : ∀ t : State, (forEach cols failStuckClaim (forEach
      (hit.filter fun x => (xpAt was x.1 x.2).state != .stuck)
      (fun x t => makeFault .xpStuck (.crosspoint x.1 x.2) (rowOrder t x.1) t) t)).dir = t.dir := by
    intro t
    rw [forEach_dir _ (by simp), forEach_dir _ (by simp)]
  have hfailed : (forEach cols failStuckClaim (forEach (hit.filter fun x => (xpAt was x.1 x.2).state != .stuck)
      (fun x t => makeFault .xpStuck (.crosspoint x.1 x.2) (rowOrder t x.1) t)
      (forEach cols (fun k => setFault k .double) (forEach cols settleColumn s)))).whole :=
    whole_of_given hflagged (by simp)
  intro k hk
  refine ⟨?_, ?_⟩
  · refine (forEach_induct (P := fun t => t.whole ∧ (dirRec t k).faultDouble = true) (fun b hb t ⟨ht, hq⟩ => ?_)
      ⟨hfailed, ?_⟩).2
    · refine ⟨whole_of_given ht (failWaiting_given ..), ?_⟩
      rw [dirRec_failWaiting ht (hcols b hb).1 (hcols b hb).2]
      split
      next e => rw [← e]; exact hq
      · exact hq
    · rw [dirRec_of_dir (hdir _)]
      exact hflags k hk
  · exact forEach_all (I := State.whole) (Q := fun k t => (dirRec t k).waiting = []) hfailed
      (fun b _ t ht => whole_of_given ht (failWaiting_given ..))
      (fun b hb t ht => by rw [dirRec_failWaiting ht (hcols b hb).1 (hcols b hb).2, if_pos rfl])
      (fun a b _ hb t ht hq => by
        rw [dirRec_failWaiting ht (hcols b hb).1 (hcols b hb).2]
        split
        · rfl
        · exact hq) k hk

/-! ### A switch found closed alone (R117, the other cases) -/

/-- The order, unless it is one of the row. -/
def foreignTo (s : State) (r : Nat) (id : Option Nat) : Option Nat := id.filter fun k => rowOfOrder s k != some r

/-- The order on another row that holds the column, or waits for its opening. -/
def foreignHolder (s : State) (r c : Nat) : Option Nat :=
  (foreignTo s r (dirRec s c).claiming).or (foreignTo s r (dirRec s c).handover)

/-- The crosspoint of a column claimed on another row: STUCK, and the column FAULTED. -/
def refusedXp (r c id : Nat) (s : State) : State :=
  emit (.fail id .routeStuck) (setFault c .stuck (settleColumn c (makeStuck r c (some .closed) .claimedColumn s)))

/-- The crosspoint accepted as CLOSED, and its column brought to the law. -/
def acceptedXp (r c : Nat) (s : State) : State :=
  settleColumn c (xpReport r c (xpAt s r c).state .closed (some .closed) .poll (setXp r c .closed s))

section
variable {r c : Nat} {s : State} (hrows : activeRows s r c = [])
include hrows

theorem foundClosed_claimed {id : Nat} (hid : foreignHolder s r c = some id) :
    foundClosed r c [] s = failWaiting c (refusedXp r c id s) := by
  have hcond : (!([] : List Nat).isEmpty || !(activeRows s r c).isEmpty) = false := by rw [hrows]; rfl
  unfold foreignHolder foreignTo at hid
  unfold foundClosed
  dsimp only
  rw [show (!([] : List Nat).isEmpty || !((colWhere s c XpState.active).filter (· != r)).isEmpty) = false from hcond,
    if_neg Bool.false_ne_true, hid]
  rfl

theorem foundClosed_passes (hid : foreignHolder s r c = none) :
    foundClosed r c [] s = offerWaiters c (emit (.rowChanged r) (sweepQueue r c (acceptedXp r c s))) := by
  have hcond : (!([] : List Nat).isEmpty || !(activeRows s r c).isEmpty) = false := by rw [hrows]; rfl
  unfold foreignHolder foreignTo at hid
  unfold foundClosed
  dsimp only
  rw [show (!([] : List Nat).isEmpty || !((colWhere s c XpState.active).filter (· != r)).isEmpty) = false from hcond,
    if_neg Bool.false_ne_true, hid]
  rfl

end

section
variable (r c : Nat) (s : State)

theorem acceptedXp_still : (acceptedXp r c s).still = (setXp r c .closed s).still := by
  unfold acceptedXp
  rw [settleColumn_still, xpReport_still]

theorem refusedXp_still (id : Nat) :
    (failWaiting c (refusedXp r c id s)).still = (makeStuck r c (some .closed) .claimedColumn s).still := by
  unfold refusedXp
  rw [failWaiting_still, emit_still, setFault_still, settleColumn_still]

end

/-- The state of the column of a crosspoint accepted as CLOSED. -/
theorem dirRec_acceptedXp {s : State} (h : s.whole) {r c : Nat} (hc1 : 1 ≤ c) (hc2 : c ≤ 34) :
    dirRec (acceptedXp r c s) c = { dirRec s c with
      state := (lawOf (setXp r c .closed s) c).1, owner := (lawOf (setXp r c .closed s) c).2 } := by
  have hw : (xpReport r c (xpAt s r c).state .closed (some .closed) .poll (setXp r c .closed s)).whole :=
    whole_of_given h (by simp [setXp])
  unfold acceptedXp
  rw [dirRec_settleColumn hw hc1 hc2, if_pos rfl]
  rfl

/-- With no other active crosspoint in its column, the crosspoint closed is the only one. -/
theorem colWhere_closed {s : State} (h : s.whole) {r c : Nat} (hrc : OnMatrix (r, c)) (hrows : activeRows s r c = []) :
    colWhere (setXp r c .closed s) c XpState.active = [r] := by
  obtain ⟨⟨hr1, hr2⟩, hc1, hc2⟩ := hrc
  have hat : ∀ i, XpState.active (xpAt (setXp r c .closed s) i c).state = true ↔
      i = r ∨ XpState.active (xpAt s i c).state = true := by
    intro i
    by_cases hi : i = r
    · subst hi
      rw [show xpAt (setXp i c .closed s) i c = _ from xpAt_updXp_same h hr1 hr2 hc1 hc2 _]
      simp [XpState.active]
    · rw [show xpAt (setXp r c .closed s) i c = xpAt s i c from xpAt_updXp_ne (fun e => hi (Prod.mk.inj e).1) _ _]
      simp [hi]
  have hnone : ∀ i ∈ upTo 16, XpState.active (xpAt s i c).state = true → i = r := by
    intro i hi hact
    by_contra hne
    have hmem : i ∈ activeRows s r c := List.mem_filter.mpr ⟨mem_colWhere.mpr ⟨mem_upTo.mp hi, hact⟩, by simpa using hne⟩
    rw [hrows] at hmem
    cases hmem
  have hfilter : colWhere (setXp r c .closed s) c XpState.active = (upTo 16).filter (· == r) := by
    refine List.filter_congr fun i hi => ?_
    rw [Bool.eq_iff_iff, hat i, beq_iff_eq]
    exact ⟨fun e => e.elim id (hnone i hi), .inl⟩
  rw [hfilter, List.filter_beq, (upTo_nodup 16).count, if_pos (mem_upTo.mpr ⟨hr1, hr2⟩), List.replicate_one]

section
variable {s : State} {r c : Nat} (hact : colWhere s c XpState.active = [r])
include hact

theorem lawOf_single : (lawOf s c).2 = some r := by unfold lawOf; rw [hact]

/-- A column whose only active crosspoint stands on its claiming order's row is ASSIGNED (R98). -/
theorem lawOf_claimed {id : Nat} (hclaim : (dirRec s c).claiming = some id) (hrow : rowOfOrder s id = some r) :
    (lawOf s c).1 = .assigned := by
  unfold lawOf
  simp [hact, hclaim, hrow]

/-- A column whose only active crosspoint is CLOSED, with neither a claim nor a handover order, is PARKED (R98). -/
theorem lawOf_unclaimed (hclosed : (xpAt s r c).state = .closed) (hclaim : (dirRec s c).claiming = none)
    (hhand : (dirRec s c).handover = none) : (lawOf s c).1 = .parked := by
  unfold lawOf
  simp [hact, hclaim, hhand, hclosed]

end

end Sys2Proof.Machine
end

section
/-! PROOFS. A poll reply of an MDU, switch by switch (R115, R117; O53). -/

set_option Elab.async false

namespace Sys2Proof.Machine

/-! ### What one switch can change -/

section frames
variable (s : State)
@[simp] theorem offerWaiters_movements (c) : (offerWaiters c s).mx.movements = s.mx.movements := by
  unfold offerWaiters; split <;> rfl
@[simp] theorem tellAll_movements (l r c ok) : (tellAll l r c ok s).mx.movements = s.mx.movements :=
  forEach_keeps (fun t => t.mx.movements) _ _ _ fun _ _ => rfl
@[simp] theorem sweepQueue_movements (r c) : (sweepQueue r c s).mx.movements = s.mx.movements :=
  forEach_keeps (fun t => t.mx.movements) _ _ _ fun _ _ => tellAll_movements ..
@[simp] theorem settleColumn_movements (c) : (settleColumn c s).mx.movements = s.mx.movements := by rw [settleColumn_mx]
@[simp] theorem wear_movements (r c) : (wear r c s).mx.movements = s.mx.movements := by
  unfold wear; dsimp only; (repeat' split) <;> rfl
@[simp] theorem countMaybe_movements (k) : (countMaybe k s).mx.movements = s.mx.movements := by
  unfold countMaybe; split <;> rfl
@[simp] theorem grantClaim_movements (c id) : (grantClaim c id s).mx.movements = s.mx.movements := settleColumn_movements ..
@[simp] theorem updDir_movements (c f) : (updDir c f s).mx.movements = s.mx.movements := rfl
@[simp] theorem emit_movements (g) : (emit g s).mx.movements = s.mx.movements := rfl
@[simp] theorem setXp_movements (r c x) : (setXp r c x s).mx.movements = s.mx.movements := rfl
@[simp] theorem xpReport_movements (r c a b p k) : (xpReport r c a b p k s).mx.movements = s.mx.movements := rfl
@[simp] theorem columnOpened_movements (c b) : (columnOpened c b s).mx.movements = s.mx.movements := by
  unfold columnOpened; dsimp only; (repeat' split) <;> simp
@[simp] theorem foundAway_movements (c) : (foundAway c s).mx.movements = s.mx.movements := by
  unfold foundAway; split <;> simp
end frames

theorem xpAt_wear_ne {r c i j : Nat} (h : (i, j) ≠ (r, c)) (s : State) : xpAt (wear r c s) i j = xpAt s i j := by
  unfold wear
  dsimp only
  (repeat' split)
  · rfl
  · exact xpAt_updXp_ne h _ _
  · exact xpAt_updXp_ne h _ _

theorem wear_apart (r c : Nat) (s : State) : (wear r c s).apart = s.apart := by
  unfold wear; dsimp only; (repeat' split) <;> rfl

theorem wear_states (r c : Nat) (s : State) : (wear r c s).states = s.states := by
  unfold wear
  dsimp only
  (repeat' split)
  · rfl
  · exact updXp_states (by intro x; rfl) r c s
  · exact updXp_states (by intro x; rfl) r c s

theorem state_of_states {s t : State} (h : t.states = s.states) (i j : Nat) : (xpAt t i j).state = (xpAt s i j).state := by
  rw [xpAt_states, xpAt_states, h]

/-- The one crosspoint may have changed, with its credit returned or not; no other has. -/
structure ChangedAt (r c : Nat) (s t : State) : Prop where
  given : t.given = s.given
  apart : t.apart = s.apart
  others : ∀ i j, (i, j) ≠ (r, c) → xpAt t i j = xpAt s i j
  moves : t.mx.movements = s.mx.movements ∨ t.mx.movements = (returnCredit r c s).mx.movements

namespace ChangedAt
variable {r c : Nat} {s t u : State}

theorem refl (s : State) : ChangedAt r c s s := ⟨rfl, rfl, fun _ _ _ => rfl, .inl rfl⟩

/-- What leaves the crosspoints and the movements alone may follow. -/
theorem still (h : ChangedAt r c s t) (hg : u.given = t.given) (hx : u.still = t.still)
    (hm : u.mx.movements = t.mx.movements) : ChangedAt r c s u where
  given := hg.trans h.given
  apart := (apart_of_still hx).trans h.apart
  others i j hij := (xpAt_of_still hx i j).trans (h.others i j hij)
  moves := by rw [hm]; exact h.moves

theorem setXp (h : ChangedAt r c s t) (x : XpState) : ChangedAt r c s (setXp r c x t) where
  given := (updXp_given ..).trans h.given
  apart := h.apart
  others i j hij := (xpAt_updXp_ne hij _ _).trans (h.others i j hij)
  moves := h.moves

theorem wear (h : ChangedAt r c s t) : ChangedAt r c s (wear r c t) where
  given := (wear_given ..).trans h.given
  apart := (wear_apart ..).trans h.apart
  others i j hij := (xpAt_wear_ne hij _).trans (h.others i j hij)
  moves := by rw [wear_movements]; exact h.moves

theorem returnCredit (s : State) : ChangedAt r c s (returnCredit r c s) :=
  ⟨rfl, rfl, fun _ _ _ => rfl, .inr rfl⟩

/-- The movement of another crosspoint is what it was. -/
theorem movementAt? (h : ChangedAt r c s t) {i j : Nat} (hij : (i, j) ≠ (r, c)) :
    movementAt? t i j = Machine.movementAt? s i j := by
  unfold Machine.movementAt?
  rcases h.moves with e | e <;> rw [e]
  show (s.mx.movements.filter _).find? _ = _
  rw [List.find?_filter]
  refine congrArg (fun p => s.mx.movements.find? p) (funext fun m => ?_)
  rw [Bool.eq_iff_iff]
  simp only [Prod.ext_iff, ne_eq, not_and] at hij
  simp
  grind

/-- No crosspoint gains a credit. -/
theorem places (h : ChangedAt r c s t) {x : Nat × Nat} (hx : x ∉ s.places) : x ∉ t.places := by
  unfold State.places
  rcases h.moves with e | e <;> rw [e]
  · exact hx
  · have hfilter := returnCredit_places r c s
    unfold State.places at hfilter hx
    rw [hfilter]
    exact fun hm => hx (List.mem_of_mem_filter hm)

end ChangedAt

/-! ### Each outcome of a comparison (R115) -/

/-- The crosspoint has taken the state given, and no other has changed. -/
def TookAt (r c : Nat) (st : XpState) (s t : State) : Prop := ChangedAt r c s t ∧ (xpAt t r c).state = st

theorem TookAt.still {r c : Nat} {st : XpState} {s t u : State} (h : TookAt r c st s t) (hg : u.given = t.given)
    (hx : u.still = t.still) (hm : u.mx.movements = t.mx.movements) : TookAt r c st s u :=
  ⟨h.1.still hg hx hm, by rw [xpAt_of_still hx]; exact h.2⟩

theorem TookAt.wear {r c : Nat} {st : XpState} {s t : State} (h : TookAt r c st s t) : TookAt r c st s (wear r c t) :=
  ⟨h.1.wear, (state_of_states (wear_states r c t) r c).trans h.2⟩

section
variable {s t : State} {r c : Nat} (hw : t.whole) (hrc : OnMatrix (r, c)) (h : ChangedAt r c s t)
include hw hrc h

/-- The crosspoint set. -/
theorem tookAt_setXp (st : XpState) : TookAt r c st s (setXp r c st t) :=
  ⟨h.setXp st, congrArg (·.state) (xpAt_updXp_same hw hrc.1.1 hrc.1.2 hrc.2.1 hrc.2.2 _)⟩

/-- The crosspoint set and reported. -/
theorem tookAt_reported (old st : XpState) (p : Option SwitchPos) :
    TookAt r c st s (xpReport r c old st p .poll (setXp r c st t)) :=
  (tookAt_setXp hw hrc h st).still (by simp) (by simp) (by simp)

theorem tookAt_foundOpen : TookAt r c .opened s (foundOpen r c t) := by
  have hset := tookAt_reported hw hrc h .closed .opened (some .opened)
  unfold foundOpen
  dsimp only
  refine TookAt.still (t := xpReport r c .closed .opened (some .opened) .poll (setXp r c .opened t)) hset ?_ ?_ ?_
  all_goals
    (repeat' split) <;> simp

theorem tookAt_resolvedOpen : TookAt r c .opened s (resolvedOpen r c t) := by
  have hset := tookAt_reported hw hrc h .unknown .opened (some .opened)
  unfold resolvedOpen
  dsimp only
  refine TookAt.still (t := xpReport r c .unknown .opened (some .opened) .poll (setXp r c .opened t)) hset ?_ ?_ ?_
  all_goals
    (repeat' split) <;> simp

theorem tookAt_unknown (old : XpState) : TookAt r c .unknown s
    (offerWaiters c (settleColumn c (xpReport r c old .unknown (some .between) .poll (setXp r c .unknown t)))) :=
  (tookAt_reported hw hrc h old .unknown (some .between)).still (by simp) (by simp) (by simp)

end

/-- A movement that a poll reply finds at its end: the crosspoint stands where the movement led. -/
theorem tookAt_completeMove {m : Movement} {s : State} (hw : s.whole) (hrc : OnMatrix (m.row, m.col)) :
    TookAt m.row m.col m.dir.target s (completeMove m s) := by
  have hset := tookAt_setXp hw hrc (ChangedAt.refl s) m.dir.target
  have hcredit : TookAt m.row m.col m.dir.target s (returnCredit m.row m.col (setXp m.row m.col m.dir.target s)) :=
    ⟨⟨hset.1.given, hset.1.apart, hset.1.others, .inr rfl⟩, hset.2⟩
  unfold completeMove
  dsimp only
  refine TookAt.still hcredit.wear ?_ ?_ ?_
  all_goals
    split <;> simp

theorem tookAt_resolveCredit {r c : Nat} {m : Option Movement} {pos : XpState} {become : State → State} {s : State}
    (hb : ∀ t, ChangedAt r c s t → t.whole → TookAt r c pos s (become t)) (hw : s.whole) :
    TookAt r c pos s (resolveCredit m r c pos become s) := by
  unfold resolveCredit
  split
  · have hbecome := hb _ (ChangedAt.returnCredit s) (whole_of_given hw (by simp))
    split
    · exact hbecome.wear
    · exact hbecome
  · exact hb s (ChangedAt.refl s) hw

/-- A switch that was OPEN or UNKNOWN and is now closed is newly found closed, and has the check of R117. -/
def newlyClosed (old : XpState) (p : SwitchPos) : Prop := (old = .opened ∨ old = .unknown) ∧ p = .closed

/-- R115's table, but for a switch newly found closed: from the recorded state `old`, the position, the direction of the
movement in flight and the state as it stands. -/
def tableState (old : XpState) (p : SwitchPos) (dir : Option Direction) (now : XpState) : XpState :=
  match old, p with
  | .closing, .closed => (dir.map (·.target)).getD now
  | .opening, .opened => (dir.map (·.target)).getD now
  | .opened, .between => .unknown
  | .closed, .between => .unknown
  | .closed, .opened => .opened
  | .unknown, .opened => .opened
  | _, _ => now

section
variable {was s : State} {r c : Nat} {p : SwitchPos} {others : List Nat} (hw : s.whole) (hrc : OnMatrix (r, c))
include hw hrc

/-- The movement on the crosspoint, if there is one, is complete. -/
theorem tookAt_finish : TookAt r c (((movementAt? s r c).map (·.dir.target)).getD (xpAt s r c).state) s
    (finishMove r c s) := by
  unfold finishMove
  cases hm : movementAt? s r c with
  | none => exact ⟨ChangedAt.refl s, rfl⟩
  | some m =>
    obtain ⟨rfl, rfl⟩ := movementAt?_place hm
    exact tookAt_completeMove hw hrc

/-- R115's table, for a switch that is not newly found closed: its crosspoint follows the table, and no other changes. -/
theorem tookAt_compareSwitch (hno : ¬ newlyClosed (xpAt was r c).state p) :
    TookAt r c (tableState (xpAt was r c).state p ((movementAt? s r c).map (·.dir)) (xpAt s r c).state) s
      (compareSwitch was r c p others s) := by
  have hself : TookAt r c (xpAt s r c).state s s := ⟨ChangedAt.refl s, rfl⟩
  have hdir : ((movementAt? s r c).map (·.dir)).map (·.target) = (movementAt? s r c).map (·.dir.target) :=
    Option.map_map ..
  unfold newlyClosed at hno
  unfold compareSwitch tableState
  generalize (xpAt was r c).state = old at hno ⊢
  cases old <;> cases p <;> dsimp only
  case opened.closed => exact absurd ⟨.inl rfl, rfl⟩ hno
  case unknown.closed => exact absurd ⟨.inr rfl, rfl⟩ hno
  case closing.closed => rw [hdir]; exact tookAt_finish hw hrc
  case opening.opened => rw [hdir]; exact tookAt_finish hw hrc
  case opened.between => exact tookAt_unknown hw hrc (ChangedAt.refl s) _
  case closed.opened => exact tookAt_foundOpen hw hrc (ChangedAt.refl s)
  case unknown.opened =>
    exact tookAt_resolveCredit (fun t ht hwt => tookAt_resolvedOpen hwt hrc ht) hw
  case closed.between =>
    have hset := tookAt_unknown hw hrc (ChangedAt.refl s) .closed
    split
    · split
      · exact hset.still (by simp) (by simp) (by simp)
      · exact hset
    · exact hset
  all_goals exact hself

end

end Sys2Proof.Machine
end

section
/-! PROOFS. A poll reply of an MDU, row by row (R115, R117, R125; O53). -/

set_option Elab.async false

namespace Sys2Proof.Machine

/-! ### The switches of a reply -/

/-- The switches of a reply with their columns. -/
def listed (positions : List SwitchPos) : List (SwitchPos × Nat) := positions.zip (upTo 34)

/-- The columns that a reply reports closed. -/
def closedCols (positions : List SwitchPos) : List Nat :=
  (listed positions).filterMap fun x => if x.1 = .closed then some x.2 else none

theorem pollRow_eq (r : Nat) (positions : List SwitchPos) (s : State) : pollRow r positions s = emit .offerLoads
    (forEach (listed positions)
      (fun x => compareSwitch s r x.2 x.1 ((closedCols positions).filter (· != x.2))) s) := rfl

theorem mem_listed {positions : List SwitchPos} {p : SwitchPos} {c : Nat} :
    (p, c) ∈ listed positions ↔ nth positions c = some p ∧ 1 ≤ c ∧ c ≤ 34 := by
  unfold listed
  rw [List.mem_iff_getElem?]
  constructor
  · rintro ⟨i, hi⟩
    obtain ⟨hp, hc⟩ := List.getElem?_zip_eq_some.mp hi
    have hc' : nth (upTo 34) (i + 1) = some c := hc
    obtain ⟨h1, h2⟩ := bounds_of_nth hc'
    rw [upTo_length] at h2
    rw [nth_upTo h1 h2] at hc'
    obtain rfl := Option.some.inj hc'
    exact ⟨hp, h1, h2⟩
  · rintro ⟨hp, h1, h2⟩
    refine ⟨c - 1, List.getElem?_zip_eq_some.mpr ⟨?_, ?_⟩⟩
    · rw [← hp, nth, if_neg (by omega)]
    · rw [← nth_upTo h1 h2, nth, if_neg (by omega)]

theorem mem_closedCols {positions : List SwitchPos} {c : Nat} :
    c ∈ closedCols positions ↔ (.closed, c) ∈ listed positions := by
  unfold closedCols
  rw [List.mem_filterMap]
  constructor
  · rintro ⟨⟨p, k⟩, hx, hk⟩
    split at hk
    next hp =>
      cases hk
      cases hp
      exact hx
    · cases hk
  · exact fun h => ⟨_, h, rfl⟩

theorem listed_nodup {positions : List SwitchPos} (h : positions.length = 34) : ((listed positions).map (·.2)).Nodup := by
  unfold listed
  rw [List.map_snd_zip (by rw [h, upTo_length])]
  exact upTo_nodup 34

/-- A loop, seen from one of its rounds: what holds before it, what it brings, and what the rounds after it keep. -/
theorem forEach_at {α : Type} {Q R : State → Prop} {l : List α} {f : α → State → State} {key : α → Nat} {a : α} {s : State}
    (hn : (l.map key).Nodup) (ha : a ∈ l) (hbefore : ∀ x ∈ l, key x ≠ key a → ∀ t, Q t → Q (f x t))
    (hat : ∀ t, Q t → R (f a t)) (hafter : ∀ x ∈ l, key x ≠ key a → ∀ t, R t → R (f x t)) (h : Q s) :
    R (forEach l f s) := by
  obtain ⟨pre, post, rfl⟩ := List.append_of_mem ha
  rw [List.map_append, List.map_cons, List.nodup_append, List.nodup_cons] at hn
  obtain ⟨-, ⟨hpost, -⟩, hpre⟩ := hn
  have hsplit : forEach (pre ++ a :: post) f s = forEach post f (f a (forEach pre f s)) := by
    unfold forEach
    rw [List.foldl_append, List.foldl_cons]
  rw [hsplit]
  refine forEach_induct (fun x hx t ht => ?_) (hat _ (forEach_induct (fun x hx t ht => ?_) h))
  · refine hafter x (List.mem_append_right _ (List.mem_cons_of_mem _ hx)) (fun e => hpost ?_) t ht
    rw [← e]
    exact List.mem_map_of_mem hx
  · refine hbefore x (List.mem_append_left _ hx) (fun e => ?_) t ht
    exact hpre _ (List.mem_map_of_mem hx) _ List.mem_cons_self e

/-! ### A reply in which no switch is newly found closed (R115) -/

section
variable {n : Nat} (hn1 : 1 ≤ n) (hn2 : n ≤ 16) {positions : List SwitchPos} {s : State} (hw : s.whole)
include hn1 hn2 hw

section
variable (hno : ∀ c, nth positions c = some .closed → (xpAt s n c).state ≠ .opened ∧ (xpAt s n c).state ≠ .unknown)
include hno

omit hw in
theorem tookAt_listed {x : SwitchPos × Nat} (hx : x ∈ listed positions) {others : List Nat} {t : State} (ht : t.whole) :
    TookAt n x.2 (tableState (xpAt s n x.2).state x.1 ((movementAt? t n x.2).map (·.dir)) (xpAt t n x.2).state) t
      (compareSwitch s n x.2 x.1 others t) := by
  obtain ⟨p, c⟩ := x
  obtain ⟨hp, hc1, hc2⟩ := mem_listed.mp hx
  refine tookAt_compareSwitch ht ⟨⟨hn1, hn2⟩, hc1, hc2⟩ ?_
  rintro ⟨hold, rfl⟩
  obtain ⟨h1, h2⟩ := hno c hp
  exact hold.elim h1 h2

theorem pollRow_besides : (pollRow n positions s).apart = s.apart ∧
    ∀ r c, r ≠ n → xpAt (pollRow n positions s) r c = xpAt s r c := by
  rw [pollRow_eq]
  refine (forEach_induct (P := fun t => t.whole ∧ t.apart = s.apart ∧ ∀ r c, r ≠ n → xpAt t r c = xpAt s r c)
    (fun x hx t ⟨ht, hap, hxp⟩ => ?_) ⟨hw, rfl, fun _ _ _ => rfl⟩).2
  obtain ⟨hch, -⟩ := tookAt_listed hn1 hn2 hno hx (others := (closedCols positions).filter (· != x.2)) ht
  refine ⟨whole_of_given ht hch.given, hch.apart.trans hap, fun r c hr => ?_⟩
  rw [hch.others r c fun e => hr (Prod.mk.inj e).1, hxp r c hr]

/-- Each crosspoint of the row follows R115's table. -/
theorem pollRow_table (hl : positions.length = 34) {p : SwitchPos} {c : Nat} (hp : nth positions c = some p) (hc1 : 1 ≤ c)
    (hc2 : c ≤ 34) : (xpAt (pollRow n positions s) n c).state =
      tableState (xpAt s n c).state p ((movementAt? s n c).map (·.dir)) (xpAt s n c).state := by
  have hmem : (p, c) ∈ listed positions := mem_listed.mpr ⟨hp, hc1, hc2⟩
  rw [pollRow_eq]
  refine (forEach_at (Q := fun t => t.whole ∧ xpAt t n c = xpAt s n c ∧ movementAt? t n c = movementAt? s n c)
    (R := fun t => t.whole ∧ (xpAt t n c).state =
      tableState (xpAt s n c).state p ((movementAt? s n c).map (·.dir)) (xpAt s n c).state)
    (listed_nodup hl) hmem ?_ ?_ ?_ ⟨hw, rfl, rfl⟩).2
  · rintro x hx hne t ⟨ht, hxp, hm⟩
    obtain ⟨hch, -⟩ := tookAt_listed hn1 hn2 hno hx (others := (closedCols positions).filter (· != x.2)) ht
    have hij : (n, c) ≠ (n, x.2) := fun e => hne (Prod.mk.inj e).2.symm
    exact ⟨whole_of_given ht hch.given, (hch.others n c hij).trans hxp, (hch.movementAt? hij).trans hm⟩
  · rintro t ⟨ht, hxp, hm⟩
    obtain ⟨hch, hst⟩ := tookAt_listed hn1 hn2 hno hmem (others := (closedCols positions).filter (· != c)) ht
    refine ⟨whole_of_given ht hch.given, ?_⟩
    rw [hst]
    dsimp only
    rw [hxp, hm]
  · rintro x hx hne t ⟨ht, hst⟩
    obtain ⟨hch, -⟩ := tookAt_listed hn1 hn2 hno hx (others := (closedCols positions).filter (· != x.2)) ht
    have hij : (n, c) ≠ (n, x.2) := fun e => hne (Prod.mk.inj e).2.symm
    exact ⟨whole_of_given ht hch.given, by rw [hch.others n c hij]; exact hst⟩

end
end

/-! ### Two switches of a row found closed (R117, R125) -/

/-- The crosspoints of the check of R117 are STUCK, with their credits returned; no other has changed its state, and none has
gained a credit. -/
structure Doubled (hit : List (Nat × Nat)) (s t : State) : Prop where
  given : t.given = s.given
  stuck : ∀ i j, (i, j) ∈ hit → (xpAt t i j).state = .stuck
  freed : ∀ i j, (i, j) ∈ hit → (xpAt s i j).state ≠ .stuck → (i, j) ∉ t.places
  others : ∀ i j, (i, j) ∉ hit → (xpAt t i j).state = (xpAt s i j).state
  places : ∀ x, x ∉ s.places → x ∉ t.places

theorem hitBy_onMatrix {r c : Nat} (hrc : OnMatrix (r, c)) {others : List Nat} (ho : ∀ k ∈ others, 1 ≤ k ∧ k ≤ 34)
    (s : State) : ∀ x ∈ hitBy r c others (activeRows s r c), OnMatrix x := by
  rintro ⟨i, j⟩ hx
  obtain ⟨hr, hc⟩ := hrc
  rcases mem_hitBy.mp hx with e | ⟨rfl, hj⟩ | ⟨rfl, hi⟩
  · cases e
    exact ⟨hr, hc⟩
  · exact ⟨hr, ho j hj⟩
  · exact ⟨(mem_colWhere.mp (List.mem_of_mem_filter hi)).1, hc⟩

theorem doubled_foundClosed {r c : Nat} (hrc : OnMatrix (r, c)) {others : List Nat} (ho : ∀ k ∈ others, 1 ≤ k ∧ k ≤ 34)
    {s : State} (hw : s.whole) (h : others ≠ [] ∨ activeRows s r c ≠ []) :
    Doubled (hitBy r c others (activeRows s r c)) s (foundClosed r c others s) := by
  have hhit := hitBy_onMatrix hrc ho s
  have hq := doubleClosed_quiet (hitBy r c others (activeRows s r c)) (c :: others) s
    (stuckAll r (hitBy r c others (activeRows s r c)) s)
  have hp := doubleClosed_places (hitBy r c others (activeRows s r c)) (c :: others) s
    (stuckAll r (hitBy r c others (activeRows s r c)) s)
  have hx := fun i j => (xpAt_of_quiet hq i j).trans (xpAt_stuckAll hhit r hw i j)
  refine ⟨foundClosed_given .., ?_, ?_, ?_, ?_⟩
  all_goals rw [foundClosed_double h]
  · intro i j hij
    rw [hx, if_pos hij]
    rfl
  · intro i j hij hst
    rw [hp]
    exact stuckAll_place hhit hw hij hst
  · intro i j hij
    rw [hx, if_neg hij]
  · intro x hx
    rw [hp]
    exact stuckAll_places hx

/-- A switch newly found closed with another of its row: the check of R117 (R115; log 77 for one that was UNKNOWN). -/
theorem doubled_compareSwitch {was s : State} {r c : Nat} (hrc : OnMatrix (r, c)) {others : List Nat}
    (ho : ∀ k ∈ others, 1 ≤ k ∧ k ≤ 34) (hw : s.whole) (hne : others ≠ [])
    (hold : (xpAt was r c).state = .opened ∨ (xpAt was r c).state = .unknown) :
    Doubled (hitBy r c others (activeRows s r c)) s (compareSwitch was r c .closed others s) := by
  have hfound := doubled_foundClosed hrc ho hw (.inl hne)
  unfold compareSwitch
  rcases hold with e | e
  · rw [e]
    exact hfound
  · rw [e]
    dsimp only
    unfold resolveCredit
    split
    · have hreturned : Doubled (hitBy r c others (activeRows s r c)) s (foundClosed r c others (returnCredit r c s)) := by
        have hback := doubled_foundClosed (s := returnCredit r c s) hrc ho (whole_of_given hw (by simp)) (.inl hne)
        have hless : ∀ x, x ∉ s.places → x ∉ (returnCredit r c s).places := by
          intro x hx
          rw [returnCredit_places]
          exact fun hm => hx (List.mem_of_mem_filter hm)
        exact ⟨hback.given, hback.stuck, hback.freed, hback.others, fun x hx => hback.places x (hless x hx)⟩
      split
      · have hst := state_of_states (wear_states r c (foundClosed r c others (returnCredit r c s)))
        have hpl := wear_places (foundClosed r c others (returnCredit r c s)) r c
        refine ⟨(wear_given ..).trans hreturned.given, fun i j hij => ?_, fun i j hij hs => ?_, fun i j hij => ?_,
          fun x hx => ?_⟩
        · rw [hst]; exact hreturned.stuck i j hij
        · rw [hpl]; exact hreturned.freed i j hij hs
        · rw [hst]; exact hreturned.others i j hij
        · rw [hpl]; exact hreturned.places x hx
      · exact hreturned
    · exact hfound

/-- R115's table makes no crosspoint STUCK. -/
theorem tableState_stuck {old now : XpState} {p : SwitchPos} {dir : Option Direction}
    (h : tableState old p dir now = .stuck) : now = .stuck := by
  have hdir : ((dir.map (·.target)).getD now) = .stuck → now = .stuck := by
    rcases dir with - | (- | -)
    · exact id
    · exact nofun
    · exact nofun
  unfold tableState at h
  split at h
  · exact hdir h
  · exact hdir h
  · cases h
  · cases h
  · cases h
  · cases h
  · exact h

/-- A STUCK crosspoint without a movement stays STUCK while its switch is found closed. -/
theorem tableState_closed {old now : XpState} {dir : Option Direction} (hno : ¬ newlyClosed old .closed)
    (hnow : now = .stuck) (h : dir = none ∨ old = .stuck) : tableState old .closed dir now = .stuck := by
  rcases h with rfl | rfl
  · unfold newlyClosed at hno
    cases old <;> simp_all [tableState]
  · exact hnow

/-- A crosspoint STUCK since the reply came, and not before, holds no credit. -/
def StuckFreed (was : State) (r c : Nat) (t : State) : Prop :=
  (xpAt t r c).state = .stuck → (r, c) ∉ t.places ∨ (xpAt was r c).state = .stuck

theorem compareSwitch_whole {was t : State} {r c : Nat} {p : SwitchPos} {others : List Nat} (ht : t.whole) :
    (compareSwitch was r c p others t).whole := whole_of_given ht (compareSwitch_given ..)

section
variable {n : Nat} (hn1 : 1 ≤ n) (hn2 : n ≤ 16) {s t : State} (ht : t.whole) {p : SwitchPos} {j : Nat} (hj1 : 1 ≤ j)
  (hj2 : j ≤ 34) {others : List Nat} (ho : ∀ k ∈ others, 1 ≤ k ∧ k ≤ 34) (hne : p = .closed → others ≠ [])
include hn1 hn2 ht hj1 hj2 ho hne

/-- A switch follows the table, or is newly found closed with another. -/
theorem compareSwitch_either : TookAt n j (tableState (xpAt s n j).state p ((movementAt? t n j).map (·.dir))
      (xpAt t n j).state) t (compareSwitch s n j p others t) ∧ ¬ newlyClosed (xpAt s n j).state p ∨
    Doubled (hitBy n j others (activeRows t n j)) t (compareSwitch s n j p others t) := by
  have hrc : OnMatrix (n, j) := ⟨⟨hn1, hn2⟩, hj1, hj2⟩
  by_cases hnew : newlyClosed (xpAt s n j).state p
  · obtain ⟨hold, rfl⟩ := hnew
    exact .inr (doubled_compareSwitch hrc ho ht (hne rfl) hold)
  · exact .inl ⟨tookAt_compareSwitch ht hrc hnew, hnew⟩

theorem compareSwitch_stuckFreed {k : Nat} (h : StuckFreed s n k t) : StuckFreed s n k (compareSwitch s n j p others t) := by
  intro hst
  rcases compareSwitch_either hn1 hn2 ht hj1 hj2 ho hne (s := s) with ⟨⟨hch, hstate⟩, -⟩ | hd
  · have hwas : (xpAt t n k).state = .stuck := by
      by_cases hk : k = j
      · subst hk
        exact tableState_stuck (hstate.symm.trans hst)
      · rwa [hch.others n k fun e => hk (Prod.mk.inj e).2] at hst
    exact (h hwas).imp_left hch.places
  · by_cases hhit : (n, k) ∈ hitBy n j others (activeRows t n j)
    · by_cases hwas : (xpAt t n k).state = .stuck
      · exact (h hwas).imp_left (hd.places _)
      · exact .inl (hd.freed n k hhit hwas)
    · rw [hd.others n k hhit] at hst
      exact (h hst).imp_left (hd.places _)

/-- A crosspoint once STUCK stays so: another's switch does not touch it, and its own is found closed without a movement. -/
theorem compareSwitch_stuck {i k : Nat} (hst : (xpAt t i k).state = .stuck)
    (hself : (i, k) = (n, j) → p = .closed ∧ StuckFreed s n j t) :
    (xpAt (compareSwitch s n j p others t) i k).state = .stuck := by
  rcases compareSwitch_either hn1 hn2 ht hj1 hj2 ho hne (s := s) with ⟨⟨hch, hstate⟩, hno⟩ | hd
  · by_cases hij : (i, k) = (n, j)
    · obtain ⟨rfl, hfreed⟩ := hself hij
      cases hij
      rw [hstate]
      refine tableState_closed hno hst ((hfreed hst).imp_left fun hm => ?_)
      rw [movementAt?_eq_none.mpr hm]
      rfl
    · rw [hch.others i k hij]
      exact hst
  · by_cases hhit : (i, k) ∈ hitBy n j others (activeRows t n j)
    · exact hd.stuck i k hhit
    · rw [hd.others i k hhit]
      exact hst

/-- Another row of another column keeps its state. -/
theorem compareSwitch_elsewhere {i k : Nat} (hi : i ≠ n) (hk : k ≠ j) :
    (xpAt (compareSwitch s n j p others t) i k).state = (xpAt t i k).state := by
  rcases compareSwitch_either hn1 hn2 ht hj1 hj2 ho hne (s := s) with ⟨⟨hch, -⟩, -⟩ | hd
  · rw [hch.others i k fun e => hi (Prod.mk.inj e).1]
  · refine hd.others i k fun hm => ?_
    rcases mem_hitBy.mp hm with e | ⟨e, -⟩ | ⟨e, -⟩
    · exact hi (Prod.mk.inj e).1
    · exact hi e
    · exact hk e

end

/-- Of two switches that a reply finds closed, each takes the active crosspoints of its own column with it (R117, R125). -/
theorem pollRow_double {n : Nat} (hn1 : 1 ≤ n) (hn2 : n ≤ 16) {positions : List SwitchPos} (hl : positions.length = 34)
    {s : State} (hw : s.whole) {c k : Nat} (hck : c ≠ k) (hc : nth positions c = some .closed)
    (hk : nth positions k = some .closed) (hold : (xpAt s n c).state = .opened ∨ (xpAt s n c).state = .unknown) :
    (xpAt (pollRow n positions s) n c).state = .stuck ∧ (xpAt (pollRow n positions s) n k).state = .stuck ∧
      ∀ i, 1 ≤ i → i ≤ 16 → (xpAt s i c).state.active = true → (xpAt (pollRow n positions s) i c).state = .stuck := by
  have hbounds : ∀ {j : Nat}, nth positions j = some .closed → 1 ≤ j ∧ j ≤ 34 := fun h => hl ▸ bounds_of_nth h
  have hcmem : (.closed, c) ∈ listed positions := mem_listed.mpr ⟨hc, hbounds hc⟩
  have hkmem : (.closed, k) ∈ listed positions := mem_listed.mpr ⟨hk, hbounds hk⟩
  have hothers : ∀ j, ∀ i ∈ (closedCols positions).filter (· != j), 1 ≤ i ∧ i ≤ 34 := fun j i hi =>
    (mem_listed.mp (mem_closedCols.mp (List.mem_of_mem_filter hi))).2
  have hwith : ∀ {j i : Nat}, (.closed, i) ∈ listed positions → i ≠ j → i ∈ (closedCols positions).filter (· != j) :=
    fun hi hne => List.mem_filter.mpr ⟨mem_closedCols.mpr hi, by simpa using hne⟩
  have hne : ∀ j, (closedCols positions).filter (· != j) ≠ [] := by
    intro j
    by_cases hj : c = j
    · exact List.ne_nil_of_mem (hwith hkmem fun e => hck (hj.trans e.symm))
    · exact List.ne_nil_of_mem (hwith hcmem hj)
  rw [pollRow_eq]
  refine (forEach_at
    (Q := fun t => (t.whole ∧ StuckFreed s n k t) ∧ ∀ i, i ≠ n → (xpAt t i c).state = (xpAt s i c).state)
    (R := fun t => (t.whole ∧ StuckFreed s n k t) ∧ (xpAt t n c).state = .stuck ∧ (xpAt t n k).state = .stuck ∧
      ∀ i, 1 ≤ i → i ≤ 16 → (xpAt s i c).state.active = true → (xpAt t i c).state = .stuck)
    (listed_nodup hl) hcmem ?_ ?_ ?_ ⟨⟨hw, .inr⟩, fun _ _ => rfl⟩).2
  · rintro ⟨p, j⟩ hx hj t ⟨⟨ht, hfreed⟩, hcol⟩
    obtain ⟨-, hj1, hj2⟩ := mem_listed.mp hx
    refine ⟨⟨compareSwitch_whole ht,
      compareSwitch_stuckFreed hn1 hn2 ht hj1 hj2 (hothers j) (fun _ => hne j) hfreed⟩, fun i hi => ?_⟩
    rw [compareSwitch_elsewhere hn1 hn2 ht hj1 hj2 (hothers j) (fun _ => hne j) hi (Ne.symm hj)]
    exact hcol i hi
  · rintro t ⟨⟨ht, hfreed⟩, hcol⟩
    obtain ⟨hc1, hc2⟩ := hbounds hc
    have hd := doubled_compareSwitch ⟨⟨hn1, hn2⟩, hc1, hc2⟩ (hothers c) ht (hne c) hold
    refine ⟨⟨compareSwitch_whole ht,
      compareSwitch_stuckFreed hn1 hn2 ht hc1 hc2 (hothers c) (fun _ => hne c) hfreed⟩,
      hd.stuck n c (mem_hitBy.mpr (.inl rfl)), hd.stuck n k (mem_hitBy.mpr (.inr (.inl ⟨rfl, hwith hkmem hck.symm⟩))),
      fun i h1 h2 hact => hd.stuck i c (mem_hitBy.mpr (.inr (.inr ⟨rfl, ?_⟩)))⟩
    have hin : i ≠ n := by
      rintro rfl
      rcases hold with e | e <;> rw [e] at hact <;> cases hact
    exact List.mem_filter.mpr ⟨mem_colWhere.mpr ⟨⟨h1, h2⟩, by rw [hcol i hin]; exact hact⟩, by simpa using hin⟩
  · rintro ⟨p, j⟩ hx hj t ⟨⟨ht, hfreed⟩, hstc, hstk, hcol⟩
    obtain ⟨hp, hj1, hj2⟩ := mem_listed.mp hx
    have hother : ∀ i, (i, c) ≠ (n, j) := fun i e => hj (Prod.mk.inj e).2.symm
    refine ⟨⟨compareSwitch_whole ht,
      compareSwitch_stuckFreed hn1 hn2 ht hj1 hj2 (hothers j) (fun _ => hne j) hfreed⟩,
      compareSwitch_stuck hn1 hn2 ht hj1 hj2 (hothers j) (fun _ => hne j) hstc fun e => absurd e (hother n),
      compareSwitch_stuck hn1 hn2 ht hj1 hj2 (hothers j) (fun _ => hne j) hstk fun e => ?_,
      fun i h1 h2 hact => compareSwitch_stuck hn1 hn2 ht hj1 hj2 (hothers j) (fun _ => hne j) (hcol i h1 h2 hact)
        fun e => absurd e (hother i)⟩
    obtain rfl := (Prod.mk.inj e).2
    exact ⟨Option.some.inj (hp.symm.trans hk), hfreed⟩

end Sys2Proof.Machine
end

section
/-! PROOFS. The poll replies of the matrix's units and of the rotators (O53). -/

set_option Elab.async false

namespace Sys2Proof.Machine

/-! ### A poll reply is delivered (R171, R172) -/

/-- The state to which the content of a good poll reply is delivered. -/
def heard (addr : Nat) (s : State) : State := goodReply addr (endTxn s)

theorem goodReply_still (addr : Nat) (s : State) : (goodReply addr s).still = s.still := by
  unfold goodReply; dsimp only; split <;> rfl

theorem heard_still (addr : Nat) (s : State) : (heard addr s).still = s.still := goodReply_still ..

theorem heard_mx (addr : Nat) (s : State) : (heard addr s).mx = s.mx := by
  unfold heard goodReply; dsimp only; split <;> rfl

theorem heard_dir (addr : Nat) (s : State) : (heard addr s).dir = s.dir := by
  unfold heard goodReply; dsimp only; split <;> rfl

theorem heard_whole {addr : Nat} {s : State} (h : s.whole) : (heard addr s).whole := by
  obtain ⟨hsized, hstore⟩ := (whole_iff s).mp h
  have hst : (heard addr s).store = s.store := by injection heard_still addr s
  exact (whole_iff _).mpr ⟨sized_of_shape hsized (goodReply_shape ..), by rw [hst]; exact hstore⟩

section
variable {addr : Nat} {t : Txn} {s : State} (hp : s.pins.powered = true) (ht : s.line.txn = some t) (ha : t.addr = addr)
  (hfn : t.fn = .poll) (hlive : t.live = true)
include ht ha hfn hlive

/-- A poll's good reply is delivered to its owner, and the line takes its next command (R172). -/
theorem answerTxn_poll {formed : Txn → Bool} (hf : formed t = true) (deliver : Txn → State → State) :
    answerTxn (pollOf addr) formed deliver s = commandSlot (rest (deliver t (heard addr s))) := by
  have hheard : pollOf addr t = true := by simp [pollOf, hfn, ha]
  unfold answerTxn
  rw [ht]
  dsimp only
  rw [hlive, hheard, hf, ha]
  unfold afterTxn
  rw [hfn]
  rfl

omit ht hfn in
theorem polls_of_kind {kind : UnitKind} (hk : (unitAt s addr).kind = some kind) : polls s kind t = true := by
  simp [polls, boundAs, hlive, ha, hk]

include hp

theorem exec_pollReplyMdu {n : Nat} (hn : (unitAt s addr).owner = n) (hk : (unitAt s addr).kind = some .mdu)
    {positions : List SwitchPos} (hl : positions.length = 34) : exec (.pollReplyMdu addr positions) s =
      .next (settle (commandSlot (rest (pollRow n positions (heard addr s))))) := by
  show execPollReplyMdu addr positions s = _
  unfold execPollReplyMdu
  rw [event_powered hp, answerTxn_poll ht ha hfn hlive (by rw [polls_of_kind ha hlive hk, hl]; rfl), ha, hn]

theorem exec_pollReplyAru {n : Nat} (hn : (unitAt s addr).owner = n) (hk : (unitAt s addr).kind = some .aru)
    {rep : AruReply} (haz : rep.azimuth ≤ 359) : exec (.pollReplyAru addr rep) s =
      .next (settle (commandSlot (rest (pollRotator n rep (heard addr s))))) := by
  have hform : (polls s .aru t && within 0 359 rep.azimuth) = true := by
    rw [polls_of_kind ha hlive hk]
    simp [within, haz]
  show execPollReplyAru addr rep s = _
  unfold execPollReplyAru
  rw [event_powered hp, answerTxn_poll ht ha hfn hlive hform, ha, hn]

end

/-! ### An ARU's reply (R122, R123) -/

theorem updRotator_updRotator (a : Nat) (f g : Rotator → Rotator) (s : State) :
    (updRotator a g (updRotator a f s)).mx = (updRotator a (g ∘ f) s).mx := by
  show { s.mx with rotators := updNth (updNth s.mx.rotators a (Option.map f)) a (Option.map g) } = _
  rw [updNth_updNth, Option.map_comp_map]
  rfl

/-- The rotator record as the reply gives it. -/
def Rotator.reported (rep : AruReply) (k : Rotator) : Rotator :=
  { k with azimuth := some rep.azimuth, moving := rep.moving, fault := rep.fault }

section
variable {a : Nat} {rep : AruReply} {p : RotatorPart} {k : Rotator} {s : State} (hp : rotatorPart? s a = some p)
  (hk : rotator? s a = some k)
include hk

theorem rotator_reported : rotator? (updRotator a (Rotator.reported rep) s) a = some (k.reported rep) := by
  rw [rotator_updRotator, if_pos rfl, hk]
  rfl

include hp

/-- A reply is written; while the rotator slews it ends the slew by its fault, or at the target (log 27). -/
theorem pollRotator_eq : pollRotator a rep s =
    if k.slew = .slewing then
      if rep.fault then failSlew a (updRotator a (Rotator.reported rep) s)
      else if p.distance rep.azimuth (k.target.getD 0) ≤ 1 then completeSlew a (updRotator a (Rotator.reported rep) s)
      else updRotator a (Rotator.reported rep) s
    else updRotator a (Rotator.reported rep) s := by
  have hk' := rotator_reported (rep := rep) hk
  have hp' : rotatorPart? (updRotator a (Rotator.reported rep) s) a = some p := hp
  unfold Rotator.reported at hk' hp'
  unfold pollRotator
  dsimp only
  rw [hp', hk']
  simp only [atTarget, decide_eq_true_eq]
  rfl

end

/-- The order of a slew is told that it has ended. -/
def tellEnded (who : Option Nat) (s : State) : State :=
  match who with
  | some id => slewEnded id s
  | none => s

theorem completeSlew_eq {a : Nat} {r : Rotator} {s : State} (h : rotator? s a = some r) :
    completeSlew a s = tellEnded r.order (updRotator a Rotator.done s) := by
  unfold completeSlew
  rw [h]
  rfl

section
variable {a : Nat} {r : Rotator} {s : State} (h : rotator? s a = some r)
include h
theorem completeSlew_mx : (completeSlew a s).mx = (updRotator a Rotator.done s).mx := by
  rw [completeSlew_eq h]; unfold tellEnded; split <;> rfl
theorem completeSlew_dir : (completeSlew a s).dir = s.dir := by rw [completeSlew_eq h]; unfold tellEnded; split <;> rfl
theorem completeSlew_tx : (completeSlew a s).tx = s.tx := by rw [completeSlew_eq h]; unfold tellEnded; split <;> rfl
theorem completeSlew_prot : (completeSlew a s).prot = s.prot := by rw [completeSlew_eq h]; unfold tellEnded; split <;> rfl
end

section
variable {a : Nat} {rep : AruReply} {p : RotatorPart} {k : Rotator} {s : State} (hp : rotatorPart? s a = some p)
  (hk : rotator? s a = some k)
include hp hk

/-- The reply writes the record, and a slew that ends with it writes its end there; the rest of the matrix, the transmitters
and the protection stay. -/
theorem pollRotator_frame : (∃ f : Rotator → Rotator, (pollRotator a rep s).mx = (updRotator a f s).mx) ∧
    (pollRotator a rep s).tx = s.tx ∧ (pollRotator a rep s).prot = s.prot := by
  have hk' := rotator_reported (rep := rep) hk
  rw [pollRotator_eq hp hk]
  (repeat' split)
  · exact ⟨⟨Rotator.failed ∘ Rotator.reported rep, by rw [failSlew_mx hk', updRotator_updRotator]⟩,
      failSlew_tx hk', failSlew_prot hk'⟩
  · exact ⟨⟨Rotator.done ∘ Rotator.reported rep, by rw [completeSlew_mx hk', updRotator_updRotator]⟩,
      completeSlew_tx hk', completeSlew_prot hk'⟩
  · exact ⟨⟨_, rfl⟩, rfl, rfl⟩
  · exact ⟨⟨_, rfl⟩, rfl, rfl⟩

end

theorem heard_rotator (addr : Nat) {a : Nat} {k : Rotator} {s : State} (h : rotator? s a = some k) :
    rotator? (heard addr s) a = some k := by
  rw [← h]
  unfold rotator?
  rw [heard_mx]

theorem heard_rotatorPart (addr : Nat) {a : Nat} {p : RotatorPart} {s : State} (h : rotatorPart? s a = some p) :
    rotatorPart? (heard addr s) a = some p := by
  have hhall : (heard addr s).hall = s.hall := by injection heard_still addr s
  rw [← h]
  unfold rotatorPart? antRec?
  rw [hhall]

section
variable {a : Nat} {rep : AruReply} {p : RotatorPart} {k : Rotator} {s : State} (hp : rotatorPart? s a = some p)
  (hk : rotator? s a = some k)
include hp hk

/-- R122, R123, case by case. -/
theorem pollRotator_outcome (hw : s.whole) :
    (∀ b, b ≠ a → rotator? (pollRotator a rep s) b = rotator? s b) ∧
      { (pollRotator a rep s).mx with rotators := s.mx.rotators } = s.mx ∧
      (k.slew ≠ .slewing → rotator? (pollRotator a rep s) a = some (k.reported rep) ∧
        (pollRotator a rep s).chg = s.chg ∧ (pollRotator a rep s).dir = s.dir) ∧
      (k.slew = .slewing → rep.fault = true → rotator? (pollRotator a rep s) a = some (k.reported rep).failed ∧
        (dirRec (pollRotator a rep s) a).faultRotator = true) ∧
      (k.slew = .slewing → rep.fault = false → p.distance rep.azimuth (k.target.getD 0) ≤ 1 →
        rotator? (pollRotator a rep s) a = some (k.reported rep).done ∧ (pollRotator a rep s).dir = s.dir) ∧
      (k.slew = .slewing → rep.fault = false → 1 < p.distance rep.azimuth (k.target.getD 0) →
        rotator? (pollRotator a rep s) a = some (k.reported rep) ∧
          (pollRotator a rep s).chg = s.chg ∧ (pollRotator a rep s).dir = s.dir) := by
  obtain ⟨f, hmx⟩ := (pollRotator_frame (rep := rep) hp hk).1
  have hk' := rotator_reported (rep := rep) hk
  refine ⟨fun b hb => (rotator_of_mx hmx hk).trans (if_neg hb), mx_but_rotators hmx, ?_, ?_, ?_, ?_⟩
  all_goals rw [pollRotator_eq hp hk]
  · intro hslew
    rw [if_neg hslew]
    exact ⟨hk', rfl, rfl⟩
  · intro hslew hfault
    obtain ⟨h1, h2⟩ := bounds_of_nth (Option.join_eq_some_iff.mp hk)
    rw [hw.rotators_length] at h2
    rw [if_pos hslew, if_pos hfault]
    exact ⟨(rotator_of_mx (failSlew_mx hk') hk').trans (if_pos rfl),
      failSlew_faulted hk' (whole_of_given hw (by simp)) h1 (by omega)⟩
  · intro hslew hfault hnear
    rw [if_pos hslew, if_neg (by rw [hfault]; exact Bool.false_ne_true), if_pos hnear]
    exact ⟨(rotator_of_mx (completeSlew_mx hk') hk').trans (if_pos rfl), completeSlew_dir hk'⟩
  · intro hslew hfault hfar
    rw [if_pos hslew, if_neg (by rw [hfault]; exact Bool.false_ne_true), if_neg (by omega)]
    exact ⟨hk', rfl, rfl⟩

end

/-! ### The check of a switch found closed (R117) -/

theorem foreignTo_eq_none {s : State} {r : Nat} {id : Option Nat} (h : ∀ k ∈ id, ¬ rowOfOrder s k ≠ some r) :
    foreignTo s r id = none := by
  unfold foreignTo
  rw [Option.filter_eq_none_iff]
  intro k hk
  simpa using h k hk

theorem foreignHolder_claiming {s : State} {r c id : Nat} (hc : (dirRec s c).claiming = some id)
    (hf : rowOfOrder s id ≠ some r) : foreignHolder s r c = some id := by
  have hfor : foreignTo s r (dirRec s c).claiming = some id := by
    unfold foreignTo
    rw [hc, Option.filter_some, if_pos (by simpa using hf)]
  unfold foreignHolder
  rw [hfor]
  rfl

section
variable {s : State} (hw : s.whole) {r c : Nat} (hrc : OnMatrix (r, c)) (hrows : activeRows s r c = [])
include hw hrc hrows

/-- The check passes: the crosspoint is CLOSED. -/
theorem foundClosed_accepted (hno : foreignHolder s r c = none) :
    (foundClosed r c [] s).still = (setXp r c .closed s).still ∧ dirRec (foundClosed r c [] s) c = { dirRec s c with
      state := (lawOf (setXp r c .closed s) c).1, owner := (lawOf (setXp r c .closed s) c).2 } := by
  rw [foundClosed_passes hrows hno]
  refine ⟨?_, ?_⟩
  · rw [offerWaiters_still, emit_still, sweepQueue_still, acceptedXp_still]
  · rw [dirRec_of_dir (offerWaiters_dir ..), dirRec_of_dir (emit_dir ..), dirRec_of_dir (sweepQueue_dir ..)]
    exact dirRec_acceptedXp hw hrc.2.1 hrc.2.2

/-- A column claimed on another row: the crosspoint is STUCK, the column FAULTED, none waits, and that order fails. -/
theorem foundClosed_refused {id : Nat} (hid : foreignHolder s r c = some id) :
    (∀ i j, xpAt (foundClosed r c [] s) i j = if (i, j) = (r, c) then (xpAt s i j).stuck else xpAt s i j) ∧
      (dirRec (foundClosed r c [] s) c).faultStuck = true ∧ (dirRec (foundClosed r c [] s) c).waiting = [] ∧
      .fail id .routeStuck ∈ (foundClosed r c [] s).agenda := by
  have hsettled : (settleColumn c (makeStuck r c (some .closed) .claimedColumn s)).whole := whole_of_given hw (by simp)
  have hrefused : (refusedXp r c id s).whole := whole_of_given hw (by simp [refusedXp])
  have hrec : (dirRec (refusedXp r c id s) c).faultStuck = true := by
    unfold refusedXp
    rw [dirRec_of_dir (emit_dir ..), dirRec_setFault hsettled hrc.2.1 hrc.2.2, if_pos rfl]
    rfl
  rw [foundClosed_claimed hrows hid]
  refine ⟨fun i j => ?_, ?_, ?_, (failWaiting_tells ..).mem (mem_emit ..)⟩
  · rw [xpAt_of_still (refusedXp_still r c s id), xpAt_makeStuck hw hrc]
  · rw [dirRec_failWaiting hrefused hrc.2.1 hrc.2.2, if_pos rfl]
    exact hrec
  · rw [dirRec_failWaiting hrefused hrc.2.1 hrc.2.2, if_pos rfl]

end

/-- Another switch of the row or the column stands closed: all of them are STUCK, and their columns FAULTED. -/
theorem foundClosed_doubled {s : State} (hw : s.whole) {r c : Nat} (hrc : OnMatrix (r, c)) {others : List Nat}
    (ho : ∀ k ∈ others, 1 ≤ k ∧ k ≤ 34) (h : others ≠ [] ∨ activeRows s r c ≠ []) :
    (∀ i j, xpAt (foundClosed r c others s) i j =
        if (i, j) ∈ hitBy r c others (activeRows s r c) then (xpAt s i j).stuck else xpAt s i j) ∧
      ∀ k ∈ c :: others, (dirRec (foundClosed r c others s) k).faultDouble = true ∧
        (dirRec (foundClosed r c others s) k).waiting = [] := by
  have hcols : ∀ k ∈ c :: others, 1 ≤ k ∧ k ≤ 34 := by
    intro k hk
    rcases List.mem_cons.mp hk with rfl | hk
    · exact hrc.2
    · exact ho k hk
  have hstuck : (stuckAll r (hitBy r c others (activeRows s r c)) s).whole := whole_of_given hw (stuckAll_given ..)
  rw [foundClosed_double h]
  refine ⟨fun i j => ?_, doubleClosed_faulted hstuck hcols⟩
  rw [xpAt_of_quiet (doubleClosed_quiet ..), xpAt_stuckAll (hitBy_onMatrix hrc ho s) r hw]

/-- Settles O53. -/
theorem matrixPollRepliesBringTheRecordsUpToDate : Obligations.MatrixPollRepliesBringTheRecordsUpToDate := by
  refine ⟨?_, ?_⟩
  · rintro addr n t s ⟨hp, -⟩ hw ha1 ha2 ht ha hfn hlive hn
    have hg := heard_still addr s
    have hgw := heard_whole (addr := addr) hw
    have hmove : ∀ c, movementAt? (heard addr s) n c = movementAt? s n c := fun c => by
      unfold movementAt?
      rw [heard_mx]
    refine ⟨fun positions hk hn1 hn2 hl hno => ?_, fun positions hk hn1 hn2 hl => ?_, fun rep p k hk haz hpart hrot => ?_⟩
    · have hno' : ∀ c, nth positions c = some .closed → (xpAt (heard addr s) n c).state ≠ .opened ∧
          (xpAt (heard addr s) n c).state ≠ .unknown := fun c hc => by rw [xpAt_of_still hg]; exact hno c hc
      obtain ⟨hap, hxp⟩ := pollRow_besides hn1 hn2 hgw hno'
      refine ⟨_, exec_pollReplyMdu hp ht ha hfn hlive hn hk hl, (chg_of_apart hap).trans (chg_of_still hg),
        (tx_of_apart hap).trans (tx_of_still hg), (prot_of_apart hap).trans (prot_of_still hg), fun r c hr => ?_,
        fun c hc1 hc2 => ?_⟩
      · rw [hxp r c hr, xpAt_of_still hg]
      · obtain ⟨q, hq⟩ := exists_nth (l := positions) hc1 (hl ▸ hc2)
        rw [pollRow_table hn1 hn2 hgw hno' hl hq hc1 hc2, hmove, xpAt_of_still hg, hq]
        unfold tableState
        rw [Option.map_map]
        cases (xpAt s n c).state <;> cases q <;> rfl
    · refine ⟨_, exec_pollReplyMdu hp ht ha hfn hlive hn hk hl, fun c k hck hc hkc hold => ?_⟩
      have hold' : (xpAt (heard addr s) n c).state = .opened ∨ (xpAt (heard addr s) n c).state = .unknown := by
        rwa [xpAt_of_still hg]
      obtain ⟨h1, h2, h3⟩ := pollRow_double hn1 hn2 hl hgw hck hc hkc hold'
      exact ⟨h1, h2, fun i hi1 hi2 hact => h3 i hi1 hi2 (by rwa [xpAt_of_still hg])⟩
    · obtain ⟨hother, hmx, hidle, hfault, harrived, hon⟩ := pollRotator_outcome (rep := rep)
        (heard_rotatorPart addr hpart) (heard_rotator addr hrot) hgw
      obtain ⟨-, htx, hprot⟩ := pollRotator_frame (rep := rep) (heard_rotatorPart addr hpart) (heard_rotator addr hrot)
      rw [heard_mx] at hmx
      rw [heard_dir] at hidle harrived hon
      rw [chg_of_still hg] at hidle hon
      refine ⟨_, exec_pollReplyAru hp ht ha hfn hlive hn hk haz, htx.trans (tx_of_still hg),
        hprot.trans (prot_of_still hg), fun b hb => ?_, hmx, hidle, hfault, harrived, hon⟩
      rw [hother b hb]
      unfold rotator?
      rw [heard_mx]
  · intro r c others s hw hr1 hr2 hc1 hc2 hold ho u rows foreign
    have hrc : OnMatrix (r, c) := ⟨⟨hr1, hr2⟩, hc1, hc2⟩
    refine ⟨fun hno hrows hclaim hhand => ?_, fun id hno hrows hclaim hforeign => ?_, fun hmore => ?_⟩
    · subst hno
      have hnone : foreignHolder s r c = none := by
        unfold foreignHolder
        rw [foreignTo_eq_none hclaim, foreignTo_eq_none hhand]
        rfl
      obtain ⟨hstill, hrec⟩ := foundClosed_accepted hw hrc hrows hnone
      have hact := colWhere_closed hw hrc hrows
      refine ⟨?_, fun i j hij => ?_, (log_of_still hstill :), (chg_of_still hstill :), fun hsome => ?_,
        fun hnoclaim hnohand => ?_, ?_⟩
      · rw [xpAt_of_still hstill]
        exact xpAt_updXp_same hw hr1 hr2 hc1 hc2 _
      · rw [xpAt_of_still hstill]
        exact xpAt_updXp_ne hij _ _
      · obtain ⟨id, hid⟩ := Option.isSome_iff_exists.mp hsome
        rw [hrec]
        exact lawOf_claimed hact hid (not_not.mp (hclaim id hid))
      · rw [hrec]
        exact lawOf_unclaimed hact (congrArg (·.state) (xpAt_updXp_same hw hr1 hr2 hc1 hc2 _)) hnoclaim hnohand
      · rw [hrec]
        exact lawOf_single hact
    · subst hno
      obtain ⟨hxp, hfault, hwait, hfail⟩ := foundClosed_refused hw hrc hrows (foreignHolder_claiming hclaim hforeign)
      refine ⟨?_, fun i j hij => ?_, hfault, hwait, hfail⟩
      · rw [hxp, if_pos rfl]
        rfl
      · rw [hxp, if_neg hij]
    · obtain ⟨hxp, hcols⟩ := foundClosed_doubled hw hrc (fun k hk => ⟨(ho k hk).1, (ho k hk).2.1⟩) hmore
      refine ⟨?_, fun k hk => ?_, fun k hk => ?_, fun i j hij hi hj => ?_, hcols⟩
      · rw [hxp, if_pos (mem_hitBy.mpr (.inl rfl))]
        rfl
      · rw [hxp, if_pos (mem_hitBy.mpr (.inr (.inl ⟨rfl, hk⟩)))]
        rfl
      · have hin : k ∈ activeRows s r c := hk
        rw [hxp, if_pos (mem_hitBy.mpr (.inr (.inr ⟨rfl, hin⟩)))]
        rfl
      · rw [hxp, if_neg]
        intro hm
        rcases mem_hitBy.mp hm with e | ⟨e, hin⟩ | ⟨e, hin⟩
        · exact hij e
        · exact hi e hin
        · exact hj e hin

end Sys2Proof.Machine
end
